-- ==== Sys2Proof/Word.lean ====
section
/-!
DEFINITION. The plain data of the part: bytes, port and lane numbers, lane sets, timers.
-/

namespace Sys2Proof

/-- A byte of a structure in host memory, of a frame on a lane, or of a module (Formats). -/
abbrev Byte := BitVec 8

/-- A 32-bit register of the window (R180). -/
abbrev Word := BitVec 32

/-- P0 to P31. -/
abbrev PortNo := Fin 32

/-- Lane 0 to lane 3 of a port. -/
abbrev LaneNo := Fin 4

/-- A set of lanes, written as Formats writes it: bit i for lane i. -/
abbrev LaneSet := BitVec 4

/-- A timer of the 1 ms tick (R186): stopped, or the milliseconds to its expiry. At 0 the expiry is due. -/
abbrev Timer := Option Nat

end Sys2Proof
end

