-- ==== Sys2Proof/Config.lean ====
section
/-!
DEFINITION. The capacities the spec fixes (00_scope.md, Capacities) and the values it leaves open.
-/

namespace Sys2Proof.Config

/-- Plan cache entries (R58). -/
def cacheSize : Nat := 8

/-- Pass-through queue places (R142). -/
def queueSize : Nat := 4

/-- Job slots (R153). -/
def slotCount : Nat := 16

/-- The reset pulse of RESETTING, in ms; fixed (R11). -/
def resetPulse : Nat := 10

/-- The repeat count of GO, REJECT, COMMIT, RETRY and HELD bursts (R91). -/
def burstCount : Nat := 4

/-- A read whose data do not arrive within this many ms of its issue faults (R171). -/
def readLimit : Nat := 50

/-- The largest beacon error count (R31). -/
def beaconErrMax : Nat := 65535

/-- The largest line error count and the largest E (R31, R112). -/
def countMax : Nat := 4294967295

/-- The largest N (R112, R126). -/
def nMax : Nat := 281474976710655

/-- DESIGN CHOICE (log 18). FREE VALUE: the attempt number after 255, which no rule gives (R1, R97). -/
opaque attemptAfter255 : Byte

/-- DESIGN CHOICE (log 19). FREE VALUE: whether, of the two bits of one NUDGE write, WORK acts first (R180). -/
opaque nudgeWorkFirst : Bool

end Sys2Proof.Config
end

