-- ==== Sys2Proof/Syntax.lean ====
section
/-!
DEFINITION. The commands of the part: one constructor of Instr per row of spec/opcode_table.json.
-/

namespace Sys2Proof

/-- The sense of a delimiter, and of a lane's polarity (R31, R42). -/
inductive Polarity where
  | normal
  | inverted
deriving DecidableEq, Repr

/-- The three ways a host-memory operation faults (R171). -/
inductive MemFaultCause where
  /-- A read whose completion returns an error status. -/
  | errorStatus
  /-- A read whose data do not arrive within 50 ms of its issue. -/
  | noData
  /-- Any access made while the host has turned off the endpoint's bus-master access. -/
  | busMasterOff
deriving DecidableEq, Repr

/-- A request as the work engine holds it at its take (R154): the descriptor's index, its I flag, and the fields
that a request reads. The port is the byte as read, 0 to 255 (R163). -/
structure Request where
  index   : Nat
  iFlag   : Bool
  port    : Byte
  argA    : Word
  argB    : Word
  bufAddr : BitVec 64
  bufLen  : BitVec 16
deriving DecidableEq, Repr

/-- One command: a register write, an event on a pin, a lane, the module bus or the memory master, a timer's expiry,
a request taken from the work table, or a tick of the timebase. -/
inductive Instr where
  /-- POWER_ON (R185). -/
  | powerOn
  /-- RESET_N: the pin goes low (R185). -/
  | resetN
  /-- RESET_END: the reset ends with these levels on the strap pins and the presence inputs (R185, R186). -/
  | resetEnd (strapPins : BitVec 12) (presence : BitVec 32)
  /-- DEVICE_RESET: a CONTROL write carrying it (R185). -/
  | deviceReset
  /-- ENGINE_RESTART: a CONTROL write carrying it without DEVICE_RESET (R184). -/
  | engineRestart
  /-- RUN_SET: a CONTROL write of RUN = 1 (R181). -/
  | runSet
  /-- RUN_CLEAR: a CONTROL write of RUN = 0 (R181). -/
  | runClear
  /-- NUDGE_WORK (R155). -/
  | nudgeWork
  /-- NUDGE_REPORTS (R175). -/
  | nudgeReports
  /-- EVENTS_CLEAR: a write of this word to EVENTS (R179). -/
  | eventsClear (value : Word)
  /-- EVENT_MASK_WRITE (R179). -/
  | eventMaskWrite (value : Word)
  /-- REGISTER_WRITE: a write to this offset of the 64-byte window (R180). -/
  | registerWrite (offset : BitVec 6) (value : Word)
  /-- PRESENCE_RAISED (R9). -/
  | presenceRaised (p : PortNo)
  /-- PRESENCE_LOST (R10). -/
  | presenceLost (p : PortNo)
  /-- ALERT_ASSERTED (R6). -/
  | alertAsserted (p : PortNo)
  /-- LOCK_GAINED (R34). -/
  | lockGained (p : PortNo) (i : LaneNo)
  /-- LOCK_LOST (R35). -/
  | lockLost (p : PortNo) (i : LaneNo)
  /-- DELIMITER_FOUND with its sense (R42). -/
  | delimiterFound (p : PortNo) (i : LaneNo) (sense : Polarity)
  /-- BEACON_FRAME: the 18 bytes that follow a delimiter (R43). -/
  | beaconFrame (p : PortNo) (i : LaneNo) (bytes : Vector Byte 18)
  /-- TRAINING_WORD: 6 payload bytes and the check (R51). -/
  | trainingWord (p : PortNo) (i : LaneNo) (bytes : Vector Byte 8)
  /-- LINE_ERROR_INCREMENT: a count of one or more errors (R52). -/
  | lineErrorIncrement (p : PortNo) (i : LaneNo) (count : Nat)
  /-- SEND_INSTANT (R38). -/
  | sendInstant (p : PortNo)
  /-- BURST_SENT (R40). -/
  | burstSent (p : PortNo)
  /-- RESET_PULSE_EXPIRY (R11). -/
  | resetPulseExpiry (p : PortNo)
  /-- SETTLE_EXPIRY (R12). -/
  | settleExpiry (p : PortNo)
  /-- SIGNAL_WINDOW_EXPIRY (R19). -/
  | signalWindowExpiry (p : PortNo)
  /-- PHASE_WAIT_EXPIRY (R107). -/
  | phaseWaitExpiry (p : PortNo)
  /-- TRAIN_TIMEOUT (R103). -/
  | trainTimeout (p : PortNo)
  /-- DWELL_EXPIRY (R123). -/
  | dwellExpiry (p : PortNo)
  /-- TEST_TIMER_EXPIRY (R123). -/
  | testTimerExpiry (p : PortNo)
  /-- TEST_SATURATED (R126). -/
  | testSaturated (p : PortNo)
  /-- AWAIT_TIMEOUT: the timeout timer of the PORT_AWAIT in this job slot (R167). -/
  | awaitTimeout (slot : Fin 16)
  /-- SCAN_TIMER_EXPIRY (R156). -/
  | scanTimerExpiry
  /-- WATCHDOG_EXPIRY; the bytes the try had moved when it was aborted (R139). -/
  | watchdogExpiry (bytesDone : Nat)
  /-- RECOVERY_END; whether the data line is sampled high (R140). -/
  | recoveryEnd (dataHigh : Bool)
  /-- ADDRESS_NACK (R136). -/
  | addressNack
  /-- BYTE_NACK; the data bytes acknowledged before the refused one (R137). -/
  | byteNack (acked : Nat)
  /-- TRY_COMPLETE; the bytes received, for a read (R138). -/
  | tryComplete (data : List Byte)
  /-- ANCHOR_READ_DONE (R150). -/
  | anchorReadDone (block : Vector Byte 64)
  /-- CONFIG_READ_DONE (R170). -/
  | configReadDone (block : Vector Byte 64)
  /-- DESCRIPTOR_READ_DONE (R157). -/
  | descriptorReadDone (desc : Vector Byte 32)
  /-- BUFFER_READ_DONE: the write data of a MODULE_WRITE (R168). -/
  | bufferReadDone (data : List Byte)
  /-- FILL_COMPLETE: the 16 bytes of a plan entry (R61). -/
  | fillComplete (entry : Vector Byte 16)
  /-- REPORT_READ_DONE: the ownership byte read (R176, R177). -/
  | reportReadDone (owner : Byte)
  /-- REPORT_WRITE_DONE (R175, R176). -/
  | reportWriteDone
  /-- COMPLETION_WRITE_DONE (R162). -/
  | completionWriteDone
  /-- MEMORY_FAULT (R172). -/
  | memoryFault (cause : MemFaultCause)
  /-- DRAIN_END (R183). -/
  | drainEnd
  /-- PORT_ENABLE (R7). -/
  | portEnable (r : Request)
  /-- PORT_DISABLE (R8). -/
  | portDisable (r : Request)
  /-- PORT_RESTART (R26). -/
  | portRestart (r : Request)
  /-- PORT_QUERY (R165). -/
  | portQuery (r : Request)
  /-- LANE_TEST (R166). -/
  | laneTest (r : Request)
  /-- LANE_TEST_STOP (R125). -/
  | laneTestStop (r : Request)
  /-- PORT_AWAIT (R167). -/
  | portAwait (r : Request)
  /-- MODULE_READ (R168). -/
  | moduleRead (r : Request)
  /-- MODULE_WRITE (R168). -/
  | moduleWrite (r : Request)
  /-- PLAN_FLUSH (R67). -/
  | planFlush (r : Request)
  /-- CAPS_LIMIT (R16). -/
  | capsLimit (r : Request)
  /-- SET_CONFIG (R170). -/
  | setConfig (r : Request)
  /-- TICK: 1 ms of the timebase (R186). -/
  | tick
deriving DecidableEq, Repr

end Sys2Proof
end

