-- ==== Sys2Proof/WellFormed.lean ====
section
/-!
DEFINITION. The checks on a command's operands that the types do not already make.
-/

namespace Sys2Proof

/-- A request's index names an entry of the largest work table (R150: 1 to 64 descriptors). -/
def Request.wellFormed (r : Request) : Bool := r.index < 64

/-- A command that the part's surroundings can give: an increment carries one error or more and is a 32-bit count (R52),
a module transfer moves 1 to 64 bytes (R133), a request comes from the table (R150). -/
def Instr.wellFormed : Instr → Bool
  | .lineErrorIncrement _ _ n => 1 ≤ n ∧ n ≤ Config.countMax
  | .watchdogExpiry n => n ≤ 64
  | .byteNack n => n < 64
  | .tryComplete d => d.length ≤ 64
  | .bufferReadDone d => 1 ≤ d.length ∧ d.length ≤ 64
  | .portEnable r | .portDisable r | .portRestart r | .portQuery r | .laneTest r | .laneTestStop r => r.wellFormed
  | .portAwait r | .moduleRead r | .moduleWrite r | .planFlush r | .capsLimit r | .setConfig r => r.wellFormed
  | .powerOn | .resetN | .resetEnd _ _ | .deviceReset | .engineRestart | .runSet | .runClear => true
  | .nudgeWork | .nudgeReports | .eventsClear _ | .eventMaskWrite _ | .registerWrite _ _ => true
  | .presenceRaised _ | .presenceLost _ | .alertAsserted _ | .lockGained _ _ | .lockLost _ _ => true
  | .delimiterFound _ _ _ | .beaconFrame _ _ _ | .trainingWord _ _ _ | .sendInstant _ | .burstSent _ => true
  | .resetPulseExpiry _ | .settleExpiry _ | .signalWindowExpiry _ | .phaseWaitExpiry _ | .trainTimeout _ => true
  | .dwellExpiry _ | .testTimerExpiry _ | .testSaturated _ | .awaitTimeout _ | .scanTimerExpiry => true
  | .recoveryEnd _ | .addressNack | .anchorReadDone _ | .configReadDone _ | .descriptorReadDone _ => true
  | .fillComplete _ | .reportReadDone _ | .reportWriteDone | .completionWriteDone | .memoryFault _ => true
  | .drainEnd | .tick => true

end Sys2Proof
end

