-- ==== Sys2Proof/Machine/State.lean ====
section
/-!
DEFINITION. The state of the part as plain data: every piece of state the spec gives each block, the reasons a step
can stop (none), and the state after reset. INVENTORY.md lists each field with its rule and reset value.
-/

namespace Sys2Proof.Machine

/-! ## Names -/

/-- The eleven port states (section 1.2). -/
inductive PortState where
  | off | empty | identify | signal | dark | agree | train | qualify | confirm | active | held
deriving DecidableEq, Repr

/-- The sub-steps of IDENTIFY (R1). -/
inductive SubStep where
  | resetting | settling | reading | planning
deriving DecidableEq, Repr

/-- The six lane states (R31). -/
inductive LaneState where
  | quiet | beacon | training | locked | data | failed
deriving DecidableEq, Repr

/-- The receiver phase of a lane (R31). -/
inductive RxPhase where
  | hunt | collect
deriving DecidableEq, Repr

/-- The four rate grades (00_scope.md, Rate grades). -/
inductive Grade where
  | g1 | g2 | g3 | g4
deriving DecidableEq, Repr

/-- The port's role in agreement (R89). -/
inductive Role where
  | noRole | lead | follow | self
deriving DecidableEq, Repr

/-- The verdicts of cabling verification (R75, R83). -/
inductive Verdict where
  | noVerdict | matched | remapped | loopbackOk | unplanned | miswired | split | lanesCrossed | loopback
  | halfCrossed | oneWay | epochWait
deriving DecidableEq, Repr

/-- The hold reasons (R13, R14, R18 to R25, R97 to R108; codes in Formats). -/
inductive HoldReason where
  | noReason | moduleUnreadable | moduleCorrupt | moduleUnsupported | planUnavailable | unplanned | miswired | split
  | lanesCrossed | loopback | halfCrossed | oneWay | farHeld | farRejected | agreeConflict | noUsableLanes
  | noAgreement | qualifyFailed | flapping | linkDropped | testFailed
deriving DecidableEq, Repr

/-- The six beacon phases and the five training-word phases (R40, R45, R51). -/
inductive Phase where
  | hello | propose | accept | reject | go | heldBeacon
  | training | result | commit | retry | heldWord
deriving DecidableEq, Repr

/-- The lane verdicts of a test (R112). -/
inductive LaneVerdict where
  | pass | fail | stopped | below | lost
deriving DecidableEq, Repr

/-- BRING_UP or LANE_TEST (R112). -/
inductive TestKind where
  | bringUp | laneTest
deriving DecidableEq, Repr

/-- The module kinds that R146 accepts. -/
inductive ModuleKind where
  | passiveCopper | activeCopper | optical | loopbackPlug
deriving DecidableEq, Repr

/-- The statuses of a completed request (Formats). -/
inductive Status where
  | ok | already | badKind | badPort | badArg | wrongState | busy | noModule | noAck | busTimeout | busStuck
  | portLost | portDisabled | portRestarted | shortBuffer | noTest | timedOut | noIdentity
deriving DecidableEq, Repr

/-- The work engine's states (R153). -/
inductive EngineState where
  | stopped | starting | running | draining | halted
deriving DecidableEq, Repr

/-- The halt causes (R180). -/
inductive HaltCause where
  | noCause | anchorInvalid | memoryFault
deriving DecidableEq, Repr

/-- Whether a scan is in progress (R153), and what it waits for: a descriptor read (R157), or the start read of a
request it has taken (R158). -/
inductive ScanPhase where
  | noScan | reading | starting
deriving DecidableEq, Repr

/-- The cause on which the last scan ended (R153, R157). -/
inductive Stall where
  | noStall
  | slot
  | place
  | index (i : Nat)
deriving DecidableEq, Repr

/-- The report engine's writer phase (R173). -/
inductive WriterPhase where
  | idle | reading | stalled
deriving DecidableEq, Repr

/-- The module bus controller's states (R132). -/
inductive BusState where
  | idle | transfer | recovery
deriving DecidableEq, Repr

/-- Whether the part is held in reset: not, while RESET_N is low (power-on included), or for the rest of the 1 ms
after a DEVICE_RESET write (R185). -/
inductive ResetHold where
  | released
  | pin
  | timed (left : Nat)
deriving DecidableEq, Repr

/-! ## Lane records and ports -/

/-- The identity fields of a beacon (R46); a candidate and a far identity hold the same fields (R31). -/
structure Ident where
  chassis : BitVec 16
  port    : BitVec 5
  lane    : BitVec 2
  epoch   : BitVec 16
deriving DecidableEq, Repr

/-- A cable end: chassis ID and port number (00_scope.md, Setting). -/
structure CableEnd where
  chassis : BitVec 16
  port    : BitVec 5
deriving DecidableEq, Repr

/-- The part of a negotiation record that only beacons carry (R48); training words keep it (R51). -/
structure BeaconPart where
  sender      : Ident
  propGrade   : Byte
  propSet     : LaneSet
  grades      : BitVec 4
  widths      : BitVec 3
  seenChassis : BitVec 16
  seenPort    : Byte
deriving DecidableEq, Repr

/-- The negotiation record of a lane (R48, R51). -/
structure NegRecord where
  phase   : Phase
  attempt : Byte
  good    : LaneSet
  reason  : Byte
  beacon  : Option BeaconPart
deriving DecidableEq, Repr

/-- What a lane's verdict fixes (R112): the verdict, lane N, Q and EARLY. -/
structure TestVerdict where
  verdict : LaneVerdict
  n       : Nat
  q       : Nat
  early   : Bool
deriving DecidableEq, Repr

/-- The lane part of a test (R112): running while no verdict is given. -/
structure TestRecord where
  e     : Nat
  given : Option TestVerdict
deriving DecidableEq, Repr

/-- The lane record (R31). -/
structure Lane where
  st         : LaneState
  grade      : Option Grade
  rx         : RxPhase
  polarity   : Polarity
  cand       : Option Ident
  rep        : Nat
  far        : Option Ident
  neg        : Option NegRecord
  beaconErrs : Nat
  lineErrs   : Nat
  test       : Option TestRecord
deriving DecidableEq, Repr

/-- The recorded module identity (R146). -/
structure ModuleId where
  kind   : ModuleKind
  lanes  : Nat
  grade  : Byte
  length : BitVec 16
  maker  : Vector Byte 4
  serial : Vector Byte 12
deriving DecidableEq, Repr

/-- A plan copy: the fields of R56 as read (R57). -/
structure PlanCopy where
  loopback   : Bool
  remap      : Bool
  farChassis : BitVec 16
  mask       : BitVec 16
  farPort    : BitVec 5
  anyPort    : Bool
  laneMap    : BitVec 8
  grades     : BitVec 4
  minWidth   : Byte
  target     : Byte
  dwell      : BitVec 16
deriving DecidableEq, Repr

/-- Plan status (R1). -/
inductive PlanStatus where
  | notLookedUp
  | planned (copy : PlanCopy)
  | unplanned
deriving DecidableEq, Repr

/-- The port part of a test (R112). Its N is R_g times `elapsed`. `dwell` is absent for a CONTINUOUS test. -/
structure PortTest where
  kind       : TestKind
  lanes      : LaneSet
  grade      : Grade
  target     : Nat
  dwell      : Option Nat
  eAllow     : Option Nat
  elapsed    : Nat
  extended   : Bool
  lowered    : Bool
  clamped    : Bool
  saturated  : Bool
  dropOnFail : Bool
  ended      : Bool
deriving DecidableEq, Repr

/-- One port controller: the port context (R1, R90), its timers and send clock (R27, R28, R38), its two sideband
outputs (R5), its four lane records (R31) and its qualification unit (R112; absent is test status NONE). -/
structure Port where
  st          : PortState
  sub         : Option SubStep
  present     : Bool
  holdOnDrop  : Bool
  gradeCeil   : Nat
  widthCeil   : Nat
  ident       : Option ModuleId
  plan        : PlanStatus
  capGrades   : BitVec 4
  capWidths   : BitVec 3
  role        : Role
  verdict     : Verdict
  far         : Option CableEnd
  laneMap     : Vector (Option (BitVec 2)) 4
  usable      : LaneSet
  attempt     : Byte
  left        : Nat
  qualReached : Bool
  agreed      : Option Grade
  laneSet     : LaneSet
  good        : LaneSet
  drops       : Nat
  holdReason  : HoldReason
  nextGrade   : Option Grade
  phase       : Phase
  phaseReason : HoldReason
  burst       : Option Nat
  phaseTimer  : Timer
  dwellTimer  : Timer
  testTimer   : Timer
  sendClock   : Timer
  lowPower    : Bool
  modReset    : Bool
  lanes       : Vector Lane 4
  test        : Option PortTest
deriving DecidableEq, Repr

/-! ## Plan cache, module bus -/

/-- One cached plan entry (R58). -/
structure CacheEntry where
  port  : PortNo
  bytes : Vector Byte 16
deriving DecidableEq, Repr

/-- The plan cache (R58); its outstanding fills are the fill operations of the memory master's list (log 11). -/
structure PlanCache where
  entries     : List CacheEntry
  gen         : BitVec 32
  epoch       : BitVec 16
  fillPending : Vector Bool 32
deriving DecidableEq, Repr

/-- What a module bus transaction moves (R133). -/
structure Transfer where
  isWrite : Bool
  device  : BitVec 7
  page    : Byte
  offset  : Byte
  len     : Nat
  data    : List Byte
deriving DecidableEq, Repr

/-- The identity a pass-through job keeps beside its transfer (R161). -/
structure JobTag where
  index   : Nat
  iFlag   : Bool
  bufAddr : BitVec 64
deriving DecidableEq, Repr

/-- A pass-through job (R142, R161). -/
structure PassJob where
  tag  : JobTag
  port : PortNo
  xfer : Transfer
deriving DecidableEq, Repr

/-- The requester of a transaction (R132). -/
inductive Requester where
  | port
  | job (tag : JobTag)
deriving DecidableEq, Repr

/-- The current transaction record (R132), with the two values recorded at the grant (R134). -/
structure Txn where
  requester    : Requester
  port         : PortNo
  xfer         : Transfer
  retries      : Nat
  watchdogMs   : Nat
  tries        : Nat
  bytesDone    : Nat
  cut          : Bool
  portEvent    : Bool
  presenceLost : Bool
deriving DecidableEq, Repr

/-- The module bus controller (R132). -/
structure BusCtl where
  st       : BusState
  current  : Option Txn
  selected : Option PortNo
  watchdog : Timer
  stuck    : Vector Bool 32
deriving DecidableEq, Repr

/-- The module bus arbiter (R142). -/
structure Arbiter where
  requests : Vector Bool 32
  queue    : List PassJob
  rotation : PortNo
  since    : Nat
deriving DecidableEq, Repr

/-! ## Work engine, memory master, report engine, registers -/

/-- The anchor copy (R150). -/
structure AnchorCopy where
  workBase    : Nat
  workCount   : Nat
  reportBase  : Nat
  reportCount : Nat
  planBase    : Nat
  planCount   : Nat
deriving DecidableEq, Repr

/-- The configuration copy (R151). -/
structure ConfigCopy where
  settle          : Nat
  signalWindow    : Nat
  phaseWait       : Nat
  trainTimeout    : Nat
  beaconInterval  : Nat
  attemptBudget   : Nat
  dropLimit       : Nat
  watchdog        : Nat
  nackRetries     : Nat
  turnRatio       : Nat
  scanValue       : Nat
  defaultTarget   : Nat
  defaultDwell    : Nat
  admitUnplanned  : Bool
  chassisOverride : Bool
  scanEnable      : Bool
  overrideId      : BitVec 16
deriving DecidableEq, Repr

/-- The kind of a job in a slot; a PORT_AWAIT holds its timeout timer (R161). -/
inductive JobKind where
  | laneTest
  | await (timer : Timer)
deriving DecidableEq, Repr

/-- A job in a slot (R161). -/
structure Job where
  tag  : JobTag
  port : PortNo
  kind : JobKind
deriving DecidableEq, Repr

/-- The work engine (R153), with the RUN bit and halt cause of CONTROL (R180) and the latched anchor (R150). -/
structure WorkEngine where
  st          : EngineState
  run         : Bool
  haltCause   : HaltCause
  latched     : Word
  anchor      : AnchorCopy
  cfg         : ConfigCopy
  chassis     : BitVec 16
  cursor      : Nat
  scan        : ScanPhase
  scanPending : Bool
  stall       : Stall
  slots       : Vector (Option Job) 16
  scanTimer   : Timer
deriving DecidableEq, Repr

/-- An operation of the memory master's list (R171), tagged by its constructor with its requester. -/
inductive MemOp where
  /-- The anchor read of STARTING (R150). -/
  | anchorRead (addr : Nat)
  /-- The anchor read of a SET_CONFIG (R170). -/
  | configRead (addr : Nat) (r : Request)
  /-- A scan's descriptor read (R157). -/
  | descRead (addr : Nat)
  /-- The buffer read of a MODULE_WRITE (R168); the job it starts has no data yet. -/
  | bufferRead (addr : Nat) (j : PassJob)
  /-- A plan fill with the generation it was issued under (R60). -/
  | fill (addr : Nat) (p : PortNo) (gen : BitVec 32)
  /-- A report read of one ownership byte (R175). -/
  | reportRead (addr : Nat)
  /-- The TAKEN write of a take (R158). -/
  | takenWrite (addr : Nat) (b : Byte)
  /-- A completion's buffer write (R162). -/
  | bufferWrite (addr : Nat) (data : List Byte)
  /-- A completion's status byte (R162). -/
  | statusWrite (addr : Nat) (b : Byte)
  /-- A completion's result word (R162). -/
  | resultWrite (addr : Nat) (data : List Byte)
  /-- A completion's DONE write (R162). -/
  | doneWrite (addr : Nat) (b : Byte)
  /-- Bytes 1 to 31 of a report entry (R176). -/
  | reportBody (addr : Nat) (data : List Byte)
  /-- The FILLED write of a report entry (R176). -/
  | reportFilled (addr : Nat) (b : Byte)
deriving DecidableEq, Repr

/-- An operation with the mark that its requester has abandoned it: its outcome is discarded (R184). -/
structure MemEntry where
  op        : MemOp
  abandoned : Bool
deriving DecidableEq, Repr

/-- The memory master (R171): the head of the list is in progress; `age` is the time since the head's issue. -/
structure MemMaster where
  ops : List MemEntry
  age : Nat
deriving DecidableEq, Repr

/-- A pending-report record (R173); bit k of `kinds` as Formats orders the kinds. -/
structure ReportRec where
  kinds : BitVec 5
  count : Nat
deriving DecidableEq, Repr

/-- A report in flight (R176). -/
structure InFlight where
  port  : PortNo
  kinds : BitVec 5
  count : Nat
  index : Nat
deriving DecidableEq, Repr

/-- The report engine (R173). -/
structure ReportEngine where
  recs      : Vector ReportRec 32
  queue     : List PortNo
  cursor    : Nat
  phase     : WriterPhase
  reread    : Bool
  stallFlag : Bool
  inflight  : List InFlight
deriving DecidableEq, Repr

/-- The registers of the window that store what the host writes or the events set (R179, R180). -/
structure Registers where
  anchorReg : Word
  events    : BitVec 5
  mask      : BitVec 5
deriving DecidableEq, Repr

/-! ## What the part puts on its lines -/

/-- A front-end mode command (R33). -/
inductive FrontEnd where
  | quiet
  | beacon
  | train (g : Grade) (pol : Polarity)
  | data (g : Option Grade) (pol : Polarity)
deriving DecidableEq, Repr

/-- A piece of a try on the module bus (R135): what the controller puts there, and each byte it takes from the module with
the answer it gives. -/
inductive BusAct where
  | start
  | send (b : Byte)
  | restart
  /-- A byte from the module. -/
  | receive
  /-- The controller acknowledges the byte received. -/
  | ack
  /-- The controller answers the last byte of a read with a NACK. -/
  | nack
  | stop
deriving DecidableEq, Repr

/-- One thing the part puts on its lines. -/
inductive Out where
  /-- A mode command to a lane's front end (R33). -/
  | frontEnd (p : PortNo) (i : LaneNo) (m : FrontEnd)
  /-- A beacon: delimiter, payload, check (R39, section 2.4). -/
  | beacon (p : PortNo) (i : LaneNo) (bytes : List Byte)
  /-- A training word: payload, check (R50). -/
  | word (p : PortNo) (i : LaneNo) (bytes : List Byte)
  /-- An interrupt assertion (true) or deassertion (false) message (R179). -/
  | interrupt (level : Bool)
  /-- A try begun on the selected branch: what it sends and asks for (R135). -/
  | busTry (acts : List BusAct)
  /-- A stop condition (R134, R136, R137, R149). -/
  | busStop
  /-- The recovery sequence: data released, nine clock pulses, stop (R139). -/
  | busRecovery
  /-- A host-memory write carried out (R171). -/
  | hostWrite (addr : Nat) (data : List Byte)
deriving DecidableEq, Repr

/-! ## The whole part -/

/-- The state of the part. `pending` is the queue of waiting commands and `out` what the part put on its lines during
the latest command; both are the model's own fields (log 1, log 3). -/
structure State where
  hold    : ResetHold
  straps  : BitVec 12
  ms      : BitVec 32
  ports   : Vector Port 32
  cache   : PlanCache
  bus     : BusCtl
  arb     : Arbiter
  we      : WorkEngine
  mm      : MemMaster
  rep     : ReportEngine
  regs    : Registers
  out     : List Out
  pending : List Instr
deriving DecidableEq, Repr

/-- The part's commands never stop it: the spec answers every command, a host-memory fault included, with a next
state (R172). No meaning raises a fault, and the type has no constructor. -/
inductive Fault where
deriving DecidableEq, Repr

/-- Refusals: the host's name for a command without a meaning. -/
inductive Refusal where
  /-- Raised by exec alone, in an arm whose command has no meaning yet; no arm does. Safe. -/
  | notModelled (mnemonic : String)
deriving DecidableEq, Repr

/-! ## Reset -/

/-- A lane record after device reset (R31). -/
def Lane.initial : Lane :=
  ⟨.quiet, none, .hunt, .normal, none, 0, none, none, 0, 0, none⟩

/-- A port context after device reset (R1, R5, R38, R90, R112), its presence input at this level. -/
def Port.initial (present : Bool) : Port where
  st := .off
  sub := none
  present := present
  holdOnDrop := false
  gradeCeil := 0
  widthCeil := 0
  ident := none
  plan := .notLookedUp
  capGrades := 0
  capWidths := 0
  role := .noRole
  verdict := .noVerdict
  far := none
  laneMap := Vector.replicate 4 none
  usable := 0
  attempt := 0
  left := 0
  qualReached := false
  agreed := none
  laneSet := 0
  good := 0
  drops := 0
  holdReason := .noReason
  nextGrade := none
  phase := .hello
  phaseReason := .noReason
  burst := none
  phaseTimer := none
  dwellTimer := none
  testTimer := none
  sendClock := none
  lowPower := true
  modReset := false
  lanes := Vector.replicate 4 Lane.initial
  test := none

/-- The configuration copy after device reset: the values that a field of 0 gives (R151). -/
def ConfigCopy.initial : ConfigCopy where
  settle := 200
  signalWindow := 3000
  phaseWait := 1000
  trainTimeout := 500
  beaconInterval := 10
  attemptBudget := 4
  dropLimit := 0
  watchdog := 25
  nackRetries := 0
  turnRatio := 0
  scanValue := 0
  defaultTarget := 12
  defaultDwell := 1000
  admitUnplanned := false
  chassisOverride := false
  scanEnable := false
  overrideId := 0

/-- The plan cache after device reset (R58). -/
def PlanCache.initial : PlanCache := ⟨[], 0, 0, Vector.replicate 32 false⟩

/-- The module bus controller after device reset (R132). -/
def BusCtl.initial : BusCtl := ⟨.idle, none, none, none, Vector.replicate 32 false⟩

/-- The module bus arbiter after device reset (R142). -/
def Arbiter.initial : Arbiter := ⟨Vector.replicate 32 false, [], 31, 0⟩

/-- The work engine after device reset, with this chassis ID in force (R152, R153). -/
def WorkEngine.initial (chassis : BitVec 16) : WorkEngine where
  st := .stopped
  run := false
  haltCause := .noCause
  latched := 0
  anchor := ⟨0, 0, 0, 0, 0, 0⟩
  cfg := ConfigCopy.initial
  chassis := chassis
  cursor := 0
  scan := .noScan
  scanPending := false
  stall := .noStall
  slots := Vector.replicate 16 none
  scanTimer := none

/-- The report engine after device reset (R173). -/
def ReportEngine.initial : ReportEngine :=
  ⟨Vector.replicate 32 ⟨0, 0⟩, [], 0, .idle, false, false, []⟩

/-- Every block at its device-reset values (R185), the straps and presence inputs at these levels. -/
def State.initial (hold : ResetHold) (strapPins : BitVec 12) (presence : BitVec 32) (pending : List Instr) : State where
  hold := hold
  straps := strapPins
  ms := 0
  ports := Vector.ofFn fun p => Port.initial (presence.getLsbD p.val)
  cache := PlanCache.initial
  bus := BusCtl.initial
  arb := Arbiter.initial
  we := WorkEngine.initial (strapPins.zeroExtend 16)
  mm := ⟨[], 0⟩
  rep := ReportEngine.initial
  regs := ⟨0, 0, 0⟩
  out := []
  pending := pending

/-- The part right after reset. DESIGN CHOICE (log 4): the strap pins give 0 and every presence input is inactive. -/
def State.reset : State := State.initial .released 0 0 []

end Sys2Proof.Machine
end

