-- ==== Sys2Proof/Machine/Operands.lean ====
section
/-!
DEFINITION. Formats (file 10): the code values, and the layout of every structure the part reads or writes.
-/

namespace Sys2Proof.Machine

/-! ## Bytes -/

/-- The byte at a place of a structure. -/
def byteAt (l : List Byte) (i : Nat) : Byte := l.getD i 0

/-- A little-endian field of `n` bytes (host-memory structures; 00_scope.md, Byte and bit order). -/
def leField (l : List Byte) (i n : Nat) : Nat := ((l.drop i).take n).foldr (fun b acc => b.toNat + 256 * acc) 0

/-- A big-endian field of `n` bytes (lane frames and the module length). -/
def beField (l : List Byte) (i n : Nat) : Nat := ((l.drop i).take n).foldl (fun acc b => 256 * acc + b.toNat) 0

/-- The `n` low bytes of a value, least significant first. -/
def toLE : Nat → Nat → List Byte
  | 0, _ => []
  | n + 1, v => BitVec.ofNat 8 v :: toLE n (v / 256)

/-- The `n` low bytes of a value, most significant first. -/
def toBE (n v : Nat) : List Byte := (toLE n v).reverse

/-- Reserved bytes, written as 0 (R188). -/
def zeros (n : Nat) : List Byte := List.replicate n 0

/-- A flag as bit k of a byte. -/
def flagBit (b : Bool) (k : Nat) : Byte := if b then (1#8 <<< k) else 0

/-- A port number as the 5 bits a frame carries. -/
def portBits (p : PortNo) : BitVec 5 := BitVec.ofNat 5 p.val

/-- A lane number as 2 bits. -/
def laneBits (i : LaneNo) : BitVec 2 := BitVec.ofNat 2 i.val

/-! ## The frame check (R44) -/

/-- One bit of the CRC with generator x^16 + x^12 + x^5 + 1. -/
def crcBit (r : BitVec 16) (b : Bool) : BitVec 16 :=
  if r.msb != b then (r <<< 1) ^^^ 0x1021 else r <<< 1

/-- One byte, most significant bit first. -/
def crcByte (r : BitVec 16) (x : Byte) : BitVec 16 :=
  [7, 6, 5, 4, 3, 2, 1, 0].foldl (fun r i => crcBit r (x.getLsbD i)) r

/-- The check of a payload: register at all ones, bytes in order, result not inverted. -/
def crc (payload : List Byte) : BitVec 16 := payload.foldl crcByte 0xFFFF

/-- A payload followed by its check, most significant byte first. -/
def withCheck (payload : List Byte) : List Byte := payload ++ toBE 2 (crc payload).toNat

/-- Whether the two bytes after an `n`-byte payload are its check. -/
def checkOk (n : Nat) (frame : List Byte) : Bool := (crc (frame.take n)).toNat = beField frame n 2

/-! ## Code values (section 10.4) -/

def Status.code : Status → Byte
  | .ok => 0 | .already => 1 | .badKind => 2 | .badPort => 3 | .badArg => 4 | .wrongState => 5 | .busy => 6
  | .noModule => 7 | .noAck => 8 | .busTimeout => 9 | .busStuck => 10 | .portLost => 11 | .portDisabled => 12
  | .portRestarted => 13 | .shortBuffer => 14 | .noTest => 15 | .timedOut => 16 | .noIdentity => 17

def PortState.code : PortState → Byte
  | .off => 0 | .empty => 1 | .identify => 2 | .signal => 3 | .dark => 4 | .agree => 5 | .train => 6 | .qualify => 7
  | .confirm => 8 | .active => 9 | .held => 10

def HoldReason.code : HoldReason → Byte
  | .noReason => 0 | .moduleUnreadable => 1 | .moduleCorrupt => 2 | .moduleUnsupported => 3 | .planUnavailable => 4
  | .unplanned => 5 | .miswired => 6 | .split => 7 | .lanesCrossed => 8 | .loopback => 9 | .halfCrossed => 10
  | .oneWay => 11 | .farHeld => 12 | .farRejected => 13 | .agreeConflict => 14 | .noUsableLanes => 15
  | .noAgreement => 16 | .qualifyFailed => 17 | .flapping => 18 | .linkDropped => 19 | .testFailed => 20

def Verdict.code : Verdict → Byte
  | .noVerdict => 0 | .matched => 1 | .remapped => 2 | .loopbackOk => 3 | .unplanned => 4 | .miswired => 5 | .split => 6
  | .lanesCrossed => 7 | .loopback => 8 | .halfCrossed => 9 | .oneWay => 10 | .epochWait => 11

def Phase.code : Phase → Byte
  | .hello => 1 | .propose => 2 | .accept => 3 | .reject => 4 | .go => 5 | .heldBeacon => 6
  | .training => 0x11 | .result => 0x12 | .commit => 0x13 | .retry => 0x14 | .heldWord => 0x15

/-- The beacon phases by their nibble; any other nibble drops the frame (R45). -/
def Phase.ofBeacon (n : BitVec 4) : Option Phase :=
  [Phase.hello, .propose, .accept, .reject, .go, .heldBeacon].find? (fun p => p.code = n.zeroExtend 8)

/-- The training-word phases by their byte, read whole; any other byte drops the word (R51, R187). -/
def Phase.ofWord (b : Byte) : Option Phase :=
  [Phase.training, .result, .commit, .retry, .heldWord].find? (fun p => p.code = b)

def LaneState.code : LaneState → Byte
  | .quiet => 0 | .beacon => 1 | .training => 2 | .locked => 3 | .data => 4 | .failed => 5

def Role.code : Role → Byte
  | .noRole => 0 | .lead => 1 | .follow => 2 | .self => 3

def LaneVerdict.code : LaneVerdict → Byte
  | .pass => 1 | .fail => 2 | .stopped => 3 | .below => 4 | .lost => 5

def SubStep.code : Option SubStep → Byte
  | none => 0 | some .resetting => 1 | some .settling => 2 | some .reading => 3 | some .planning => 4

def ModuleKind.code : ModuleKind → Byte
  | .passiveCopper => 1 | .activeCopper => 2 | .optical => 3 | .loopbackPlug => 4

/-- The module kinds by their byte (R146). -/
def ModuleKind.ofByte (b : Byte) : Option ModuleKind :=
  [ModuleKind.passiveCopper, .activeCopper, .optical, .loopbackPlug].find? (fun k => k.code = b)

def EngineState.code : EngineState → Byte
  | .stopped => 0 | .starting => 1 | .running => 2 | .draining => 3 | .halted => 4

def HaltCause.code : HaltCause → Byte
  | .noCause => 0 | .anchorInvalid => 1 | .memoryFault => 2

def PlanStatus.code : PlanStatus → Byte
  | .notLookedUp => 0 | .planned _ => 1 | .unplanned => 2

/-- A grade is written as its number. -/
def Grade.num : Grade → Nat
  | .g1 => 1 | .g2 => 2 | .g3 => 3 | .g4 => 4

def Grade.all : List Grade := [.g1, .g2, .g3, .g4]

/-- The grade of a number, if it is one. -/
def Grade.ofNum (n : Nat) : Option Grade := Grade.all.find? (fun g => g.num = n)

/-- An absent grade is written as 0 (R188). -/
def gradeByte : Option Grade → Byte
  | none => 0
  | some g => BitVec.ofNat 8 g.num

/-- Bits per millisecond (00_scope.md, Rate grades). -/
def Grade.bitsPerMs : Grade → Nat
  | .g1 => 12500000 | .g2 => 25000000 | .g3 => 50000000 | .g4 => 100000000

/-- The ownership values of a descriptor (Formats). -/
def ownReady : BitVec 2 := 1

/-- A descriptor's byte 0 as the part writes it: TAKEN or DONE with the I flag as read (R188). -/
def takenByte (iFlag : Bool) : Byte := 2 ||| flagBit iFlag 2
def doneByte (iFlag : Bool) : Byte := 3 ||| flagBit iFlag 2

/-- Report entry ownership: EMPTY 1, FILLED 2. -/
def ownEmpty : Byte := 1
def ownFilled : Byte := 2

/-! ## Descriptors (section 10.1) -/

/-- The twelve request kinds. -/
inductive Kind where
  | portEnable | portDisable | portRestart | portQuery | laneTest | laneTestStop | portAwait | moduleRead
  | moduleWrite | planFlush | capsLimit | setConfig
deriving DecidableEq, Repr

def Kind.code : Kind → Byte
  | .portEnable => 1 | .portDisable => 2 | .portRestart => 3 | .portQuery => 4 | .laneTest => 5 | .laneTestStop => 6
  | .portAwait => 7 | .moduleRead => 8 | .moduleWrite => 9 | .planFlush => 10 | .capsLimit => 11 | .setConfig => 12

/-- The kind of a code; a code not among the twelve gives BAD_KIND (R163). -/
def Kind.ofByte (b : Byte) : Option Kind :=
  [Kind.portEnable, .portDisable, .portRestart, .portQuery, .laneTest, .laneTestStop, .portAwait, .moduleRead,
    .moduleWrite, .planFlush, .capsLimit, .setConfig].find? (fun k => k.code = b)

/-- The ownership field of a descriptor: bits 0-1 of byte 0 (R154, R187). -/
def descOwner (d : List Byte) : BitVec 2 := (byteAt d 0).extractLsb' 0 2

/-- The fields of a descriptor that a request reads, for the descriptor at a table index. -/
def requestOf (index : Nat) (d : List Byte) : Request where
  index := index
  iFlag := (byteAt d 0).getLsbD 2
  port := byteAt d 2
  argA := BitVec.ofNat 32 (leField d 4 4)
  argB := BitVec.ofNat 32 (leField d 8 4)
  bufAddr := BitVec.ofNat 64 (leField d 16 8)
  bufLen := BitVec.ofNat 16 (leField d 24 2)

/-- Byte k of an argument. -/
def argByte (a : Word) (k : Nat) : Byte := a.extractLsb' (8 * k) 8

/-! ## Anchor block and configuration (R150, R151) -/

/-- The structural fields of an anchor block. -/
def anchorOf (b : List Byte) : AnchorCopy where
  workBase := leField b 4 8
  workCount := leField b 12 1
  reportBase := leField b 16 8
  reportCount := leField b 13 1
  planBase := leField b 24 8
  planCount := leField b 14 1

/-- The structural checks of R150. -/
def anchorValid (b : List Byte) : Bool :=
  let a := anchorOf b
  b.take 4 = [0x4C, 0x42, 0x33, 0x32] &&
  (1 ≤ a.workCount && a.workCount ≤ 64) &&
  (1 ≤ a.reportCount && a.reportCount ≤ 64) &&
  [0, 1, 2, 4, 8, 16, 32].contains a.planCount &&
  a.workBase % 32 = 0 &&
  a.reportBase % 32 = 0 &&
  (a.planCount = 0 || a.planBase % (16 * a.planCount) = 0)

/-- The anchor's plan epoch (R66). -/
def anchorEpoch (b : List Byte) : BitVec 16 := BitVec.ofNat 16 (leField b 34 2)

/-- A value of 0 reads as the default (R151). -/
def orDefault (v d : Nat) : Nat := if v = 0 then d else v

/-- The default target as R151 reads it: 0 as 12, 1 to 5 as 6, above 15 as 15. -/
def readTarget (v : Nat) : Nat := if v = 0 then 12 else max 6 (min v 15)

/-- The configuration copy loaded from an anchor block (R151). -/
def configOf (b : List Byte) : ConfigCopy where
  settle := orDefault (leField b 36 2) 200
  signalWindow := orDefault (leField b 38 2) 3000
  phaseWait := orDefault (leField b 40 2) 1000
  trainTimeout := orDefault (leField b 42 2) 500
  beaconInterval := orDefault (leField b 44 1) 10
  attemptBudget := min (orDefault (leField b 45 1) 4) 8
  dropLimit := leField b 46 1
  watchdog := orDefault (leField b 47 1) 25
  nackRetries := min (leField b 48 1) 7
  turnRatio := min (leField b 49 1) 3
  scanValue := leField b 50 1
  defaultTarget := readTarget (leField b 51 1)
  defaultDwell := orDefault (leField b 52 2) 1000
  admitUnplanned := (byteAt b 15).getLsbD 0
  chassisOverride := (byteAt b 15).getLsbD 1
  scanEnable := (byteAt b 15).getLsbD 2
  overrideId := BitVec.ofNat 16 (leField b 32 2)

/-! ## Plan entry (R56) -/

/-- The valid flag of a plan entry. -/
def planValid (e : List Byte) : Bool := (byteAt e 0).getLsbD 0

/-- The fields of a plan entry as read. -/
def planCopyOf (e : List Byte) : PlanCopy where
  loopback := (byteAt e 0).getLsbD 1
  remap := (byteAt e 0).getLsbD 2
  farChassis := BitVec.ofNat 16 (leField e 2 2)
  mask := BitVec.ofNat 16 (leField e 4 2)
  farPort := (byteAt e 1).extractLsb' 0 5
  anyPort := (byteAt e 1).getLsbD 7
  laneMap := byteAt e 6
  grades := (byteAt e 7).extractLsb' 0 4
  minWidth := byteAt e 8
  target := byteAt e 9
  dwell := BitVec.ofNat 16 (leField e 10 2)

/-- The far lane the plan gives a local lane: bits 2i and 2i + 1 of the lane map. -/
def PlanCopy.farLane (c : PlanCopy) (i : LaneNo) : BitVec 2 := c.laneMap.extractLsb' (2 * i.val) 2

/-! ## Module identity block (R146) -/

/-- What the checks of R146 make of an identity block. -/
inductive IdentityCheck where
  | corrupt
  | unsupported
  | accepted (m : ModuleId)
deriving DecidableEq, Repr

/-- The checks of R146, in order, and the identity recorded when all pass. -/
def identityCheck (b : List Byte) : IdentityCheck :=
  if (b.foldl (fun acc x => acc + x.toNat) 0) % 256 ≠ 0 then .corrupt
  else if byteAt b 0 ≠ 1 then .unsupported
  else match ModuleKind.ofByte (byteAt b 1) with
    | none => .unsupported
    | some k =>
      if byteAt b 2 = 0 then .unsupported
      else .accepted
        { kind := k
          lanes := min (byteAt b 2).toNat 4
          grade := byteAt b 3
          length := BitVec.ofNat 16 (beField b 4 2)
          maker := Vector.ofFn fun i => byteAt b (6 + i.val)
          serial := Vector.ofFn fun i => byteAt b (10 + i.val) }

/-! ## Lane frames (section 10.3) -/

/-- The beacon delimiter, most significant byte first. -/
def delimiter : List Byte := [0xB3, 0x8E]

/-- A beacon payload taken apart: its phase and the two halves of a negotiation record (R45, R48). -/
def beaconOf (b : List Byte) : Option NegRecord :=
  let chassis := BitVec.ofNat 16 (beField b 1 2)
  if (byteAt b 0).extractLsb' 4 4 ≠ 1#4 then none
  else match Phase.ofBeacon ((byteAt b 0).extractLsb' 0 4) with
    | none => none
    | some ph =>
      if chassis = 0 then none
      else some
        { phase := ph
          attempt := byteAt b 7
          good := (byteAt b 9).extractLsb' 4 4
          reason := byteAt b 10
          beacon := some
            { sender :=
                { chassis := chassis
                  port := (byteAt b 3).extractLsb' 0 5
                  lane := (byteAt b 3).extractLsb' 5 2
                  epoch := BitVec.ofNat 16 (beField b 4 2) }
              propGrade := byteAt b 8
              propSet := (byteAt b 9).extractLsb' 0 4
              grades := (byteAt b 6).extractLsb' 0 4
              widths := (byteAt b 6).extractLsb' 4 3
              seenChassis := BitVec.ofNat 16 (beField b 12 2)
              seenPort := byteAt b 14 } }

/-- The 16 payload bytes of a beacon from its fields (R39). -/
def beaconPayload (ph : Phase) (own : Ident) (grades : BitVec 4) (widths : BitVec 3) (attempt propGrade : Byte)
    (propSet good : LaneSet) (reason verdict : Byte) (seenChassis : BitVec 16) (seenPort : Byte) : List Byte :=
  [(1#4 ++ ph.code.extractLsb' 0 4 : BitVec 8)] ++ toBE 2 own.chassis.toNat ++
  [(0#1 ++ (own.lane ++ own.port) : BitVec 8)] ++ toBE 2 own.epoch.toNat ++
  [(0#1 ++ (widths ++ grades) : BitVec 8), attempt, propGrade, (good ++ propSet : BitVec 8), reason, verdict] ++
  toBE 2 seenChassis.toNat ++ [seenPort, 0]

/-- The 6 payload bytes of a training word (R50). -/
def wordPayload (ph : Phase) (attempt : Byte) (good : LaneSet) (reason : Byte) (i : LaneNo) : List Byte :=
  [ph.code, attempt, (0#4 ++ good : BitVec 8), reason, BitVec.ofNat 8 i.val, 0]

/-! ## Lane sets -/

def allLanes : List LaneNo := [0, 1, 2, 3]

/-- Whether a lane is in a set. -/
def hasLane (m : LaneSet) (i : LaneNo) : Bool := m.getLsbD i.val

/-- The set of the lanes a test holds for. -/
def lanesWhere (f : LaneNo → Bool) : LaneSet :=
  allLanes.foldl (fun m i => if f i then m ||| (1#4 <<< i.val) else m) 0

/-- How many lanes a set holds. -/
def laneCount (m : LaneSet) : Nat := (allLanes.filter (hasLane m)).length

/-- The lowest lane of a set. -/
def lowestLane (m : LaneSet) : Option LaneNo := allLanes.find? (hasLane m)

/-- Whether one set lies wholly in another. -/
def subset (a b : LaneSet) : Bool := a &&& ~~~b = 0

/-! ## Grade sets and width sets -/

/-- Whether a grade is in a grade set (bit g - 1 for grade g). -/
def hasGrade (m : BitVec 4) (g : Grade) : Bool := m.getLsbD (g.num - 1)

/-- The grades a test holds for. -/
def gradesWhere (f : Grade → Bool) : BitVec 4 :=
  Grade.all.foldl (fun m g => if f g then m ||| (1#4 <<< (g.num - 1)) else m) 0

/-- The bit of a width in a width set: 1, 2, 4 are bits 0, 1, 2; no other number is a width. -/
def widthBit : Nat → Option Nat
  | 1 => some 0
  | 2 => some 1
  | 4 => some 2
  | _ => none

/-- Whether a number of lanes is a width of a width set. -/
def hasWidth (m : BitVec 3) (w : Nat) : Bool :=
  match widthBit w with
  | none => false
  | some k => m.getLsbD k

/-- The widths a test holds for. -/
def widthsWhere (f : Nat → Bool) : BitVec 3 :=
  (if f 1 then 1#3 else 0) ||| (if f 2 then 2#3 else 0) ||| (if f 4 then 4#3 else 0)

end Sys2Proof.Machine
end

