-- ==== Sys2Proof/Machine/Flags.lean ====
section
/-!
DEFINITION. Event flags, the interrupt condition, and the change kinds of reports (R30, R179, Formats).
-/

namespace Sys2Proof.Machine

/-! ## Change kinds (report entry byte 2) -/

def kindPresence : BitVec 5 := 1
def kindMilestone : BitVec 5 := 2
def kindVerdict : BitVec 5 := 4
def kindAlert : BitVec 5 := 8
def kindEpoch : BitVec 5 := 16

/-! ## Events (R180) -/

def evWork : BitVec 5 := 1
def evReport : BitVec 5 := 2
def evStall : BitVec 5 := 4
def evHalt : BitVec 5 := 8
def evDrained : BitVec 5 := 16

/-- An event's cause sets its bit; a bit already set stays set (R179). -/
def State.raise (s : State) (e : BitVec 5) : State :=
  { s with regs := { s.regs with events := s.regs.events ||| e } }

/-- The interrupt line: asserted exactly when some bit is set both in EVENTS and in EVENT_MASK (R179). -/
def State.irq (s : State) : Bool := s.regs.events &&& s.regs.mask ≠ 0

/-- The message of a change of the interrupt condition from one state to another (R179). -/
def irqMessage (old new : State) : List Out :=
  if old.irq = new.irq then [] else [.interrupt new.irq]

end Sys2Proof.Machine
end

