-- ==== Sys2Proof/Machine/Ops.lean ====
section
/-!
DEFINITION. The named operations over the state that the families share: ports and lanes, the memory master's list,
scans, completions, reports.
-/

namespace Sys2Proof.Machine

/-! ## The outcome of a command -/

abbrev Outcome := Host.Outcome State Fault Refusal

/-- A command taken by the part: its lines start quiet, and a change of the interrupt condition sends its message
(R179). While the part is held in reset no command acts (R185; log 5). -/
def act (s : State) (f : State → State) : Outcome :=
  if s.hold = .released then
    let t := f { s with out := [] }
    .next { t with out := t.out ++ irqMessage s t }
  else .next { s with out := [] }

/-! ## Ports and lanes -/

/-- One port controller. -/
def State.port (s : State) (p : PortNo) : Port := s.ports[p]

/-- Replace one port controller. -/
def State.setPort (s : State) (p : PortNo) (c : Port) : State := { s with ports := s.ports.set p c }

/-- One lane record of a port. -/
def Port.lane (c : Port) (i : LaneNo) : Lane := c.lanes[i]

/-- Replace one lane record. -/
def Port.setLane (c : Port) (i : LaneNo) (l : Lane) : Port := { c with lanes := c.lanes.set i l }

/-- Change one lane record. -/
def Port.modLane (c : Port) (i : LaneNo) (f : Lane → Lane) : Port := c.setLane i (f (c.lane i))

/-- Change every lane record. -/
def Port.mapLanes (c : Port) (f : LaneNo → Lane → Lane) : Port :=
  { c with lanes := Vector.ofFn fun i => f i (c.lane i) }

/-- All ports, in the order in which one event reaches them (log 8). -/
def allPorts : List PortNo := List.finRange 32

/-- One event taken by every port, in increasing order (log 8). -/
def forPorts (f : PortNo → State → State) (s : State) : State := allPorts.foldl (fun s p => f p s) s

/-- All job slots, in the order in which one event reaches them (log 8). -/
def allSlots : List (Fin 16) := List.finRange 16

/-- What the part puts on its lines. -/
def State.emit (s : State) (o : List Out) : State := { s with out := s.out ++ o }

/-! ## Timers (R186) -/

/-- One tick of a timer; a timer at 0 is due and waits for its expiry to be taken (log 1). -/
def tickTimer (t : Timer) : Timer := t.map (· - 1)

/-- Whether a timer's expiry is due. -/
def due (t : Timer) : Bool := t = some 0

/-! ## The memory master (R171) -/

/-- An operation joins the tail of the list. -/
def State.push (s : State) (op : MemOp) : State :=
  { s with mm := { s.mm with ops := s.mm.ops ++ [⟨op, false⟩] } }

/-- Several operations, in order. -/
def State.pushAll (s : State) (ops : List MemOp) : State := ops.foldl State.push s

/-- The operation in progress leaves the list and the next is taken. -/
def State.popMem (s : State) : State := { s with mm := ⟨s.mm.ops.tail, 0⟩ }

/-- The operation in progress. -/
def State.memHead (s : State) : Option MemEntry := s.mm.ops.head?

/-- Whether an operation is a read: only a read has data to wait for (R171). -/
def MemOp.isRead : MemOp → Bool
  | .anchorRead _ | .configRead _ _ | .descRead _ | .bufferRead _ _ | .fill _ _ _ | .reportRead _ => true
  | .takenWrite _ _ | .bufferWrite _ _ | .statusWrite _ _ | .resultWrite _ _ | .doneWrite _ _ => false
  | .reportBody _ _ | .reportFilled _ _ => false

/-- A completion's write (R162). -/
def MemOp.isCompletion : MemOp → Bool
  | .bufferWrite _ _ | .statusWrite _ _ | .resultWrite _ _ | .doneWrite _ _ => true
  | .anchorRead _ | .configRead _ _ | .descRead _ | .bufferRead _ _ | .fill _ _ _ | .reportRead _ => false
  | .takenWrite _ _ | .reportBody _ _ | .reportFilled _ _ => false

/-- The start read of a taken request (R158): the buffer of a MODULE_WRITE, the anchor block of a SET_CONFIG. -/
def MemOp.isStartRead : MemOp → Bool
  | .configRead _ _ | .bufferRead _ _ => true
  | .anchorRead _ | .descRead _ | .fill _ _ _ | .reportRead _ => false
  | .takenWrite _ _ | .bufferWrite _ _ | .statusWrite _ _ | .resultWrite _ _ | .doneWrite _ _ => false
  | .reportBody _ _ | .reportFilled _ _ => false

/-- A read of the work engine's own: it is abandoned with the work it belongs to (R160, R184). -/
def MemOp.isWorkRead : MemOp → Bool
  | .anchorRead _ | .configRead _ _ | .descRead _ | .bufferRead _ _ => true
  | .fill _ _ _ | .reportRead _ => false
  | .takenWrite _ _ | .bufferWrite _ _ | .statusWrite _ _ | .resultWrite _ _ | .doneWrite _ _ => false
  | .reportBody _ _ | .reportFilled _ _ => false

/-- The generation of a port's outstanding fill, if it has one (R58, R60; log 11). -/
def State.outstandingFill (s : State) (p : PortNo) : Option (BitVec 32) :=
  s.mm.ops.findSome? fun e => match e.op with
    | .fill _ q g => if q = p then some g else none
    | _ => none

/-- The marks of abandonment on the operations a test holds for (R160, R184). -/
def State.abandonReads (s : State) (f : MemOp → Bool) : State :=
  { s with mm := { s.mm with ops := s.mm.ops.map fun e => if f e.op then { e with abandoned := true } else e } }

/-! ## The work table: addresses and scans (R154 to R159) -/

/-- The host address of a descriptor (R150: base, 32 bytes each). -/
def State.descAddr (s : State) (index : Nat) : Nat := s.we.anchor.workBase + 32 * index

/-- A scan's next step: the read of the descriptor at the take cursor (R157). -/
def State.scanRead (s : State) : State :=
  { s.push (.descRead (s.descAddr s.we.cursor)) with we := { s.we with scan := .reading } }

/-- The start of a scan; it clears the recorded stall (R159). -/
def State.startScan (s : State) : State := { s with we := { s.we with stall := .noStall } }.scanRead

/-- A trigger of a scan (R155). -/
def State.triggerScan (s : State) : State :=
  if s.we.st = .running then
    if s.we.scan = .noScan then s.startScan
    else { s with we := { s.we with scanPending := true } }
  else s

/-- The end of a scan, with the stall it ends on; a pending trigger starts another at once (R155, R157). -/
def State.endScan (s : State) (st : Stall) : State :=
  let t := { s with we := { s.we with scan := .noScan, stall := st, scanPending := false } }
  if s.we.scanPending then t.startScan else t

/-- The event that meets a recorded stall triggers a scan (R159). -/
def State.meetStall (s : State) (f : Stall → Bool) : State := if f s.we.stall then s.triggerScan else s

/-! ## Completion (R162) -/

/-- The completion of a request: buffer writes, status and result word, DONE, and WORK when the I flag is set. -/
def State.complete (s : State) (index : Nat) (iFlag : Bool) (bufs : List MemOp) (st : Status) (result : Nat) : State :=
  let a := s.descAddr index
  let t := s.pushAll (bufs ++ [.statusWrite (a + 3) st.code, .resultWrite (a + 28) (toLE 4 result),
    .doneWrite a (doneByte iFlag)])
  if iFlag then t.raise evWork else t

/-- A buffer write of the kind (R162). -/
def bufferOp (addr : BitVec 64) (data : List Byte) : List MemOp :=
  if data = [] then [] else [.bufferWrite addr.toNat data]

/-- The stalls that the end of a job in a slot meets: SLOT, and INDEX on the job's index (R159). -/
def meetsSlot (index : Nat) (st : Stall) : Bool := st = .slot || st = .index index

/-- A job in a slot completes and its slot is freed (R161). -/
def State.completeSlot (s : State) (k : Fin 16) (j : Job) (bufs : List MemOp) (st : Status) (result : Nat) : State :=
  let t := s.complete j.tag.index j.tag.iFlag bufs st result
  { t with we := { t.we with slots := t.we.slots.set k none } }.meetStall (meetsSlot j.tag.index)

/-- The slot of a port's LANE_TEST, if one holds a slot (R166). -/
def State.laneTestSlot (s : State) (p : PortNo) : Option (Fin 16 × Job) :=
  allSlots.findSome? fun k => match s.we.slots[k] with
    | some j => if j.port = p ∧ j.kind = .laneTest then some (k, j) else none
    | none => none

/-- The lowest free slot (log 24). -/
def State.freeSlot (s : State) : Option (Fin 16) := allSlots.find? fun k => s.we.slots[k] = none

/-- The job of a MODULE_WRITE whose buffer read this entry of the list is, while nobody has abandoned it. -/
def MemEntry.pendingWrite (e : MemEntry) : Option PassJob :=
  match e.op with
  | .bufferRead _ j => if e.abandoned then none else some j
  | .anchorRead _ | .configRead _ _ | .descRead _ | .fill _ _ _ | .reportRead _ => none
  | .takenWrite _ _ | .bufferWrite _ _ | .statusWrite _ _ | .resultWrite _ _ | .doneWrite _ _ => none
  | .reportBody _ _ | .reportFilled _ _ => none

/-- The jobs of taken MODULE_WRITE requests whose buffers are still being read: each holds its index (R161), and the queue
place it will join (R142, R168). -/
def State.pendingWrites (s : State) : List PassJob := s.mm.ops.filterMap MemEntry.pendingWrite

/-- The indexes held by jobs in slots, in the queue, at the bus and before the queue with their buffers being read; a cut
transaction holds none (R157, R161, R189). -/
def State.heldIndex (s : State) (index : Nat) : Bool :=
  (allSlots.any fun k => match s.we.slots[k] with
    | some j => j.tag.index = index
    | none => false) ||
  (s.pendingWrites.any fun j => j.tag.index = index) ||
  (s.arb.queue.any fun j => j.tag.index = index) ||
  (match s.bus.current with
    | some t => match t.requester with
      | .job tag => !t.cut && tag.index = index
      | .port => false
    | none => false)

/-! ## Awaited states (R167) -/

/-- The states a PORT_AWAIT waits for. -/
def PortState.settled : PortState → Bool
  | .active | .held | .empty | .off => true
  | .identify | .signal | .dark | .agree | .train | .qualify | .confirm => false

/-- The result word of a PORT_AWAIT: state, hold reason, verdict, attempt (Formats). -/
def Port.awaitWord (c : Port) : Nat :=
  leField [c.st.code, c.holdReason.code, c.verdict.code, c.attempt] 0 4

/-- Complete the PORT_AWAIT jobs of a port that has entered an awaited state (R167). -/
def State.finishAwaits (s : State) (p : PortNo) : State :=
  allSlots.foldl (fun s k => match s.we.slots[k] with
    | some j => match j.kind with
      | .await _ =>
        if j.port = p then
          s.completeSlot k j [] (if (s.port p).st = .off then .portDisabled else .ok) (s.port p).awaitWord
        else s
      | .laneTest => s
    | none => s) s

/-! ## Reports (R174, R175) -/

/-- The work engine is RUNNING or DRAINING. -/
def EngineState.working : EngineState → Bool
  | .running | .draining => true
  | .stopped | .starting | .halted => false

/-- The host address of the report entry at the cursor (R175). -/
def State.reportAddr (s : State) : Nat := s.we.anchor.reportBase + 32 * s.rep.cursor

/-- Issue a report read (R175). -/
def State.reportRead (s : State) : State :=
  { s.push (.reportRead s.reportAddr) with rep := { s.rep with phase := .reading } }

/-- A trigger of the report engine (R175). -/
def State.triggerReport (s : State) : State :=
  if s.rep.phase = .reading then { s with rep := { s.rep with reread := true } }
  else if s.we.st.working && s.rep.queue ≠ [] then s.reportRead
  else s

/-- Add a change to a record: the kinds join the set and the count rises by one, saturating (R174). -/
def ReportRec.join (r : ReportRec) (kinds : BitVec 5) (n : Nat) : ReportRec := ⟨r.kinds ||| kinds, min (r.count + n) 255⟩

/-- A port hands over a change (R174). -/
def State.handOver (s : State) (p : PortNo) (kinds : BitVec 5) : State :=
  let r := s.rep.recs[p]
  let queue := if r.count = 0 then s.rep.queue ++ [p] else s.rep.queue
  { s with rep := { s.rep with recs := s.rep.recs.set p (r.join kinds 1), queue := queue } }.triggerReport

end Sys2Proof.Machine
end

