-- ==== Sys2Proof/Machine/Qualify.lean ====
section
/-!
DEFINITION. The qualification unit (file 06): the planned length of a test, its verdicts, its ends and its results.
-/

namespace Sys2Proof.Machine

/-! ## The planned length (R116 to R118) -/

/-- The bits it takes to show target T with no error: 3 x 10^T (R117). -/
def bitsFor (t : Nat) : Nat := 3 * 10 ^ t

/-- The requested target clamped to 6-15 (R116). -/
def clampTarget (t : Nat) : Nat := max 6 (min t 15)

/-- The largest target that a number of bits can show (R117). -/
def largestTarget (n : Nat) : Nat := ((List.range 16).filter fun t => bitsFor t ≤ n).getLast?.getD 0

/-- What R116 to R118 make of a requested target and dwell. -/
structure TestPlan where
  target   : Nat
  dwell    : Nat
  eAllow   : Nat
  extended : Bool
  lowered  : Bool
deriving DecidableEq, Repr

/-- The effective target, dwell and E_allow of a timed or bring-up test (R117, R118), the target already clamped. -/
def planTest (g : Grade) (t d : Nat) : TestPlan :=
  let r := g.bitsPerMs
  let d' := (bitsFor t + r - 1) / r
  if bitsFor t ≤ r * d then ⟨t, d, r * d / bitsFor t - 1, false, false⟩
  else if d' ≤ 65535 then ⟨t, d', r * d' / bitsFor t - 1, d' > d, false⟩
  else
    let t' := largestTarget (r * 65535)
    ⟨t', 65535, r * 65535 / bitsFor t' - 1, 65535 > d, t' < t⟩

/-- A new timed or bring-up test (R113 to R118), RUNNING with elapsed 0. -/
def timedTest (kind : TestKind) (lanes : LaneSet) (g : Grade) (target dwell : Nat) (drop : Bool) : PortTest :=
  let pl := planTest g (clampTarget target) dwell
  { kind := kind, lanes := lanes, grade := g, target := pl.target, dwell := some pl.dwell, eAllow := some pl.eAllow,
    elapsed := 0, extended := pl.extended, lowered := pl.lowered, clamped := clampTarget target ≠ target,
    saturated := false, dropOnFail := drop, ended := false }

/-- A new continuous LANE_TEST: only the clamp is applied (R115). -/
def continuousTest (lanes : LaneSet) (g : Grade) (target : Nat) (drop : Bool) : PortTest :=
  { kind := .laneTest, lanes := lanes, grade := g, target := clampTarget target, dwell := none, eAllow := none,
    elapsed := 0, extended := false, lowered := false, clamped := clampTarget target ≠ target,
    saturated := false, dropOnFail := drop, ended := false }

/-- The qualification unit takes a new test: a fresh record on each lane of it, none on the others (R113). -/
def Port.startTest (c : Port) (t : PortTest) : Port :=
  { c with test := some t }.mapLanes fun i l =>
    { l with test := if hasLane t.lanes i then some ⟨0, none⟩ else none }

/-! ## While it runs (R119, R126) -/

/-- N of the moment (R112, R119). -/
def PortTest.n (t : PortTest) : Nat := t.grade.bitsPerMs * t.elapsed

/-- The elapsed at which a continuous test is saturated (R126). -/
def saturation (g : Grade) : Nat := Config.nMax / g.bitsPerMs

/-- The elapsed at which the test's end is due: its dwell, or saturation for a continuous test. -/
def PortTest.limit (t : PortTest) : Nat := t.dwell.getD (saturation t.grade)

/-- A tick of a RUNNING test: elapsed goes up by one, and waits at the limit for the end to be taken (R119; log 23). -/
def PortTest.tick (t : PortTest) : PortTest :=
  if t.ended then t else { t with elapsed := min (t.elapsed + 1) (max t.limit t.elapsed) }

/-! ## Verdicts (R122 to R128) -/

/-- The demonstrated exponent (R122). -/
def demonstrated (e n : Nat) : Nat :=
  if e = Config.countMax then 0
  else ((List.range 16).filter fun k => 3 * (e + 1) * 10 ^ k ≤ n).getLast?.getD 0

/-- A lane receives its verdict with the N of the moment (R120 to R128). -/
def TestRecord.give (r : TestRecord) (v : LaneVerdict) (n : Nat) (early : Bool) : TestRecord :=
  { r with given := some ⟨v, n, demonstrated r.e n, early⟩ }

/-- The verdict a stop gives (R125): PASS where Q is at least T; else STOPPED, or BELOW for a continuous test. -/
def PortTest.stopVerdict (t : PortTest) (r : TestRecord) : LaneVerdict :=
  if t.target ≤ demonstrated r.e t.n then .pass
  else if t.dwell = none then .below
  else .stopped

/-- The port's RUNNING test, if it has one (R112). -/
def Port.runningTest (c : Port) : Option PortTest := c.test.filter fun t => !t.ended

/-- The port's RUNNING LANE_TEST, if it has one. -/
def Port.runningLaneTest (c : Port) : Option PortTest := c.runningTest.filter fun t => t.kind = .laneTest

/-- A lane's record while it is running in the port's RUNNING test (R112; log 20). -/
def Port.runningRecord (c : Port) (i : LaneNo) : Option TestRecord :=
  match c.runningTest with
  | none => none
  | some t => if hasLane t.lanes i then (c.lane i).test.filter fun r => r.given = none else none

/-- The lanes still running. -/
def Port.runningLanes (c : Port) : LaneSet := lanesWhere fun i => (c.runningRecord i).isSome

/-- Every running lane receives a verdict at this moment. -/
def Port.giveRunning (c : Port) (t : PortTest) (f : LaneNo → TestRecord → LaneVerdict) : Port :=
  c.mapLanes fun i l => match c.runningRecord i with
    | none => l
    | some r => { l with test := some (r.give (f i r) t.n false) }

/-- The test becomes ENDED and its timers are cancelled (R123 to R129). -/
def Port.closeTest (c : Port) : Port :=
  { c with test := c.test.map fun t => { t with ended := true }, testTimer := none, dwellTimer := none }

/-! ## Results (R130) -/

/-- The 24-byte part of one lane of a LANE_TEST (Formats). -/
def laneResult (t : PortTest) (i : LaneNo) (r : TestRecord) : List Byte :=
  let v : TestVerdict := r.given.getD ⟨.lost, 0, 0, false⟩
  [BitVec.ofNat 8 i.val, v.verdict.code, BitVec.ofNat 8 v.q,
    flagBit t.extended 0 ||| flagBit t.lowered 1 ||| flagBit t.clamped 2 ||| flagBit v.early 3 ||| flagBit t.saturated 4,
    BitVec.ofNat 8 t.target, 0] ++
  toLE 2 (t.dwell.getD 0) ++ toLE 6 v.n ++ toLE 4 r.e ++ zeros 6

/-- The results of the port's test: one part per lane of it, in increasing order (R130). -/
def Port.results (c : Port) : List Byte :=
  match c.test with
  | none => []
  | some t => allLanes.flatMap fun i =>
      if hasLane t.lanes i then match (c.lane i).test with
        | some r => laneResult t i r
        | none => []
      else []

/-- How many lane results the port's test writes. -/
def Port.resultCount (c : Port) : Nat :=
  match c.test with
  | none => 0
  | some t => laneCount t.lanes

/-! ## An end that hands results to the work engine -/

/-- The end of a LANE_TEST: the status its descriptor completes with, the results and their number. -/
structure TestEnd where
  status  : Status
  results : List Byte
  count   : Nat
deriving DecidableEq, Repr

/-- The results of a port whose LANE_TEST has just ended. -/
def Port.testEnd (c : Port) (st : Status) : TestEnd := ⟨st, c.results, c.resultCount⟩

end Sys2Proof.Machine
end

