-- ==== Sys2Proof/Machine/Control.lean ====
section
/-!
DEFINITION. One port controller at work on one event: the lane mode commands (R33), what is cleared on entry to each
state (R2, R32), and the entries themselves (R8, R10, R11, R17, R20, R24).
A `Ctl` is the port controller in the middle of an event, with what the event hands to other blocks.
-/

namespace Sys2Proof.Machine

/-- What a port controller reads from outside itself: its own number, the chassis ID in force, the plan epoch and the
configuration copy (R29, R71). -/
structure Env where
  self    : PortNo
  chassis : BitVec 16
  epoch   : BitVec 16
  cfg     : ConfigCopy
deriving DecidableEq, Repr

/-- A port controller in the middle of an event: the port, the change kinds to hand over (R30), the front-end commands
given (R33), and the LANE_TEST end to hand to the work engine (R128). -/
structure Ctl where
  port  : Port
  kinds : BitVec 5
  out   : List Out
  ended : Option TestEnd
deriving DecidableEq, Repr

def Ctl.start (c : Port) : Ctl := ⟨c, 0, [], none⟩

/-- Mark changes; they are handed over together when the event ends (R30). -/
def Ctl.mark (c : Ctl) (k : BitVec 5) : Ctl := { c with kinds := c.kinds ||| k }

/-- Change the port. -/
def Ctl.mod (c : Ctl) (f : Port → Port) : Ctl := { c with port := f c.port }

/-! ## Lane mode commands (R33) -/

/-- The commands a port controller gives a lane unit. -/
inductive LaneCmd where
  | quiet | beacon | train (g : Grade) | data | failed
deriving DecidableEq, Repr

/-- The lane state a command names. -/
def LaneCmd.names : LaneCmd → LaneState
  | .quiet => .quiet | .beacon => .beacon | .train _ => .training | .data => .data | .failed => .failed

/-- A lane taking a command that changes its state. The receiver goes to HUNT whenever the lane leaves BEACON (R43). -/
def Lane.take (l : Lane) (cmd : LaneCmd) : Lane :=
  match cmd with
  | .quiet => { l with st := .quiet, rx := .hunt, grade := none }
  | .beacon => { l with st := .beacon, rx := .hunt, grade := none }
  | .train g => { l with st := .training, rx := .hunt, grade := some g }
  | .data => { l with st := .data, rx := .hunt }
  | .failed => { l with st := .failed, rx := .hunt }

/-- The front-end command that goes with it; TRAIN and DATA carry the polarity. -/
def Lane.frontEnd (l : Lane) (cmd : LaneCmd) : FrontEnd :=
  match cmd with
  | .quiet | .failed => .quiet
  | .beacon => .beacon
  | .train g => .train g l.polarity
  | .data => .data l.grade l.polarity

/-- A command to one lane; one that names the lane's state is taken without change (R33). -/
def Ctl.command (self : PortNo) (i : LaneNo) (cmd : LaneCmd) (c : Ctl) : Ctl :=
  let l := c.port.lane i
  if l.st = cmd.names then c
  else { c with port := c.port.setLane i (l.take cmd), out := c.out ++ [.frontEnd self i (l.frontEnd cmd)] }

/-- Commands to the four lanes. -/
def Ctl.commandAll (self : PortNo) (f : LaneNo → LaneCmd) (c : Ctl) : Ctl :=
  allLanes.foldl (fun c i => c.command self i (f i)) c

/-- Whether a lane is present: its index is below the recorded lane count (section 1.2). -/
def Port.isPresent (c : Port) (i : LaneNo) : Bool :=
  match c.ident with
  | none => false
  | some m => i.val < m.lanes

def Port.presentSet (c : Port) : LaneSet := lanesWhere c.isPresent

/-- Present lanes BEACON, the others QUIET. -/
def Port.beaconing (c : Port) (i : LaneNo) : LaneCmd := if c.isPresent i then .beacon else .quiet

/-- Set lanes in one mode, the others QUIET. -/
def Port.setLanes (c : Port) (cmd : LaneCmd) (i : LaneNo) : LaneCmd := if hasLane c.laneSet i then cmd else .quiet

/-! ## Clearing (R2, R32) -/

/-- The lane record cleared as R32 gives for OFF, EMPTY and a full entry into SIGNAL. -/
def Lane.clear (l : Lane) : Lane := { l with cand := none, rep := 0, far := none, neg := none, test := none }

/-- The bring-up fields of R2, and the next grade with them (R90). -/
def Port.clearBringUp (c : Port) : Port :=
  { c with
    role := .noRole, verdict := .noVerdict, far := none, laneMap := Vector.replicate 4 none, usable := 0,
    agreed := none, laneSet := 0, good := 0, qualReached := false, holdReason := .noReason, nextGrade := none }

/-- What R2 clears on entry into OFF, EMPTY and IDENTIFY alike; the qualification unit returns to NONE (R113). -/
def Port.clearModule (c : Port) : Port :=
  { c.clearBringUp with
    ident := none, plan := .notLookedUp, capGrades := 0, capWidths := 0, attempt := 0, left := 0,
    phaseTimer := none, dwellTimer := none, testTimer := none, test := none }

/-! ## Moving between states -/

/-- The states whose entry is a MILESTONE (R30). -/
def PortState.milestone : PortState → Bool
  | .active | .held | .dark | .empty | .off => true
  | .identify | .signal | .agree | .train | .qualify | .confirm => false

/-- The states in which the low-power output is asserted (R5). -/
def PortState.lowPower : PortState → Bool
  | .off | .empty => true
  | .identify | .signal | .dark | .agree | .train | .qualify | .confirm | .active | .held => false

/-- A change of port state: timers cancelled (R27, R28), a burst discarded (R40), a running test ended without verdicts
(R128; log 21), the hold reason cleared (R25), the sideband outputs as R5 gives (module reset is asserted again by the
entry into IDENTIFY alone), and MILESTONE at the entries and exits of R30. -/
def Ctl.goTo (st : PortState) (c : Ctl) : Ctl :=
  let m := if c.port.st = .active ∨ st.milestone then kindMilestone else 0
  (c.mod fun p =>
    { p.closeTest with
      st := st, sub := none, phaseTimer := none, burst := none, holdReason := .noReason,
      lowPower := st.lowPower, modReset := false }).mark m

/-- The outgoing phase, without a repeat count. -/
def Port.setPhase (c : Port) (ph : Phase) (why : HoldReason) : Port :=
  { c with phase := ph, phaseReason := why, burst := none }

/-- A phase with a repeat count; it starts the phase timer again with the phase wait (R91). -/
def Port.setBurst (env : Env) (ph : Phase) (why : HoldReason) (c : Port) : Port :=
  { c with phase := ph, phaseReason := why, burst := some Config.burstCount, phaseTimer := some env.cfg.phaseWait }

/-- Entry into OFF (R8): lanes QUIET, the context cleared, the send clock stopped (R38). -/
def Ctl.enterOff (self : PortNo) (c : Ctl) : Ctl :=
  ((c.goTo .off).commandAll self fun _ => .quiet).mod fun p =>
    { (p.clearModule.mapLanes fun _ l => l.clear) with drops := 0, sendClock := none }

/-- Entry into EMPTY (R10). -/
def Ctl.enterEmpty (self : PortNo) (c : Ctl) : Ctl :=
  ((c.goTo .empty).commandAll self fun _ => .quiet).mod fun p =>
    { (p.clearModule.mapLanes fun _ l => l.clear) with drops := 0 }

/-- Entry into IDENTIFY at RESETTING (R11); the error counts start from 0 (R32), and PORT_RESTART clears the drop
count (R2). -/
def Ctl.enterIdentify (self : PortNo) (restart : Bool) (c : Ctl) : Ctl :=
  ((c.goTo .identify).commandAll self fun _ => .quiet).mod fun p =>
    { (p.clearModule.mapLanes fun _ l => { l.clear with beaconErrs := 0, lineErrs := 0 }) with
      sub := some .resetting, drops := if restart then 0 else p.drops,
      modReset := true, phaseTimer := some Config.resetPulse }

/-- A full entry into SIGNAL (R17). -/
def Ctl.enterSignal (env : Env) (c : Ctl) : Ctl :=
  let c := (c.goTo .signal).mod fun p =>
    { (p.clearBringUp.mapLanes fun _ l => l.clear) with
      attempt := 0, left := env.cfg.attemptBudget, test := none, phaseTimer := some env.cfg.signalWindow }
  (c.mod fun p => p.setPhase .hello .noReason).commandAll env.self c.port.beaconing

/-- The return from DARK to SIGNAL (R20): a fresh signal window, the other fields kept. -/
def Ctl.returnToSignal (env : Env) (c : Ctl) : Ctl :=
  (c.goTo .signal).mod fun p => { p.setPhase .hello .noReason with phaseTimer := some env.cfg.signalWindow }

/-- The entry from HELD into the EPOCH_WAIT wait (R87): no signal window, nothing cleared but the hold reason. -/
def Ctl.enterWait (env : Env) (c : Ctl) : Ctl :=
  (c.goTo .signal).mod fun p => { p.setPhase .hello .noReason with left := env.cfg.attemptBudget }

/-- Entry into DARK (R20). -/
def Ctl.enterDark (c : Ctl) : Ctl := (c.goTo .dark).mod fun p => p.setPhase .hello .noReason

/-- Entry into HELD (R24); with no module identity recorded, all lanes are QUIET. -/
def Ctl.enterHeld (self : PortNo) (why : HoldReason) (c : Ctl) : Ctl :=
  let c := (c.goTo .held).mod fun p => { p.setPhase .heldBeacon why with holdReason := why }
  c.commandAll self c.port.beaconing

/-! ## The end of a LANE_TEST by its port (R125, R127, R128) -/

/-- A RUNNING LANE_TEST ends: its running lanes receive verdicts, its timer is cancelled, its results are handed over. -/
def Ctl.endLaneTest (st : Status) (f : PortTest → LaneNo → TestRecord → LaneVerdict) (c : Ctl) : Ctl :=
  match c.port.runningLaneTest with
  | none => c
  | some t =>
    let p := (c.port.giveRunning t (f t)).closeTest
    { c with port := p, ended := some (p.testEnd st) }

/-- As a stop gives (R125). -/
def asStop (t : PortTest) (_ : LaneNo) (r : TestRecord) : LaneVerdict := t.stopVerdict r

/-! ## The port's event reaching the other blocks -/

/-- The environment of a port. -/
def State.env (s : State) (p : PortNo) : Env := ⟨p, s.we.chassis, s.cache.epoch, s.we.cfg⟩

/-- A LANE_TEST that has ended completes its descriptor (R130, R166). -/
def State.finishLaneTest (s : State) (p : PortNo) (e : TestEnd) : State :=
  match s.laneTestSlot p with
  | none => s
  | some (k, j) => s.completeSlot k j (bufferOp j.tag.bufAddr e.results) e.status e.count

/-- Hand over what an event of one port gives: first the results of an ended LANE_TEST (R128), then the changes (R30),
then the state change to the work engine (R30, R167). -/
def State.settle (s : State) (p : PortNo) (c : Ctl) : State :=
  let old := (s.port p).st
  let s := (s.setPort p c.port).emit c.out
  let s := match c.ended with
    | none => s
    | some e => s.finishLaneTest p e
  let s := if c.kinds = 0 then s else s.handOver p c.kinds
  if c.port.st.settled ∧ c.port.st ≠ old then s.finishAwaits p else s

/-- A drop (R22): lock lost on a set lane of an ACTIVE port. -/
def Ctl.drop (env : Env) (i : LaneNo) (c : Ctl) : Ctl :=
  if c.port.st = .active ∧ hasLane c.port.laneSet i then
    let c := c.mod fun p => { p with drops := min (p.drops + 1) 255 }
    let c := c.endLaneTest .portLost fun t j r => if j = i then .lost else t.stopVerdict r
    if c.port.holdOnDrop then c.enterHeld env.self .linkDropped
    else if env.cfg.dropLimit ≠ 0 ∧ env.cfg.dropLimit ≤ c.port.drops then c.enterHeld env.self .flapping
    else c.enterSignal env
  else c

/-- The lanes of a port's lane set that hold no lock. -/
def Port.unlockedSet (c : Port) : LaneSet := lanesWhere fun i => hasLane c.laneSet i && (c.lane i).st != .locked

/-- One event of one port, seen through. When it puts the port in ACTIVE, each set lane that was commanded to DATA
without lock hands lock lost to the port immediately after, as an event of its own (R36; log 29). -/
def State.runPort (s : State) (p : PortNo) (f : Env → Ctl → Ctl) : State :=
  let before := s.port p
  let t := s.settle p (f (s.env p) (Ctl.start before))
  if (t.port p).st = .active ∧ before.st ≠ .active then
    allLanes.foldl (fun t i =>
      if hasLane before.unlockedSet i then t.settle p (Ctl.drop (t.env p) i (Ctl.start (t.port p))) else t) t
  else t

end Sys2Proof.Machine
end

