-- ==== Sys2Proof/Machine/Agree.lean ====
section
/-!
DEFINITION. Own capabilities (R15) and agreement, training, confirmation and fallback (file 05): the entries into AGREE,
TRAIN, QUALIFY, CONFIRM and ACTIVE, the lead's choices, and what a port does with the records it hears.
-/

namespace Sys2Proof.Machine

/-! ## Own capabilities (R15) -/

/-- The reach cap of a passive copper module by its length in decimetres. -/
def reachCap (length : Nat) : Nat :=
  if length ≤ 20 then 4 else if length ≤ 30 then 3 else if length ≤ 50 then 2 else 1

/-- The effective module maximum grade. -/
def ModuleId.maxGrade (m : ModuleId) : Nat :=
  let g := max 1 (min m.grade.toNat 4)
  if m.kind = .passiveCopper then min g (reachCap m.length.toNat) else g

/-- The allowed grades of a plan: none set reads as all four; an unplanned port has all four (R56). -/
def PlanStatus.grades : PlanStatus → BitVec 4
  | .planned c => if c.grades = 0 then 0xF else c.grades
  | .notLookedUp | .unplanned => 0xF

/-- The minimum width of a plan: any value but 1, 2 or 4 reads as 1 (R56). -/
def PlanStatus.minWidth : PlanStatus → Nat
  | .planned c => if (widthBit c.minWidth.toNat).isSome then c.minWidth.toNat else 1
  | .notLookedUp | .unplanned => 1

/-- A ceiling of 0 is no ceiling. -/
def underCeiling (v ceil : Nat) : Bool := ceil = 0 || v ≤ ceil

/-- The port computes its own caps (R15). -/
def Port.computeCaps (c : Port) : Port :=
  match c.ident with
  | none => { c with capGrades := 0, capWidths := 0 }
  | some m =>
    { c with
      capGrades := gradesWhere fun g =>
        g.num ≤ m.maxGrade && hasGrade c.plan.grades g && underCeiling g.num c.gradeCeil
      capWidths := widthsWhere fun w =>
        w ≤ m.lanes && c.plan.minWidth ≤ w && underCeiling w c.widthCeil }

/-! ## Choosing the proposal (R93 to R95) -/

/-- Whether a record comes from the port's far end (R92, R93). -/
def Port.fromFar (c : Port) (b : BeaconPart) : Bool :=
  c.far = some ⟨b.sender.chassis, b.sender.port⟩

/-- The far end's caps: from the first record of the usable set whose sender is the far end; empty when none (R93).
For a SELF port its own caps stand as the far caps (R110). -/
def Port.farCaps (c : Port) : BitVec 4 × BitVec 3 :=
  if c.role = .self then (c.capGrades, c.capWidths)
  else
    ((allLanes.filter (hasLane c.usable)).findSome? fun i =>
      match (c.lane i).neg with
      | none => none
      | some r => match r.beacon with
        | none => none
        | some b => if c.fromFar b then some (b.grades, b.widths) else none).getD (0, 0)

/-- The common grade set (R93). -/
def Port.commonGrades (c : Port) : BitVec 4 := c.capGrades &&& c.farCaps.1

/-- The common width set (R93). -/
def Port.commonWidths (c : Port) : BitVec 3 := c.capWidths &&& c.farCaps.2

/-- The lane-set rule (R94). -/
def laneSetRule (widths : BitVec 3) (usable : LaneSet) : Option LaneSet :=
  if hasWidth widths 4 ∧ subset 0b1111 usable then some 0b1111
  else if hasWidth widths 2 ∧ subset 0b0011 usable then some 0b0011
  else if hasWidth widths 2 ∧ subset 0b1100 usable then some 0b1100
  else if hasWidth widths 1 then (lowestLane usable).map fun i => lanesWhere (· = i)
  else none

/-- The highest grade of a set at or below a bound. -/
def highestUpTo (m : BitVec 4) (bound : Nat) : Option Grade :=
  Grade.all.reverse.find? fun g => hasGrade m g && g.num ≤ bound

/-- The lowest grade of a set. -/
def lowestGrade (m : BitVec 4) : Option Grade := Grade.all.find? (hasGrade m)

/-- The grade rule (R95). -/
def gradeRule (common : BitVec 4) (next : Option Grade) : Option Grade :=
  match next with
  | none => highestUpTo common 4
  | some n => (highestUpTo common n.num).orElse fun _ => lowestGrade common

/-- The attempt number after another (R97); after 255 no rule gives it (log 18). -/
def nextAttempt (a : Byte) : Byte := if a = 255 then Config.attemptAfter255 else a + 1

/-- The lead closes a failed attempt with the lanes G found good both ways (R96). -/
def Port.closeFailed (c : Port) (G : LaneSet) : Port :=
  match highestUpTo c.commonGrades ((c.agreed.map Grade.num).getD 0 - 1) with
  | some g => { c with nextGrade := some g }
  | none => { c with usable := c.usable &&& ~~~(c.laneSet &&& ~~~G), nextGrade := none }

/-! ## Entry into TRAIN and QUALIFY (R102, R104, R114) -/

/-- Entry into TRAIN at the agreed grade on the lane set (R102). -/
def Ctl.enterTrain (env : Env) (c : Ctl) : Ctl :=
  let c := (c.goTo .train).mod fun p =>
    { p.setPhase .training .noReason with phaseTimer := some env.cfg.trainTimeout }
  match c.port.agreed with
  | none => c
  | some g => c.commandAll env.self (c.port.setLanes (.train g))

/-- The set lanes in a lane state. -/
def Port.setIn (c : Port) (st : LaneState) : LaneSet :=
  lanesWhere fun i => hasLane c.laneSet i && (c.lane i).st = st

/-- The requested target and dwell of a bring-up test (R114). -/
def Port.bringUpRequest (c : Port) (env : Env) : Nat × Nat :=
  match c.plan with
  | .planned pc => (orDefault pc.target.toNat env.cfg.defaultTarget, orDefault pc.dwell.toNat env.cfg.defaultDwell)
  | .notLookedUp | .unplanned => (env.cfg.defaultTarget, env.cfg.defaultDwell)

/-- Entry into QUALIFY: the bring-up test starts on the LOCKED set lanes (R104, R114). -/
def Ctl.enterQualify (env : Env) (c : Ctl) : Ctl :=
  (c.goTo .qualify).mod fun p =>
    let p := { p with qualReached := true, phase := .training, phaseReason := .noReason }
    match p.agreed with
    | none => p
    | some g =>
      let rq := p.bringUpRequest env
      let t := timedTest .bringUp (p.setIn .locked) g rq.1 rq.2 false
      { p.startTest t with dwellTimer := t.dwell }

/-- The look at the set lanes in TRAIN: none TRAINING and one LOCKED enters QUALIFY (R102). -/
def Ctl.checkTrain (env : Env) (c : Ctl) : Ctl :=
  if c.port.st = .train ∧ c.port.setIn .training = 0 ∧ c.port.setIn .locked ≠ 0 then c.enterQualify env else c

/-! ## The lead's decision (R106, R107) -/

/-- The own good set of CONFIRM: set lanes LOCKED with verdict PASS (R105). -/
def Port.ownGood (c : Port) : LaneSet :=
  lanesWhere fun i => hasLane c.laneSet i && (c.lane i).st = .locked &&
    (match (c.lane i).test with
     | some r => match r.given with
       | some v => v.verdict = .pass
       | none => false
     | none => false)

/-- The lanes of a set whose far lane, by the observed map, is in a far mask. -/
def Port.mappedInto (c : Port) (m far : LaneSet) : LaneSet :=
  lanesWhere fun i => hasLane m i && (match c.laneMap[i] with
    | some f => far.getLsbD f.toNat
    | none => false)

/-- The decision on a G smaller than the lane set: the attempt is closed, then HELD or RETRY (R106). -/
def Ctl.decideFailed (env : Env) (G : LaneSet) (c : Ctl) : Ctl :=
  c.mod fun p =>
    let p := { p with good := G }.closeFailed G
    if p.left = 0 then p.setBurst env .heldWord .qualifyFailed
    else if laneSetRule p.commonWidths p.usable = none then p.setBurst env .heldWord .noUsableLanes
    else p.setBurst env .retry .noReason

/-- The lead's decision on the far mask F (R106). -/
def Ctl.decide (env : Env) (F : LaneSet) (c : Ctl) : Ctl :=
  let G := c.port.mappedInto (c.port.good &&& c.port.setIn .locked) F
  if G = c.port.laneSet then c.mod fun p => { p with good := G }.setBurst env .commit .noReason
  else c.decideFailed env G

/-- The relation of a record to the port that R92 asks of every record acted on: its sender is the far end. -/
def Port.hears (c : Port) (r : NegRecord) : Bool :=
  match r.beacon with
  | none => false
  | some b => c.fromFar b

/-- The first RESULT of the current attempt held on a LOCKED set lane (R105). -/
def Port.heldResult (c : Port) : Option LaneSet :=
  (allLanes.filter (hasLane (c.setIn .locked))).findSome? fun i =>
    match (c.lane i).neg with
    | none => none
    | some r => if r.phase = .result ∧ r.attempt = c.attempt ∧ c.hears r then some r.good else none

/-- Entry into CONFIRM (R105, R110). -/
def Ctl.enterConfirm (env : Env) (c : Ctl) : Ctl :=
  let c := (c.goTo .confirm).mod fun p =>
    { p.setPhase .result .noReason with good := p.ownGood, phaseTimer := some env.cfg.phaseWait }
  match c.port.role with
  | .lead => match c.port.heldResult with
    | some F => c.decide env F
    | none => c
  | .self => c.decide env c.port.good
  | .follow | .noRole => c

/-- Entry into ACTIVE (R21); set lanes without lock are dealt with by State.runPort (R36). -/
def Ctl.enterActive (env : Env) (c : Ctl) : Ctl :=
  let c := (c.goTo .active).mod fun p => { p with left := env.cfg.attemptBudget }
  c.commandAll env.self (c.port.setLanes .data)

/-! ## Entry into AGREE (R97, R99, R110) -/

/-- Entry into AGREE of a lead, and of a SELF port, which goes on to TRAIN at once (R97, R110). -/
def Ctl.enterAgreeLead (env : Env) (c : Ctl) : Ctl :=
  let c := c.goTo .agree
  let c := c.commandAll env.self c.port.beaconing
  let c := c.mod fun p => { p with agreed := none, laneSet := 0 }.computeCaps
  if c.port.left = 0 then c.enterHeld env.self (if c.port.qualReached then .qualifyFailed else .noAgreement)
  else
    let c := c.mod fun p => { p with attempt := nextAttempt p.attempt, left := p.left - 1 }
    if c.port.commonGrades = 0 ∨ c.port.commonWidths = 0 then c.enterHeld env.self .noAgreement
    else match laneSetRule c.port.commonWidths c.port.usable with
      | none => c.enterHeld env.self .noUsableLanes
      | some S =>
        let c := c.mod fun p => { p with agreed := gradeRule p.commonGrades p.nextGrade, laneSet := S }
        if c.port.role = .self then c.enterTrain env
        else c.mod fun p => { p.setPhase .propose .noReason with phaseTimer := some env.cfg.phaseWait }

/-- The follower examines a PROPOSE of attempt a, grade g and lane set S (R100). -/
def Port.examine (env : Env) (a g : Byte) (S : LaneSet) (c : Port) : Port :=
  let c := { c with attempt := a, agreed := none, laneSet := 0 }
  let M := c.mappedInto 0b1111 S
  match Grade.ofNum g.toNat with
  | some gr =>
    if hasGrade c.capGrades gr ∧ laneCount M = laneCount S ∧ subset M c.usable ∧ hasWidth c.capWidths (laneCount S) then
      { c.setPhase .accept .noReason with agreed := some gr, laneSet := M, phaseTimer := some env.cfg.phaseWait }
    else c.setBurst env .reject .agreeConflict
  | none => c.setBurst env .reject .agreeConflict

/-- A PROPOSE that R92 lets a follower take, from a record. -/
def Port.takesPropose (c : Port) (r : NegRecord) : Option BeaconPart :=
  if r.phase = .propose ∧ c.attempt < r.attempt ∧ c.hears r then r.beacon else none

/-- Entry into AGREE of a follower (R99). -/
def Ctl.enterAgreeFollow (env : Env) (c : Ctl) : Ctl :=
  let c := c.goTo .agree
  let c := c.commandAll env.self c.port.beaconing
  let c := c.mod fun p =>
    { { p with agreed := none, laneSet := 0 }.computeCaps.setPhase .hello .noReason with
      phaseTimer := some env.cfg.phaseWait }
  c.mod fun p =>
    match (allLanes.filter p.isPresent).findSome? fun i => match (p.lane i).neg with
      | none => none
      | some r => (p.takesPropose r).map fun b => (r.attempt, b)
    with
    | some (a, b) => p.examine env a b.propGrade b.propSet
    | none => p

/-- Entry into AGREE by role; a port without a role does not enter it. -/
def Ctl.enterAgree (env : Env) (c : Ctl) : Ctl :=
  match c.port.role with
  | .lead | .self => c.enterAgreeLead env
  | .follow => c.enterAgreeFollow env
  | .noRole => c

/-- The attempt has failed with no lane good both ways: a follower starts over, a lead closes it (R103, R109). -/
def Ctl.attemptFailed (env : Env) (c : Ctl) : Ctl :=
  match c.port.role with
  | .lead | .self => (c.mod fun p => p.closeFailed 0).enterAgreeLead env
  | .follow | .noRole => c.enterSignal env

/-! ## What a port does with a record it hears (R92) -/

/-- The cabling reasons of R25, by their codes. -/
def HoldReason.cabling : HoldReason → Bool
  | .miswired | .split | .lanesCrossed | .loopback | .halfCrossed | .oneWay => true
  | .noReason | .moduleUnreadable | .moduleCorrupt | .moduleUnsupported | .planUnavailable | .unplanned => false
  | .farHeld | .farRejected | .agreeConflict | .noUsableLanes | .noAgreement | .qualifyFailed | .flapping => false
  | .linkDropped | .testFailed => false

/-- A far beacon of phase HELD whose reason is not a cabling reason (R18, R98, R101). -/
def NegRecord.holdsUs (r : NegRecord) : Bool :=
  r.phase = .heldBeacon &&
  !([HoldReason.miswired, .split, .lanesCrossed, .loopback, .halfCrossed, .oneWay].any fun h => h.code = r.reason)

/-- A lead in AGREE on a beacon arrival from its far end (R92, R98). -/
def Ctl.leadHears (env : Env) (r : NegRecord) (b : BeaconPart) (c : Ctl) : Ctl :=
  if r.holdsUs then c.enterHeld env.self .farHeld
  else if r.phase = .accept ∧ r.attempt = c.port.attempt then
    if c.port.phase = .propose ∧ c.port.agreed ≠ none ∧ b.propGrade = gradeByte c.port.agreed then
      c.mod fun p => p.setBurst env .go .noReason
    else c
  else if r.phase = .reject ∧ r.attempt = c.port.attempt then c.enterHeld env.self .farRejected
  else c

/-- A follower in AGREE on a beacon arrival from its far end (R92, R100, R101). -/
def Ctl.followHears (env : Env) (r : NegRecord) (b : BeaconPart) (c : Ctl) : Ctl :=
  if r.holdsUs then c.enterHeld env.self .farHeld
  else if r.phase = .propose ∧ c.port.attempt < r.attempt then
    if c.port.phase = .reject then c
    else c.mod fun p => p.examine env r.attempt b.propGrade b.propSet
  else if r.phase = .go ∧ r.attempt = c.port.attempt ∧ c.port.phase = .accept then c.enterTrain env
  else c

/-- A port in AGREE on a beacon arrival (R92); a record from another sender, and every record at a SELF port, is set
aside. -/
def Ctl.agreeHears (env : Env) (r : NegRecord) (c : Ctl) : Ctl :=
  match r.beacon with
  | none => c
  | some b =>
    if c.port.fromFar b then
      match c.port.role with
      | .lead => c.leadHears env r b
      | .follow => c.followHears env r b
      | .self | .noRole => c
    else c

/-- The states in which word arrivals are acted on (R92). -/
def PortState.hearsWords : PortState → Bool
  | .train | .qualify | .confirm => true
  | .off | .empty | .identify | .signal | .dark | .agree | .active | .held => false

/-- In CONFIRM a follower records the lanes of its own good set whose far lane is in the word's mask (R108). -/
def Port.recordWordMask (F : LaneSet) (c : Port) : Port :=
  if c.st = .confirm then { c with good := c.mappedInto (c.laneSet &&& c.good) F } else c

/-- A TRAINING word in CONFIRM starts the phase timer again, before a lead's decision or while a follower waits (R107). -/
def Port.awaitsFar (c : Port) : Bool := c.st = .confirm && c.phase = .result

/-- A port in TRAIN, QUALIFY or CONFIRM on a word arrival (R92, R105 to R108). -/
def Ctl.wordHears (env : Env) (r : NegRecord) (c : Ctl) : Ctl :=
  if c.port.st.hearsWords ∧ c.port.hears r ∧ r.attempt = c.port.attempt then
    match c.port.role, r.phase with
    | .lead, .heldWord | .follow, .heldWord => c.enterHeld env.self .farHeld
    | .follow, .retry => (c.mod (Port.recordWordMask r.good)).enterAgreeFollow env
    | .follow, .commit =>
      if c.port.st = .confirm then (c.mod (Port.recordWordMask r.good)).enterActive env else c
    | .lead, .result => if c.port.awaitsFar then c.decide env r.good else c
    | .lead, .training | .follow, .training =>
      if c.port.awaitsFar then c.mod fun p => { p with phaseTimer := some env.cfg.phaseWait } else c
    | _, _ => c
  else c

/-! ## Timer expiries, burst ends and lock events of an attempt -/

/-- The end of a burst, by its phase and the port's state (R98, R101, R106). -/
def Ctl.burstDone (env : Env) (c : Ctl) : Ctl :=
  match c.port.st, c.port.phase with
  | .agree, .go => c.enterTrain env
  | .agree, .reject => c.enterHeld env.self .agreeConflict
  | .confirm, .commit => c.enterActive env
  | .confirm, .retry => c.enterAgreeLead env
  | .confirm, .heldWord => c.enterHeld env.self c.port.phaseReason
  | _, _ => c

/-- Expiry of the phase wait in AGREE and CONFIRM (R98, R101, R107). -/
def Ctl.phaseWaitOver (env : Env) (c : Ctl) : Ctl :=
  match c.port.st, c.port.role with
  | .agree, .follow =>
    if c.port.phase = .reject then c.enterHeld env.self .agreeConflict else c.enterSignal env
  | .agree, .lead | .agree, .self => c.enterAgreeLead env
  | .confirm, .follow => c.enterAgreeFollow env
  | .confirm, .lead | .confirm, .self =>
    match c.port.phase with
    | .retry => c.enterAgreeLead env
    | .heldWord => c.enterHeld env.self c.port.phaseReason
    | _ => c.decideFailed env 0
  | _, _ => c

/-- Expiry of the train timeout (R103). -/
def Ctl.trainOver (env : Env) (c : Ctl) : Ctl :=
  let waiting := c.port.setIn .training
  let c := allLanes.foldl (fun c i => if hasLane waiting i then c.command env.self i .failed else c) c
  if c.port.setIn .locked ≠ 0 then c.enterQualify env else c.attemptFailed env

/-- The end of a bring-up test whose lanes have all received their verdicts, or whose dwell is over: CONFIRM
(R123, R124). -/
def Ctl.bringUpOver (env : Env) (c : Ctl) : Ctl := (c.mod Port.closeTest).enterConfirm env

/-- What follows a lock lost on a set lane in TRAIN, QUALIFY or CONFIRM, the lane now FAILED (R109, R121, R124). -/
def Ctl.lockLossInAttempt (env : Env) (c : Ctl) : Ctl :=
  if c.port.setIn .locked = 0 ∧ c.port.setIn .training = 0 then
    if c.port.st = .confirm ∧ c.port.role ≠ .follow ∧ (c.port.phase = .retry ∨ c.port.phase = .heldWord) then
      c.burstDone env
    else c.attemptFailed env
  else match c.port.st with
    | .train => c.checkTrain env
    | .qualify => if c.port.runningLanes = 0 then c.bringUpOver env else c
    | _ => c

end Sys2Proof.Machine
end

