-- ==== Sys2Proof/Machine/Verify.lean ====
section
/-!
DEFINITION. Cabling verification (file 04): the checks, the verdict and what it does; and what a port does with a beacon
arrival and a signal window in SIGNAL, DARK and HELD (R18 to R20, R25).
-/

namespace Sys2Proof.Machine

/-! ## What the lanes have heard -/

/-- The identified lanes: those with a far identity (R31). -/
def Port.identifiedSet (c : Port) : LaneSet := lanesWhere fun i => (c.lane i).far.isSome

/-- The identified lanes among the present ones. -/
def Port.heardSet (c : Port) : LaneSet := c.identifiedSet &&& c.presentSet

/-- Whether a record carries a seen identity: its seen port is not 0xFF (R19). -/
def BeaconPart.carriesSeen (b : BeaconPart) : Bool := b.seenPort ≠ 0xFF

/-- Whether the seen identity of a record names this port. -/
def BeaconPart.seesUs (env : Env) (b : BeaconPart) : Bool :=
  b.seenChassis = env.chassis && b.seenPort = BitVec.ofNat 8 env.self.val

/-- The beacon part of a lane's latest record. -/
def Lane.beaconPart (l : Lane) : Option BeaconPart := l.neg.bind NegRecord.beacon

/-- The test of R18: every present lane identified, and the latest record on the lowest identified lane carrying a seen
identity equal to this port. -/
def Port.signalTest (env : Env) (c : Port) : Bool :=
  subset c.presentSet c.identifiedSet &&
  (match lowestLane c.identifiedSet with
   | none => false
   | some i => match (c.lane i).beaconPart with
     | none => false
     | some b => b.carriesSeen && b.seesUs env)

/-- Whether some lane of a set has a latest record that carries a seen identity (R19). -/
def Port.anySeen (c : Port) (vs : LaneSet) : Bool :=
  allLanes.any fun i => hasLane vs i && (match (c.lane i).beaconPart with
    | none => false
    | some b => b.carriesSeen)

/-- The port's far identity: that of the lowest lane of the verified set (R73). -/
def Port.farIdentity (c : Port) (vs : LaneSet) : Option CableEnd :=
  match lowestLane vs with
  | none => none
  | some i => (c.lane i).far.map fun f => ⟨f.chassis, f.port⟩

/-- The seen identity that verification examines: the first record of the verified set, in increasing lane order, that
carries one and comes from that lane's own far identity (R74). -/
def Port.seenIdentity (c : Port) (vs : LaneSet) : Option BeaconPart :=
  (allLanes.filter (hasLane vs)).findSome? fun i =>
    match (c.lane i).beaconPart, (c.lane i).far with
    | some b, some f =>
      if b.carriesSeen ∧ b.sender.chassis = f.chassis ∧ b.sender.port = f.port then some b else none
    | _, _ => none

/-- Whether some lane of a set has a far identity that a test holds for. -/
def Port.anyFar (c : Port) (vs : LaneSet) (f : Ident → Bool) : Bool :=
  allLanes.any fun i => hasLane vs i && (match (c.lane i).far with
    | none => false
    | some d => f d)

/-- Whether two lanes of a set hear the same far lane (R76, R81). -/
def Port.repeatsFarLane (c : Port) (vs : LaneSet) : Bool :=
  allLanes.any fun i => allLanes.any fun j =>
    i.val < j.val && hasLane vs i && hasLane vs j &&
    (match (c.lane i).far, (c.lane j).far with
     | some f, some g => f.lane = g.lane
     | _, _ => false)

/-- Whether every lane of a set hears the far lane the plan gives it (R81). -/
def Port.mapMatches (c : Port) (pc : PlanCopy) (vs : LaneSet) : Bool :=
  allLanes.all fun i => !hasLane vs i || (match (c.lane i).far with
    | none => false
    | some f => f.lane = pc.farLane i)

/-! ## The checks (R75 to R82) -/

/-- The loopback path of R76. -/
def Port.loopbackVerdict (env : Env) (c : Port) (vs : LaneSet) : Verdict :=
  match c.plan with
  | .planned pc =>
    if pc.loopback then
      if c.anyFar vs (fun f => f.chassis ≠ env.chassis || f.port ≠ portBits env.self) then .split
      else if c.repeatsFarLane vs then .lanesCrossed
      else .loopbackOk
    else .loopback
  | .notLookedUp | .unplanned => .loopback

/-- Whether a far end matches a plan's chassis, under its mask, and port (R80). -/
def PlanCopy.matchesEnd (pc : PlanCopy) (far : CableEnd) : Bool :=
  (far.chassis ^^^ pc.farChassis) &&& pc.mask = 0 && (pc.anyPort || far.port = pc.farPort)

/-- Checks 5 and 6, and the verdict when all pass (R80 to R82). -/
def Port.planVerdict (c : Port) (vs : LaneSet) (far : CableEnd) : Verdict :=
  match c.plan with
  | .planned pc =>
    if pc.loopback || !pc.matchesEnd far then .miswired
    else if c.repeatsFarLane vs then .lanesCrossed
    else if c.mapMatches pc vs then .matched
    else if pc.remap then .remapped
    else .lanesCrossed
  | .notLookedUp | .unplanned => if c.repeatsFarLane vs then .lanesCrossed else .unplanned

/-- The verdict of a run on a verified set with this far identity: the first check that fails (R75). -/
def Port.verdictOf (env : Env) (c : Port) (vs : LaneSet) (far : CableEnd) : Verdict :=
  if far = ⟨env.chassis, portBits env.self⟩ then c.loopbackVerdict env vs
  else if c.anyFar vs (fun f => f.chassis ≠ far.chassis || f.port ≠ far.port) then .split
  else if (match c.seenIdentity vs with
    | some b => !b.seesUs env
    | none => false) then .halfCrossed
  else if c.anyFar vs (fun f => f.epoch ≠ env.epoch) then .epochWait
  else c.planVerdict vs far

/-! ## A run (R72) -/

/-- The verdicts that let a port go on to agreement. -/
def Verdict.passes : Verdict → Bool
  | .matched | .remapped | .loopbackOk | .unplanned => true
  | .noVerdict | .miswired | .split | .lanesCrossed | .loopback | .halfCrossed | .oneWay | .epochWait => false

/-- The hold reason of a verdict that holds a port. -/
def Verdict.reason : Verdict → HoldReason
  | .miswired => .miswired | .split => .split | .lanesCrossed => .lanesCrossed | .loopback => .loopback
  | .halfCrossed => .halfCrossed | .oneWay => .oneWay
  | .noVerdict | .matched | .remapped | .loopbackOk | .unplanned | .epochWait => .noReason

/-- The role a verdict elects (R89): chassis first, then port; the lower pair leads. -/
def electRole (env : Env) (v : Verdict) (far : CableEnd) : Role :=
  if v = .loopbackOk then .self
  else if v.passes then
    if env.chassis < far.chassis ∨ (env.chassis = far.chassis ∧ portBits env.self < far.port) then .lead else .follow
  else .noRole

/-- The observed lane map of a verified set (R81). -/
def Port.observe (c : Port) (vs : LaneSet) : Vector (Option (BitVec 2)) 4 :=
  Vector.ofFn fun i => if hasLane vs i then (c.lane i).far.map Ident.lane else none

/-- What a run writes into the port context, with this verdict (R72, R83). -/
def Port.record (env : Env) (c : Port) (vs : LaneSet) (far : CableEnd) (v : Verdict) : Port :=
  { c with verdict := v, far := some far, laneMap := c.observe vs, phaseTimer := none,
           usable := if v.passes then vs else 0, role := electRole env v far }

/-- What the verdict does to the port (section 4.4); `waiting` is whether it was in the EPOCH_WAIT wait. -/
def Ctl.proceed (env : Env) (waiting : Bool) (v : Verdict) (c : Ctl) : Ctl :=
  if v.passes then
    if c.port.st = .held then
      (c.mod fun p => { p with attempt := 0, left := env.cfg.attemptBudget }).enterAgree env
    else c.enterAgree env
  else if v = .epochWait then
    if c.port.st = .held then (c.enterWait env).mark kindEpoch
    else if waiting then c
    else c.mark kindEpoch
  else if c.port.st = .held then
    c.mod fun p => { p with holdReason := v.reason, phaseReason := v.reason }
  else c.enterHeld env.self v.reason

/-- A port is in the EPOCH_WAIT wait (R85). -/
def Port.inWait (c : Port) : Bool := c.st = .signal && c.verdict = .epochWait

/-- One run of verification on a verified set, and what its verdict does (R71, R72). -/
def Ctl.verify (env : Env) (vs : LaneSet) (c : Ctl) : Ctl :=
  match c.port.farIdentity vs with
  | none => c
  | some far =>
    let waiting := c.port.inWait
    let v := c.port.verdictOf env vs far
    ((c.mod fun p => p.record env vs far v).mark kindVerdict).proceed env waiting v

/-! ## A beacon arrival, by port state (R18, R20, R25, R49, R86, R87) -/

/-- The mark of a beacon arrival (R49). -/
inductive ArrivalMark where
  | noMark | identified | changed
deriving DecidableEq, Repr

/-- SIGNAL outside the wait (R18). A HELD beacon with a cabling reason is taken as any other (DEDUCED, log 14). -/
def Ctl.signalHears (env : Env) (r : NegRecord) (c : Ctl) : Ctl :=
  if r.holdsUs ∨ r.phase = .reject then c.enterHeld env.self .farHeld
  else if c.port.signalTest env then c.verify env c.port.presentSet
  else c

/-- SIGNAL in the EPOCH_WAIT wait (R85, R86; DEDUCED, log 14). -/
def Ctl.waitHears (env : Env) (mark : ArrivalMark) (r : NegRecord) (c : Ctl) : Ctl :=
  if r.holdsUs ∨ r.phase = .reject then c.enterHeld env.self .farHeld
  else if mark = .noMark then c
  else c.verify env c.port.identifiedSet

/-- DARK (R20). -/
def Ctl.darkHears (env : Env) (mark : ArrivalMark) (c : Ctl) : Ctl :=
  if mark = .identified then
    let c := c.returnToSignal env
    if c.port.signalTest env then c.verify env c.port.presentSet else c
  else c

/-- HELD (R25, R87). -/
def Ctl.heldHears (env : Env) (mark : ArrivalMark) (r : NegRecord) (c : Ctl) : Ctl :=
  if c.port.holdReason.cabling then
    if mark = .noMark then c else c.verify env c.port.identifiedSet
  else if (c.port.holdReason = .farHeld ∨ c.port.holdReason = .farRejected) ∧ r.phase = .hello ∧ r.attempt = 0 then
    c.enterSignal env
  else c

/-- What a port does with a beacon arrival on one of its present lanes. -/
def Ctl.arrival (env : Env) (mark : ArrivalMark) (r : NegRecord) (c : Ctl) : Ctl :=
  match c.port.st with
  | .signal => if c.port.inWait then c.waitHears env mark r else c.signalHears env r
  | .dark => c.darkHears env mark
  | .agree => c.agreeHears env r
  | .held => c.heldHears env mark r
  | .off | .empty | .identify | .train | .qualify | .confirm | .active => c

/-- Expiry of the signal window (R19, R83). -/
def Ctl.windowOver (env : Env) (c : Ctl) : Ctl :=
  let heard := c.port.heardSet
  match c.port.farIdentity heard with
  | none => c.enterDark
  | some far =>
    if c.port.anySeen heard then c.verify env heard
    else ((c.mod fun p => p.record env heard far .oneWay).mark kindVerdict).enterHeld env.self .oneWay

/-- An epoch change at a port (R68). -/
def Ctl.epochChange (env : Env) (c : Ctl) : Ctl :=
  match c.port.st with
  | .signal =>
    if c.port.inWait then c.verify env c.port.identifiedSet else c.enterIdentify env.self false
  | .dark | .agree => c.enterIdentify env.self false
  | .off | .empty | .identify | .train | .qualify | .confirm | .active | .held => c

end Sys2Proof.Machine
end

