-- ==== Sys2Proof/Machine/Plan.lean ====
section
/-!
DEFINITION. The plan cache (file 03) and the PLANNING sub-step (R14): lookups, fills, flushes, and the holds of ports that
wait on a fill.
-/

namespace Sys2Proof.Machine

/-! ## The cache (R58 to R62) -/

/-- The host address of a port's plan entry (R55). -/
def State.planAddr (s : State) (p : PortNo) : Nat := s.we.anchor.planBase + 16 * p.val

/-- The entry the cache holds for a port. -/
def PlanCache.find (c : PlanCache) (p : PortNo) : Option CacheEntry := c.entries.find? fun e => e.port = p

/-- The entry of a port becomes the most recent (R59). -/
def PlanCache.touch (c : PlanCache) (e : CacheEntry) : PlanCache :=
  { c with entries := e :: c.entries.filter fun d => d.port ≠ e.port }

/-- An entry placed by a fill becomes the most recent; the ninth pushes out the least recent (R62). -/
def PlanCache.place (c : PlanCache) (e : CacheEntry) : PlanCache :=
  { c with entries := (e :: c.entries.filter fun d => d.port ≠ e.port).take Config.cacheSize }

/-- The cache empties and its generation goes up by one, wrapping (R66, R67). -/
def PlanCache.flush (c : PlanCache) : PlanCache := { c with entries := [], gen := c.gen + 1 }

/-- Set or clear a port's fill-pending flag. -/
def State.setFillPending (s : State) (p : PortNo) (b : Bool) : State :=
  { s with cache := { s.cache with fillPending := s.cache.fillPending.set p b } }

/-- Issue a fill for a port under the current generation (R60, R61). -/
def State.issueFill (s : State) (p : PortNo) : State := s.push (.fill (s.planAddr p) p s.cache.gen)

/-! ## PLANNING (R14) -/

/-- A port enters HELD for a reason of its own. -/
def State.holdPort (s : State) (p : PortNo) (why : HoldReason) : State :=
  s.runPort p fun env c => c.enterHeld env.self why

/-- A port goes on from PLANNING: its caps, then SIGNAL. -/
def Ctl.goOn (env : Env) (c : Ctl) : Ctl := (c.mod Port.computeCaps).enterSignal env

/-- A lookup that ends UNPLANNED: admitted, or held (R14). -/
def State.unplannedPort (s : State) (p : PortNo) : State :=
  s.runPort p fun env c =>
    let c := c.mod fun q => { q with plan := .unplanned }
    if env.cfg.admitUnplanned then c.goOn env else c.enterHeld env.self .unplanned

/-- A plan entry handed to a port (R57). -/
def State.givePlan (s : State) (p : PortNo) (entry : List Byte) : State :=
  if planValid entry then
    s.runPort p fun env c => (c.mod fun q => { q with plan := .planned (planCopyOf entry) }).goOn env
  else s.unplannedPort p

/-- A port in PLANNING finds its plan entry (R14, R59, R60). -/
def State.lookup (s : State) (p : PortNo) : State :=
  if s.we.st.working then
    if s.we.anchor.planCount ≤ p.val then s.unplannedPort p
    else match s.cache.find p with
      | some e => { s with cache := s.cache.touch e }.givePlan p e.bytes.toList
      | none =>
        let s := s.setFillPending p true
        if s.outstandingFill p = none then s.issueFill p else s
  else s.holdPort p .planUnavailable

/-- At the engine's entry into STOPPED or HALTED every port waiting on a fill holds with PLAN_UNAVAILABLE (R14, R65). -/
def State.failFills (s : State) : State :=
  forPorts (fun p s =>
    if s.cache.fillPending[p] then (s.setFillPending p false).holdPort p .planUnavailable else s) s

/-! ## Epoch changes (R66, R68) -/

/-- A new epoch handed to every port. -/
def State.epochChanges (s : State) : State := forPorts (fun p s => s.runPort p Ctl.epochChange) s

end Sys2Proof.Machine
end

