-- ==== Sys2Proof/Machine/Bus.lean ====
section
/-!
DEFINITION. The module bus (file 07): grants, tries, the ends of a transaction and its outcome at the requester.
-/

namespace Sys2Proof.Machine

/-! ## Tries (R133, R135) -/

/-- The identity read of a port (R12, R133). -/
def identityRead : Transfer := ⟨false, 0x56, 0, 0, 32, []⟩

/-- The device address byte. PRESUMED (log 41): no rule places the direction in the byte; the address stands in bits 7-1 and
the direction in bit 0, where 0 writes and 1 reads. -/
def addressByte (device : BitVec 7) (read : Bool) : Byte := device ++ BitVec.ofBool read

/-- The bytes of a read from the module: the controller acknowledges each but the last, and answers the last with a NACK
(R135). -/
def readActs : Nat → List BusAct
  | 0 => []
  | 1 => [.receive, .nack]
  | n + 2 => [.receive, .ack] ++ readActs (n + 1)

/-- What one try is on the bus (R135). -/
def Transfer.tryActs (x : Transfer) : List BusAct :=
  let head := [.start, .send (addressByte x.device false), .send x.page, .send x.offset]
  if x.isWrite then head ++ x.data.map .send ++ [.stop]
  else head ++ [.restart, .send (addressByte x.device true)] ++ readActs x.len ++ [.stop]

/-! ## Grants (R134, R143) -/

/-- A requester chosen by the arbiter. -/
inductive Grant where
  | port (p : PortNo)
  | job (j : PassJob)
deriving DecidableEq, Repr

/-- The waiting port nearest after the rotation pointer in increasing order, wrapping (R143). -/
def Arbiter.nextPort (a : Arbiter) : Option PortNo :=
  allPorts.findSome? fun k =>
    let q : PortNo := a.rotation + 1 + k
    if a.requests[q] then some q else none

/-- The grant decision under a turn ratio (R143). -/
def Arbiter.choose (a : Arbiter) (ratio : Nat) : Option Grant :=
  match a.queue, a.nextPort with
  | j :: _, some p => if ratio ≠ 0 ∧ ratio ≤ a.since then some (.job j) else some (.port p)
  | j :: _, none => some (.job j)
  | [], some p => some (.port p)
  | [], none => none

/-- The arbiter's state after a grant (R143). -/
def Arbiter.granted (a : Arbiter) : Grant → Arbiter
  | .port p => { a with requests := a.requests.set p false, rotation := p, since := min (a.since + 1) 255 }
  | .job _ => { a with queue := a.queue.tail, since := 0 }

/-- The transaction of a grant, with the values it records (R132, R134). -/
def Grant.txn (cfg : ConfigCopy) (g : Grant) : Txn :=
  let mk := fun (r : Requester) (p : PortNo) (x : Transfer) =>
    { requester := r, port := p, xfer := x, retries := cfg.nackRetries, watchdogMs := cfg.watchdog, tries := 1,
      bytesDone := 0, cut := false, portEvent := false, presenceLost := false : Txn }
  match g with
  | .port p => mk .port p identityRead
  | .job j => mk (.job j.tag) j.port j.xfer

/-! ## Outcomes (R13, R138, R146, R168) -/

/-- The outcome handed to a requester (R138). -/
structure BusOutcome where
  status    : Status
  bytesDone : Nat
  tries     : Nat
  data      : List Byte
deriving DecidableEq, Repr

/-- A port in READING acts on its identity read's outcome (R13, R146); accepted bytes take it to PLANNING. -/
def State.identityOutcome (s : State) (p : PortNo) (o : BusOutcome) : State :=
  if (s.port p).st = .identify ∧ (s.port p).sub = some .reading then
    if o.status = .ok then
      match identityCheck o.data with
      | .corrupt => s.holdPort p .moduleCorrupt
      | .unsupported => s.holdPort p .moduleUnsupported
      | .accepted m =>
        (s.setPort p { s.port p with ident := some m, sub := some .planning }).lookup p
    else s.holdPort p .moduleUnreadable
  else s

/-- A pass-through job completes with its outcome (R168): a read with OK writes its bytes; the index it held is free
again (R159). -/
def State.jobOutcome (s : State) (tag : JobTag) (x : Transfer) (o : BusOutcome) : State :=
  let bufs := if o.status = .ok ∧ !x.isWrite then bufferOp tag.bufAddr o.data else []
  (s.complete tag.index tag.iFlag bufs o.status (o.bytesDone + 256 * o.tries)).meetStall (fun st => st = Stall.index tag.index)

/-- An outcome handed to its requester. -/
def State.deliver (s : State) (r : Requester) (p : PortNo) (x : Transfer) (o : BusOutcome) : State :=
  match r with
  | .port => s.identityOutcome p o
  | .job tag => s.jobOutcome tag x o

/-! ## Carrying out grants -/

/-- One grant (R134): a queue job's place frees (R142), and the transaction ends at once or goes to the bus. DESIGN CHOICE
(log 46): a take that waited for the place goes on before the outcome of a transaction that ends at once. -/
def State.grant (s : State) (g : Grant) : State :=
  let s := { s with arb := s.arb.granted g }
  let s := match g with
    | .job _ => s.meetStall (fun st => st = Stall.place)
    | .port _ => s
  let t := g.txn s.we.cfg
  let atOnce := fun (st : Status) => (s.emit [.busStop]).deliver t.requester t.port t.xfer ⟨st, 0, 0, []⟩
  if t.requester ≠ .port ∧ !(s.port t.port).present then atOnce .noModule
  else if s.bus.stuck[t.port] then atOnce .busStuck
  else { s with bus := { s.bus with
            st := .transfer, current := some t, selected := some t.port, watchdog := some t.watchdogMs } }.emit
          [.busTry t.xfer.tryActs]

/-- Grant decisions while the controller is IDLE and a requester waits (R143); each grant that ends at once is followed
by the next decision. The fuel is above the number that can wait: 32 ports and 4 jobs. -/
def State.grantLoop : Nat → State → State
  | 0, s => s
  | n + 1, s =>
    if s.bus.st = .idle then
      match s.arb.choose s.we.cfg.turnRatio with
      | none => s
      | some g => State.grantLoop n (s.grant g)
    else s

def State.grants (s : State) : State := State.grantLoop 37 s

/-- A port posts its identity-read request (R12, R142). -/
def State.postRequest (s : State) (p : PortNo) : State :=
  { s with arb := { s.arb with requests := s.arb.requests.set p true } }.grants

/-- A pass-through job joins the tail of the queue (R142). -/
def State.queueJob (s : State) (j : PassJob) : State :=
  { s with arb := { s.arb with queue := s.arb.queue ++ [j] } }.grants

/-! ## The end of a transaction (R138, R147, R148) -/

/-- The outcome of a transaction at its requester: none when cut; NO_MODULE for a job whose port has lost presence. -/
def State.txnOutcome (s : State) (t : Txn) (st : Status) (data : List Byte) : State :=
  if t.cut then s
  else match t.requester with
    | .port => s.deliver t.requester t.port t.xfer ⟨st, t.bytesDone, t.tries, data⟩
    | .job _ =>
      if t.presenceLost then s.deliver t.requester t.port t.xfer ⟨.noModule, t.bytesDone, t.tries, []⟩
      else s.deliver t.requester t.port t.xfer ⟨st, t.bytesDone, t.tries, data⟩

/-- The transaction ends (R138): branch released, watchdog stopped, IDLE, the outcome handed over, the next decision made.
DESIGN CHOICE (log 46): the outcome acts at its requester before the next decision. -/
def State.endTxn (s : State) (t : Txn) (st : Status) (data : List Byte) : State :=
  ({ s with bus := { s.bus with st := .idle, current := none, selected := none, watchdog := none } }.txnOutcome
    t st data).grants

/-! ## Events of a port at the bus (R132, R144, R147, R148) -/

/-- A port's waiting request leaves the set (R144). -/
def State.dropRequest (s : State) (p : PortNo) : State :=
  { s with arb := { s.arb with requests := s.arb.requests.set p false } }

/-- Clear a port's branch-stuck flag (R141). -/
def State.clearStuck (s : State) (p : PortNo) : State :=
  { s with bus := { s.bus with stuck := s.bus.stuck.set p false } }

/-- Change the current transaction when it is a port's. -/
def State.markTxn (s : State) (p : PortNo) (f : Txn → Txn) : State :=
  { s with bus := { s.bus with current := s.bus.current.map fun t => if t.port = p then f t else t } }

/-- The cut mark, on an identity read (R147). -/
def Txn.cutRead (t : Txn) : Txn := if t.requester = .port then { t with cut := true } else t

/-- The marks of presence lost (R132). -/
def Txn.losesPresence (t : Txn) : Txn := { t.cutRead with portEvent := true, presenceLost := true }

/-- The marks of PORT_DISABLE and PORT_RESTART (R132). -/
def Txn.takesPortEvent (t : Txn) : Txn := { t.cutRead with portEvent := true }

end Sys2Proof.Machine
end

