-- ==== Sys2Proof/Machine/Engine.lean ====
section
/-!
DEFINITION. The work engine's states (files 08, 09): start, drain, halt, restart; the chassis ID; reports in flight;
what a flush and a port event do; and the start of each of the twelve request kinds.
-/

namespace Sys2Proof.Machine

/-! ## Reports in flight (R178) -/

/-- Lost reports go back to their ports, in the order they were written, each ahead of those written after it; `head` is
what has been restored to the head of the queue so far. -/
def restoreAll : List InFlight → List PortNo → ReportEngine → ReportEngine
  | [], head, r => { r with queue := head ++ r.queue }
  | f :: fs, head, r =>
    let old := r.recs[f.port]
    restoreAll fs (if old.count = 0 then head ++ [f.port] else head)
      { r with recs := r.recs.set f.port (old.join f.kinds f.count) }

/-- Restore these reports and take them out of flight, leaving others in flight. -/
def State.restoreReports (s : State) (lost kept : List InFlight) : State :=
  { s with rep := { restoreAll lost [] s.rep with inflight := kept } }

/-- A report read that is discarded leaves the writer IDLE with its re-read flag clear (R177). -/
def State.writerIdle (s : State) : State := { s with rep := { s.rep with phase := .idle, reread := false } }

/-! ## Jobs abandoned (R129, R145, R153) -/

/-- A job in a slot is abandoned without writing its descriptor; a LANE_TEST's test ends without verdicts (R129). -/
def State.abandonJob (s : State) (k : Fin 16) : State :=
  match s.we.slots[k] with
  | none => s
  | some j =>
    let s := { s with we := { s.we with slots := s.we.slots.set k none } }
    match j.kind with
    | .laneTest => s.setPort j.port (s.port j.port).closeTest
    | .await _ => s

/-- Every job is abandoned: slots freed, the pass-through queue emptied, a job's transaction at the bus cut (R145), the
scan and its reads given up (R160). -/
def State.abandonWork (s : State) : State :=
  let s := allSlots.foldl State.abandonJob s
  let s := s.abandonReads MemOp.isWorkRead
  { s with
    arb := { s.arb with queue := [] }
    bus := { s.bus with current := s.bus.current.map fun t =>
      if t.requester = .port then t else { t with cut := true } }
    we := { s.we with scan := .noScan, scanPending := false, scanTimer := none } }

/-! ## Engine states -/

/-- Entry into HALTED (R172, R182): jobs abandoned, HALT set, RUN cleared, waiting ports held. -/
def State.enterHalted (s : State) (cause : HaltCause) : State :=
  let s := s.abandonWork
  ({ s with we := { s.we with st := .halted, run := false, haltCause := cause } }.raise evHalt).failFills

/-- Entry into STOPPED (R183, R65): RUN cleared, the scan timer stopped, waiting ports held. -/
def State.enterStopped (s : State) : State :=
  { s with we := { s.we with st := .stopped, run := false, scanTimer := none } }.failFills

/-- The five conditions of R153 for a drain to end. -/
def State.drained (s : State) : Bool :=
  (allSlots.all fun k => s.we.slots[k] = none) &&
  s.arb.queue = [] &&
  (match s.bus.current with
    | none => true
    | some t => t.requester = .port) &&
  (s.mm.ops.all fun e => !(e.op.isStartRead && !e.abandoned)) &&
  (s.mm.ops.all fun e => !e.op.isCompletion)

/-- The end of a drain (R183). -/
def State.finishDrain (s : State) : State := (s.raise evDrained).enterStopped

/-- The scan interval (R156). -/
def ConfigCopy.scanInterval (c : ConfigCopy) : Nat := (c.scanValue + 1) * 4

/-- The periodic scan timer as it is started at an entry into RUNNING (R156; log 16). -/
def ConfigCopy.scanStart (c : ConfigCopy) : Timer := if c.scanEnable then some c.scanInterval else none

/-- The new chassis ID (R152). -/
def State.newChassis (s : State) (c : ConfigCopy) : BitVec 16 :=
  if c.chassisOverride then c.overrideId else s.straps.zeroExtend 16

/-- Whether a new chassis ID is admissible (R152). -/
def State.admissible (s : State) (id : BitVec 16) : Bool :=
  id = s.we.chassis ||
  (id ≠ 0 && allPorts.all fun p => (s.port p).st = .off || (s.port p).st = .empty) ||
  allPorts.all fun p => (s.port p).st = .off

/-- Attempts left of every port brought down to the budget in force (R29, R90; log 17). -/
def State.lowerBudget (s : State) : State :=
  { s with ports := s.ports.map fun c => { c with left := min c.left s.we.cfg.attemptBudget } }

/-- Entry into RUNNING on a valid anchor (R150, R151, R152, R66, R182). DESIGN CHOICE (log 44): the ports take a new epoch
before the entry's triggers. DESIGN CHOICE (log 43): of the two triggers the report engine's comes first. -/
def State.enterRunning (s : State) (b : List Byte) : State :=
  let cfg := configOf b
  let id := s.newChassis cfg
  let chassis := if s.admissible id then id else s.we.chassis
  let old := s.cache.epoch
  let s := { s with
    we := { s.we with st := .running, anchor := anchorOf b, cfg := cfg, chassis := chassis, cursor := 0,
                      scanPending := false, stall := .noStall, scanTimer := cfg.scanStart }
    rep := { s.rep with cursor := 0 }
    cache := { s.cache.flush with epoch := anchorEpoch b } }.lowerBudget
  let s := if anchorEpoch b = old then s else s.epochChanges
  s.triggerReport.triggerScan

/-- Entry into STARTING (R182): halt cause cleared, ANCHOR latched, the anchor block read. -/
def State.enterStarting (s : State) : State :=
  { s with we := { s.we with st := .starting, run := true, haltCause := .noCause, latched := s.regs.anchorReg } }.push
    (.anchorRead (64 * s.regs.anchorReg.toNat))

/-- A CONTROL write of RUN = 1 (R181). DESIGN CHOICE (log 43): on the return from DRAINING the report engine is triggered
before the scan. -/
def State.setRun (s : State) : State :=
  match s.we.st with
  | .stopped | .halted => s.enterStarting
  | .draining =>
    let t := { s with we := { s.we with st := .running, run := true, scanTimer := s.we.cfg.scanStart } }
    t.triggerReport.triggerScan
  | .starting | .running => s

/-- The scan given up when the engine leaves RUNNING for DRAINING (R160): a descriptor whose TAKEN is not written is not
taken, a taken one is carried through its start. -/
def State.stopScan (s : State) : State :=
  let s := s.abandonReads fun op => match op with
    | .descRead _ => true
    | _ => false
  { s with we := { s.we with scan := .noScan, scanPending := false } }

/-- A CONTROL write of RUN = 0 (R181, R183). DESIGN CHOICE (log 43): the report engine is triggered by the entry into
DRAINING before an engine that holds no work enters STOPPED. -/
def State.clearRun (s : State) : State :=
  match s.we.st with
  | .starting => { s with we := { s.we with run := false } }
  | .running =>
    let s := s.stopScan
    let s := { s with we := { s.we with st := .draining, run := false } }.triggerReport
    if s.drained then s.finishDrain else s
  | .stopped | .draining | .halted => s

/-- The memory master at ENGINE_RESTART (R184): the operation in progress is carried out, the rest handed back; reads of
the work engine and the report engine deliver nothing (R178). -/
def State.restartMemory (s : State) : State :=
  match s.mm.ops with
  | [] => s
  | e :: _ =>
    { s with mm := { s.mm with ops := [match e.op with
        | .reportRead _ => { e with abandoned := true }
        | _ => e] } }

/-- The reports in flight at ENGINE_RESTART: the first stays in flight when its FILLED write is in progress (R178). -/
def State.restartReports (s : State) : State :=
  match s.memHead, s.rep.inflight with
  | some ⟨.reportFilled _ _, _⟩, f :: fs => s.restoreReports fs [f]
  | _, fs => s.restoreReports fs []

/-- ENGINE_RESTART (R184). DESIGN CHOICE (log 45): reports handed back are restored before the ports that wait on a fill
are held. -/
def State.restartEngine (s : State) : State :=
  let s := s.abandonWork.restartReports.restartMemory
  { s with
    we := { s.we with cursor := 0, stall := .noStall }
    rep := { s.rep with cursor := 0, phase := .idle, reread := false, stallFlag := false }
    cache := s.cache.flush }.enterStopped

/-! ## Port events by request and by flush -/

/-- What presence lost, PORT_DISABLE, PORT_RESTART and a reverify flush do at the other blocks (R8, R10, R26, R69). -/
def State.leaveBus (s : State) (p : PortNo) (f : Txn → Txn) : State :=
  ((s.dropRequest p).setFillPending p false).markTxn p f

/-- A reverify at a port (R69). -/
def State.reverify (s : State) (p : PortNo) : State :=
  if (s.port p).st = .off ∨ (s.port p).st = .empty then s
  else (s.leaveBus p Txn.cutRead).runPort p fun env c =>
    (c.endLaneTest .portRestarted asStop).enterIdentify env.self false

/-- PLAN_FLUSH at the plan cache (R67). -/
def State.flushCache (s : State) (newEpoch : Bool) (epoch : BitVec 16) : State :=
  { s with cache := { s.cache.flush with epoch := if newEpoch then epoch else s.cache.epoch } }

/-- PLAN_FLUSH at the plan cache and the ports (R67 to R69). -/
def State.flushPlans (s : State) (newEpoch reverify : Bool) (epoch : BitVec 16) : State :=
  let t := s.flushCache newEpoch epoch
  if reverify then forPorts (fun p s => s.reverify p) t
  else if newEpoch ∧ epoch ≠ s.cache.epoch then t.epochChanges
  else t

/-- PORT_ENABLE at a port controller, and the status it completes with (R7). -/
def State.enablePort (s : State) (p : PortNo) (hold : Bool) : State × Status :=
  if s.we.chassis = 0 then (s, .noIdentity)
  else if (s.port p).st = .off then
    (s.runPort p fun env c =>
      let c := c.mod fun q => { q with holdOnDrop := hold, sendClock := some env.cfg.beaconInterval }
      if c.port.present then c.enterIdentify env.self false else c.enterEmpty env.self, .ok)
  else (s.setPort p { s.port p with holdOnDrop := hold }, .already)

/-- PORT_DISABLE at a port controller (R8). -/
def State.disablePort (s : State) (p : PortNo) : State :=
  let t := (s.clearStuck p).markTxn p Txn.takesPortEvent
  if (s.port p).st = .off then t
  else ((t.dropRequest p).setFillPending p false).runPort p fun env c =>
    (c.endLaneTest .portDisabled asStop).enterOff env.self

/-- PORT_RESTART at a port controller, and its status (R26). -/
def State.restartPort (s : State) (p : PortNo) : State × Status :=
  if (s.port p).st = .off then (s, .wrongState)
  else if (s.port p).st = .empty then (s, .noModule)
  else
    (((s.clearStuck p).leaveBus p Txn.takesPortEvent).runPort p fun env c =>
      (c.endLaneTest .portRestarted asStop).enterIdentify env.self true, .ok)

/-! ## The snapshot (R165, Formats) -/

/-- A lane part of a snapshot. -/
def lanePart (l : Lane) (stuck : Bool) : List Byte :=
  [l.st.code, flagBit (l.polarity = .inverted) 0 ||| flagBit l.far.isSome 1 ||| flagBit stuck 2] ++
  (match l.far with
   | none => [0, 0, 0xFF, 0xFF, 0, 0]
   | some f => toLE 2 f.chassis.toNat ++ [f.port.zeroExtend 8, f.lane.zeroExtend 8] ++ toLE 2 f.epoch.toNat) ++
  toLE 2 l.beaconErrs ++ toLE 4 l.lineErrs ++ zeros 2

/-- The far chassis and far port as written, absent or not (R188). -/
def farBytes : Option CableEnd → List Byte
  | none => [0, 0, 0xFF]
  | some f => toLE 2 f.chassis.toNat ++ [f.port.zeroExtend 8]

/-- The module bytes of a snapshot: kind, lane count, effective maximum grade, length, maker code, serial. -/
def moduleBytes : Option ModuleId → List Byte
  | none => zeros 21
  | some m => [m.kind.code, BitVec.ofNat 8 m.lanes, BitVec.ofNat 8 m.maxGrade] ++ toLE 2 m.length.toNat ++
      m.maker.toList ++ m.serial.toList

/-- The 128-byte snapshot of a port. -/
def snapshot (c : Port) (stuck : Bool) (epoch : BitVec 16) : List Byte :=
  [c.st.code, SubStep.code c.sub, c.holdReason.code, c.verdict.code, c.role.code, c.attempt, BitVec.ofNat 8 c.left,
    BitVec.ofNat 8 c.drops, gradeByte c.agreed, (c.good ++ c.laneSet : BitVec 8),
    flagBit c.present 0 ||| flagBit c.ident.isSome 1 ||| (c.plan.code <<< 2) ||| flagBit c.holdOnDrop 4] ++
  moduleBytes c.ident ++
  [BitVec.ofNat 8 c.gradeCeil, BitVec.ofNat 8 c.widthCeil] ++ toLE 2 epoch.toNat ++ farBytes c.far ++
  [c.usable.zeroExtend 8] ++ zeros 24 ++ allLanes.flatMap fun i => lanePart (c.lane i) stuck

/-! ## The twelve request kinds (R163 to R170) -/

/-- A request completes (R162). -/
def State.completeReq (s : State) (r : Request) (bufs : List MemOp) (st : Status) (result : Nat) : State :=
  s.complete r.index r.iFlag bufs st result

/-- The port a request names, when it is below 32 (R163). -/
def reqPort (r : Request) : Option PortNo :=
  if h : r.port.toNat < 32 then some ⟨r.port.toNat, h⟩ else none

/-- A request on a port; a port number of 32 to 255 completes with BAD_PORT (R163). -/
def State.onPort (s : State) (r : Request) (f : PortNo → State) : State :=
  match reqPort r with
  | none => s.completeReq r [] .badPort 0
  | some p => f p

/-- The port state after the request acted, as the result word (R162). -/
def State.stateWord (s : State) (p : PortNo) : Nat := (s.port p).st.code.toNat

def reqTag (r : Request) : JobTag := ⟨r.index, r.iFlag, r.bufAddr⟩

/-- PORT_ENABLE (R7, R164). DESIGN CHOICE (log 42): the report read that its port's change issues comes before its
completion writes. -/
def State.startEnable (s : State) (r : Request) : State :=
  s.onPort r fun p =>
    let t := s.enablePort p (r.argA.getLsbD 0)
    t.1.completeReq r [] t.2 (t.1.stateWord p)

/-- PORT_DISABLE (R8, R164). DESIGN CHOICE (log 42): the report read that its port's change issues comes before its
completion writes. -/
def State.startDisable (s : State) (r : Request) : State :=
  s.onPort r fun p => (s.disablePort p).completeReq r [] .ok ((s.disablePort p).stateWord p)

/-- PORT_RESTART (R26, R164). DESIGN CHOICE (log 42): the report read that its port's change issues comes before its
completion writes. -/
def State.startRestart (s : State) (r : Request) : State :=
  s.onPort r fun p =>
    let t := s.restartPort p
    t.1.completeReq r [] t.2 (t.1.stateWord p)

/-- PORT_QUERY (R165). -/
def State.startQuery (s : State) (r : Request) : State :=
  s.onPort r fun p =>
    if r.bufLen.toNat < 128 then s.completeReq r [] .shortBuffer 0
    else s.completeReq r (bufferOp r.bufAddr (snapshot (s.port p) s.bus.stuck[p] s.cache.epoch)) .ok 128

/-- A job occupies the lowest free slot (R161; log 24). -/
def State.occupy (s : State) (j : Job) : State :=
  match s.freeSlot with
  | none => s
  | some k => { s with we := { s.we with slots := s.we.slots.set k (some j) } }

/-- The lanes a LANE_TEST names: a mask of 0 names every lane of the lane set (R115). -/
def Port.testLanes (c : Port) (mask : LaneSet) : LaneSet := if mask = 0 then c.laneSet else mask

/-- The test of a LANE_TEST (R115). -/
def Port.laneTestOf (c : Port) (cfg : ConfigCopy) (mask : LaneSet) (target dwell : Nat) (drop : Bool) : PortTest :=
  let lanes := c.testLanes mask
  let g := c.agreed.getD .g1
  let t := orDefault target cfg.defaultTarget
  if dwell = 0 then continuousTest lanes g t drop else timedTest .laneTest lanes g t dwell drop

/-- A LANE_TEST starts on an ACTIVE port; a timed one starts the test timer (R115). -/
def Port.startLaneTest (c : Port) (t : PortTest) : Port := { c.startTest t with testTimer := t.dwell }

/-- LANE_TEST (R115, R166). -/
def State.startLaneTest (s : State) (r : Request) : State :=
  s.onPort r fun p =>
    let mask : LaneSet := r.argA.extractLsb' 0 4
    if (s.port p).st ≠ .active then s.completeReq r [] .wrongState 0
    else if s.laneTestSlot p ≠ none then s.completeReq r [] .busy 0
    else if mask ≠ 0 ∧ !subset mask (s.port p).laneSet then s.completeReq r [] .badArg 0
    else if r.bufLen.toNat < 96 then s.completeReq r [] .shortBuffer 0
    else
      let t := (s.port p).laneTestOf s.we.cfg mask (r.argB.extractLsb' 0 8).toNat (r.argB.extractLsb' 16 16).toNat
        (r.argA.getLsbD 8)
      (s.setPort p ((s.port p).startLaneTest t)).occupy ⟨reqTag r, p, .laneTest⟩

/-- LANE_TEST_STOP (R125, R166): the LANE_TEST completes first, then the stop with the number of lanes it ended. -/
def State.startTestStop (s : State) (r : Request) : State :=
  s.onPort r fun p =>
    if (s.port p).runningLaneTest = none then s.completeReq r [] .noTest 0
    else (s.runPort p fun _ c => c.endLaneTest .ok asStop).completeReq r [] .ok (laneCount (s.port p).runningLanes)

/-- PORT_AWAIT (R167). -/
def State.startAwait (s : State) (r : Request) : State :=
  s.onPort r fun p =>
    if (s.port p).st.settled then s.completeReq r [] .ok (s.port p).awaitWord
    else s.occupy ⟨reqTag r, p, .await (if r.argA = 0 then none else some r.argA.toNat)⟩

/-- The transfer of a MODULE_READ or MODULE_WRITE; bit 7 of the device byte is ignored (R133, R168). -/
def reqTransfer (r : Request) (isWrite : Bool) (data : List Byte) : Transfer :=
  ⟨isWrite, (argByte r.argA 0).extractLsb' 0 7, argByte r.argA 1, argByte r.argA 2, (argByte r.argA 3).toNat, data⟩

/-- The checks of R168, in order. -/
def State.moduleCheck (s : State) (r : Request) (p : PortNo) : Option Status :=
  let len := (argByte r.argA 3).toNat
  if len < 1 ∨ 64 < len then some .badArg
  else if r.bufLen.toNat < len then some .shortBuffer
  else if (s.port p).present then none
  else some .noModule

/-- MODULE_READ (R168). -/
def State.startModuleRead (s : State) (r : Request) : State :=
  s.onPort r fun p => match s.moduleCheck r p with
    | some st => s.completeReq r [] st 0
    | none => s.queueJob ⟨reqTag r, p, reqTransfer r false []⟩

/-- MODULE_WRITE: its buffer is read first (R158, R168). -/
def State.startModuleWrite (s : State) (r : Request) : State :=
  s.onPort r fun p => match s.moduleCheck r p with
    | some st => s.completeReq r [] st 0
    | none => s.push (.bufferRead r.bufAddr.toNat ⟨reqTag r, p, reqTransfer r true []⟩)

/-- PLAN_FLUSH (R67, R169). DESIGN CHOICE (log 42): its completion writes come last, after the completions of the
LANE_TESTs that a reverify ends and of the PORT_AWAITs that a new epoch's verification ends, and after the report read
that a port's change issues, such as the VERDICT change of a port that verifies again on a new epoch. -/
def State.startFlush (s : State) (r : Request) : State :=
  let t := s.flushPlans (r.argA.getLsbD 0) (r.argA.getLsbD 1) (r.argB.extractLsb' 0 16)
  t.completeReq r [] .ok t.cache.gen.toNat

/-- CAPS_LIMIT (R16, R164). -/
def State.startCapsLimit (s : State) (r : Request) : State :=
  s.onPort r fun p =>
    let g := min (argByte r.argA 0).toNat 4
    let w := min (argByte r.argA 1).toNat 4
    (s.setPort p { s.port p with gradeCeil := g, widthCeil := w }).completeReq r [] .ok (g + 256 * w)

/-- SET_CONFIG: the anchor block is read again at the latched address (R158, R170). -/
def State.startSetConfig (s : State) (r : Request) : State :=
  s.push (.configRead (64 * s.we.latched.toNat) r)

/-- The start of a request by its kind (R158, R163). -/
def State.startKind (s : State) (k : Kind) (r : Request) : State :=
  match k with
  | .portEnable => s.startEnable r
  | .portDisable => s.startDisable r
  | .portRestart => s.startRestart r
  | .portQuery => s.startQuery r
  | .laneTest => s.startLaneTest r
  | .laneTestStop => s.startTestStop r
  | .portAwait => s.startAwait r
  | .moduleRead => s.startModuleRead r
  | .moduleWrite => s.startModuleWrite r
  | .planFlush => s.startFlush r
  | .capsLimit => s.startCapsLimit r
  | .setConfig => s.startSetConfig r

/-! ## What a take needs (R157, R163) -/

/-- The kinds that need a job slot. -/
def Kind.needsSlot : Kind → Bool
  | .laneTest | .portAwait => true
  | .portEnable | .portDisable | .portRestart | .portQuery | .laneTestStop | .moduleRead => false
  | .moduleWrite | .planFlush | .capsLimit | .setConfig => false

/-- The kinds that need a queue place. -/
def Kind.needsPlace : Kind → Bool
  | .moduleRead | .moduleWrite => true
  | .portEnable | .portDisable | .portRestart | .portQuery | .laneTest | .laneTestStop | .portAwait => false
  | .planFlush | .capsLimit | .setConfig => false

/-- The stall on which a take must wait (R157): the index held, no slot free, no place free; the need is decided by the
kind, and a kind the part does not know, or a port number out of range, needs nothing. A MODULE_WRITE whose buffer is
still being read has its place already, so the queue never holds more than 4 jobs (R142). -/
def State.takeStall (s : State) (k : Option Kind) (r : Request) : Stall :=
  if s.heldIndex r.index then .index r.index
  else match k with
    | none => .noStall
    | some k =>
      if k.needsSlot ∧ reqPort r ≠ none ∧ s.freeSlot = none then .slot
      else if k.needsPlace ∧ reqPort r ≠ none ∧ Config.queueSize ≤ s.arb.queue.length + s.pendingWrites.length then
        .place
      else .noStall

/-- A request handed over at its take (R158, step 3): it starts when the engine is RUNNING and nothing it needs is
missing; otherwise it is not taken and nothing changes (log 7). -/
def State.takeRequest (s : State) (k : Kind) (r : Request) (f : State → State) : State :=
  if s.we.st = .running ∧ s.takeStall (some k) r = .noStall then f s else s

end Sys2Proof.Machine
end

