-- ==== Sys2Proof/Machine/Resets.lean ====
section
/-!
DEFINITION. The meanings of POWER_ON, RESET_N, DEVICE_RESET and RESET_END (R149, R185, R186).
-/

namespace Sys2Proof.Machine

/-- One reset (R185): every block at its device-reset values, a transaction at the bus cut off with a stop condition
(R149), the deassertion message of the interrupt if it was asserted (R179; log 6). Straps and presence inputs are
sampled when the reset ends (R186; log 4). -/
def State.resetPart (s : State) (hold : ResetHold) : State :=
  let t := State.initial hold s.straps 0 s.pending
  { t with out := (if s.bus.current = none then [] else [.busStop]) ++ irqMessage s t }

/-- POWER_ON (R185; log 5: the part is held in reset until RESET_END). -/
def execPowerOn (s : State) : Outcome := .next (s.resetPart .pin)

/-- RESET_N: the pin goes low and holds the part in reset (R185). -/
def execResetN (s : State) : Outcome := .next (s.resetPart .pin)

/-- The reset of a CONTROL write carrying DEVICE_RESET; it ends 1 ms later (R185). A write during a reset is ignored. -/
def State.deviceReset (s : State) : State :=
  if s.hold = .released then s.resetPart (.timed 1) else { s with out := [] }

/-- DEVICE_RESET (R185). -/
def execDeviceReset (s : State) : Outcome := .next s.deviceReset

/-- Whether the reset in force can end: the pin goes high, or the 1 ms of a DEVICE_RESET is over (R185). -/
def ResetHold.canEnd : ResetHold → Bool
  | .pin => true
  | .timed n => n = 0
  | .released => false

/-- RESET_END (R1, R152, R185, R186): the straps are latched, the chassis ID in force is set from them, and each
presence input is sampled into Present without an event. -/
def execResetEnd (strapPins : BitVec 12) (presence : BitVec 32) (s : State) : Outcome :=
  .next (if s.hold.canEnd then State.initial .released strapPins presence s.pending else { s with out := [] })

end Sys2Proof.Machine
end

