-- ==== Sys2Proof/Machine/Registers.lean ====
section
/-!
DEFINITION. The register window (R179, R180) and the meanings of the register rows: engine control, nudges, events, mask.
-/

namespace Sys2Proof.Machine

/-! ## Reads (R180) -/

/-- The CONTROL register as read: RUN, the engine state and the halt cause. -/
def State.readControl (s : State) : Word :=
  (0#18 ++ (s.we.haltCause.code.extractLsb' 0 2 ++ (0#1 ++ (s.we.st.code.extractLsb' 0 3 ++
    (0#7 ++ BitVec.ofBool s.we.run)))) : BitVec 32)

/-- A read of the window. During a reset every register but IDENT reads 0 (R185). -/
def State.readRegister (s : State) (offset : BitVec 6) : Word :=
  if offset = 0x00 then 0x00010B32
  else if s.hold ≠ .released then 0
  else if offset = 0x04 then s.readControl
  else if offset = 0x08 then s.regs.anchorReg
  else if offset = 0x10 then s.regs.events.zeroExtend 32
  else if offset = 0x14 then s.regs.mask.zeroExtend 32
  else 0

/-! ## Writes -/

/-- A write of 1 to the WORK bit of NUDGE (R155). -/
def State.nudgeWork (s : State) : State := s.triggerScan

/-- A write of 1 to the REPORTS bit of NUDGE, taken only while the engine is RUNNING (R175). -/
def State.nudgeReports (s : State) : State := if s.we.st = .running then s.triggerReport else s

/-- A write to NUDGE; which of the two bits acts first is free (log 19). -/
def State.writeNudge (s : State) (v : Word) : State :=
  let work := fun t : State => if v.getLsbD 0 then t.nudgeWork else t
  let reports := fun t : State => if v.getLsbD 1 then t.nudgeReports else t
  if Config.nudgeWorkFirst then reports (work s) else work (reports s)

/-- A write to EVENTS clears the bits written 1 (R179). -/
def State.clearEvents (s : State) (v : Word) : State :=
  { s with regs := { s.regs with events := s.regs.events &&& ~~~(v.extractLsb' 0 5) } }

/-- A write to EVENT_MASK (R179). -/
def State.writeMask (s : State) (v : Word) : State := { s with regs := { s.regs with mask := v.extractLsb' 0 5 } }

/-- A CONTROL write without DEVICE_RESET: ENGINE_RESTART, or else RUN as written (R180). -/
def State.writeControl (s : State) (v : Word) : State :=
  if v.getLsbD 1 then s.restartEngine
  else if v.getLsbD 0 then s.setRun
  else s.clearRun

/-- A write to the window by offset; IDENT and the other offsets ignore it (R180). -/
def State.writeRegister (s : State) (offset : BitVec 6) (v : Word) : State :=
  if offset = 0x04 then s.writeControl v
  else if offset = 0x08 then { s with regs := { s.regs with anchorReg := v } }
  else if offset = 0x0C then s.writeNudge v
  else if offset = 0x10 then s.clearEvents v
  else if offset = 0x14 then s.writeMask v
  else s

/-! ## The rows -/

/-- ENGINE_RESTART (R184). -/
def execEngineRestart (s : State) : Outcome := act s State.restartEngine

/-- RUN_SET (R181). -/
def execRunSet (s : State) : Outcome := act s State.setRun

/-- RUN_CLEAR (R181, R183). -/
def execRunClear (s : State) : Outcome := act s State.clearRun

/-- NUDGE_WORK (R155). -/
def execNudgeWork (s : State) : Outcome := act s State.nudgeWork

/-- NUDGE_REPORTS (R175). -/
def execNudgeReports (s : State) : Outcome := act s State.nudgeReports

/-- EVENTS_CLEAR (R179). -/
def execEventsClear (value : Word) (s : State) : Outcome := act s fun s => s.clearEvents value

/-- EVENT_MASK_WRITE (R179). -/
def execEventMaskWrite (value : Word) (s : State) : Outcome := act s fun s => s.writeMask value

/-- REGISTER_WRITE (R180; log 34: the row covers a write to any offset of the window). -/
def execRegisterWrite (offset : BitVec 6) (value : Word) (s : State) : Outcome :=
  if offset = 0x04 ∧ value.getLsbD 2 then .next s.deviceReset
  else act s fun s => s.writeRegister offset value

end Sys2Proof.Machine
end

