-- ==== Sys2Proof/Machine/Sideband.lean ====
section
/-!
DEFINITION. The meanings of the sideband rows: PRESENCE_RAISED, PRESENCE_LOST, ALERT_ASSERTED (R4, R6, R9, R10).
-/

namespace Sys2Proof.Machine

/-- Presence raised: recorded and reported; an EMPTY port enters IDENTIFY (R4, R9). -/
def Ctl.raisePresence (env : Env) (c : Ctl) : Ctl :=
  let c := (c.mod fun p => { p with present := true }).mark kindPresence
  if c.port.st = .empty then c.enterIdentify env.self false else c

/-- PRESENCE_RAISED: a change of level only (R4; log 2). -/
def execPresenceRaised (p : PortNo) (s : State) : Outcome :=
  act s fun s => if (s.port p).present then s else s.runPort p Ctl.raisePresence

/-- Presence lost is recorded and reported (R4). -/
def Ctl.losePresence (c : Ctl) : Ctl := (c.mod fun p => { p with present := false }).mark kindPresence

/-- Presence lost at a port (R4, R10, R128, R132, R141; log 15: in OFF too the branch-stuck flag is cleared). -/
def State.presenceLost (s : State) (p : PortNo) : State :=
  let t := s.clearStuck p
  if (s.port p).st = .off ∨ (s.port p).st = .empty then
    (t.markTxn p Txn.losesPresence).runPort p fun _ c => c.losePresence
  else
    (t.leaveBus p Txn.losesPresence).runPort p fun env c =>
      (c.losePresence.endLaneTest .portLost fun _ _ _ => .lost).enterEmpty env.self

/-- PRESENCE_LOST: a change of level only (R4; log 2). -/
def execPresenceLost (p : PortNo) (s : State) : Outcome :=
  act s fun s => if (s.port p).present then s.presenceLost p else s

/-- ALERT_ASSERTED (R6). -/
def execAlertAsserted (p : PortNo) (s : State) : Outcome := act s fun s => s.handOver p kindAlert

end Sys2Proof.Machine
end

