-- ==== Sys2Proof/Machine/Lanes.lean ====
section
/-!
DEFINITION. The meanings of the lane indications: lock, delimiters, beacon frames, training words, line errors
(R34 to R37, R42 to R53, R120, R121).
-/

namespace Sys2Proof.Machine

/-! ## Lock (R34, R35) -/

/-- A TRAINING lane gains lock, and the port looks at its set lanes (R34, R102). -/
def Ctl.gainLock (i : LaneNo) (env : Env) (c : Ctl) : Ctl :=
  (c.mod fun p => p.modLane i fun l => { l with st := .locked }).checkTrain env

/-- LOCK_GAINED (R34). -/
def execLockGained (p : PortNo) (i : LaneNo) (s : State) : Outcome :=
  act s fun s => if ((s.port p).lane i).st = .training then s.runPort p (Ctl.gainLock i) else s

/-- A lock lost ends a running lane of a test with LOST (R121). -/
def Port.loseRunning (c : Port) (i : LaneNo) : Port :=
  match c.runningTest, c.runningRecord i with
  | some t, some r => c.modLane i fun l => { l with test := some (r.give .lost t.n false) }
  | _, _ => c

/-- The states of an attempt in which the port acts on lock lost (R109). -/
def PortState.inAttempt : PortState → Bool
  | .train | .qualify | .confirm => true
  | .off | .empty | .identify | .signal | .dark | .agree | .active | .held => false

/-- A LOCKED lane loses lock: its test ends, it is FAILED, and the port acts (R35, R109, R121). -/
def Ctl.loseLock (i : LaneNo) (env : Env) (c : Ctl) : Ctl :=
  let c := (c.mod fun p => p.loseRunning i).command env.self i .failed
  if c.port.st.inAttempt ∧ hasLane c.port.laneSet i then c.lockLossInAttempt env else c

/-- LOCK_LOST by lane state (R35). -/
def execLockLost (p : PortNo) (i : LaneNo) (s : State) : Outcome :=
  act s fun s => match ((s.port p).lane i).st with
    | .locked => s.runPort p (Ctl.loseLock i)
    | .data => s.runPort p fun env c => c.drop env i
    | .quiet | .beacon | .training | .failed => s

/-! ## Beacons (R42 to R49) -/

/-- DELIMITER_FOUND: in BEACON its sense becomes the polarity and the receiver collects (R37, R42, R43). -/
def execDelimiterFound (p : PortNo) (i : LaneNo) (sense : Polarity) (s : State) : Outcome :=
  act s fun s =>
    if ((s.port p).lane i).st = .beacon then
      s.setPort p ((s.port p).modLane i fun l => { l with polarity := sense, rx := .collect })
    else s

/-- The 18 bytes as the receiver checks them: inverted when the polarity is INVERTED (R43). -/
def Lane.correct (l : Lane) (bytes : List Byte) : List Byte :=
  match l.polarity with
  | .normal => bytes
  | .inverted => bytes.map fun b => ~~~b

/-- A frame whose check fails is counted and dropped (R44). -/
def Lane.countError (l : Lane) : Lane := { l with beaconErrs := min (l.beaconErrs + 1) Config.beaconErrMax }

/-- The repeat count after a valid beacon of this sender (R46). -/
def Lane.nextRep (l : Lane) (id : Ident) : Nat := if l.cand = some id then min (l.rep + 1) 2 else 1

/-- The mark of the arrival of a valid beacon of this sender (R47, R49). -/
def Lane.markOf (l : Lane) (id : Ident) : ArrivalMark :=
  if l.nextRep id = 2 then
    if l.far = none then .identified
    else if l.far = some id then .noMark
    else .changed
  else .noMark

/-- What a valid beacon makes of the lane record: candidate, repeat count, far identity, record (R46 to R48). -/
def Lane.hear (l : Lane) (id : Ident) (r : NegRecord) : Lane :=
  { l with cand := some id, rep := l.nextRep id, far := if l.nextRep id = 2 then some id else l.far, neg := some r }

/-- A valid beacon on a lane and its arrival at the port (R46 to R49). -/
def Ctl.hearBeacon (i : LaneNo) (id : Ident) (r : NegRecord) (env : Env) (c : Ctl) : Ctl :=
  let mark := (c.port.lane i).markOf id
  let c := c.mod fun p => p.modLane i fun l => l.hear id r
  if c.port.isPresent i then c.arrival env mark r else c

/-- A frame taken in COLLECT: the receiver returns to HUNT; a failed check is counted; a beacon that is not valid is
dropped; a valid one is heard (R43 to R49). -/
def State.takeBeacon (s : State) (p : PortNo) (i : LaneNo) (bytes : List Byte) : State :=
  let frame := ((s.port p).lane i).correct bytes
  let s := s.setPort p ((s.port p).modLane i fun l => { l with rx := .hunt })
  if checkOk 16 frame then
    match beaconOf frame with
    | some ⟨ph, a, g, why, some b⟩ => s.runPort p (Ctl.hearBeacon i b.sender ⟨ph, a, g, why, some b⟩)
    | some ⟨_, _, _, _, none⟩ | none => s
  else s.setPort p ((s.port p).modLane i Lane.countError)

/-- BEACON_FRAME: acted on in BEACON and COLLECT alone (R37, R42, R43). -/
def execBeaconFrame (p : PortNo) (i : LaneNo) (bytes : Vector Byte 18) (s : State) : Outcome :=
  act s fun s =>
    if ((s.port p).lane i).st = .beacon ∧ ((s.port p).lane i).rx = .collect then s.takeBeacon p i bytes.toList else s

/-! ## Training words (R51) -/

/-- The record a word makes: phase, attempt, good mask and reason from the word, the rest as the last beacon left it. -/
def Lane.wordRecord (l : Lane) (ph : Phase) (b : List Byte) : NegRecord where
  phase := ph
  attempt := byteAt b 1
  good := (byteAt b 2).extractLsb' 0 4
  reason := byteAt b 3
  beacon := l.beaconPart

/-- Whether a word's sender lane is the far lane of the lane's far identity, when it has one. -/
def Lane.fromFarLane (l : Lane) (b : List Byte) : Bool :=
  match l.far with
  | none => true
  | some f => (byteAt b 4).toNat = f.lane.toNat

/-- A word accepted on a lane and its arrival at the port (R51). -/
def Ctl.hearWord (i : LaneNo) (r : NegRecord) (env : Env) (c : Ctl) : Ctl :=
  (c.mod fun p => p.modLane i fun l => { l with neg := some r }).wordHears env r

/-- A word on a LOCKED lane: check, phase, sender lane (R51). -/
def State.takeWord (s : State) (p : PortNo) (i : LaneNo) (b : List Byte) : State :=
  let l := (s.port p).lane i
  if checkOk 6 b then
    match Phase.ofWord (byteAt b 0) with
    | none => s
    | some ph => if l.fromFarLane b then s.runPort p (Ctl.hearWord i (l.wordRecord ph b)) else s
  else s.setPort p ((s.port p).modLane i Lane.countError)

/-- TRAINING_WORD: acted on in LOCKED alone (R37, R51). -/
def execTrainingWord (p : PortNo) (i : LaneNo) (bytes : Vector Byte 8) (s : State) : Outcome :=
  act s fun s => if ((s.port p).lane i).st = .locked then s.takeWord p i bytes.toList else s

/-! ## Line errors (R52, R120, R124, R127) -/

/-- The lane's line error count (R52). -/
def Lane.addErrors (l : Lane) (n : Nat) : Lane := { l with lineErrs := min (l.lineErrs + n) Config.countMax }

/-- Whether a lane of a test with this E has passed its error limit; a continuous test has none (R120). -/
def PortTest.exceeded (t : PortTest) (e : Nat) : Bool :=
  match t.eAllow with
  | none => false
  | some a => a < e

/-- What follows a lane's FAIL: the end of a drop-on-fail test and HELD, or the end of a test with no lane running
(R124, R127). -/
def Ctl.laneFailed (t : PortTest) (env : Env) (c : Ctl) : Ctl :=
  match t.kind with
  | .bringUp => if c.port.runningLanes = 0 then c.bringUpOver env else c
  | .laneTest =>
    if t.dropOnFail then (c.endLaneTest .ok asStop).enterHeld env.self .testFailed
    else if c.port.runningLanes = 0 then c.endLaneTest .ok asStop
    else c

/-- An increment on a running lane (R120). -/
def Ctl.addToTest (i : LaneNo) (n : Nat) (t : PortTest) (r : TestRecord) (env : Env) (c : Ctl) : Ctl :=
  let r' : TestRecord := { r with e := min (r.e + n) Config.countMax }
  if t.exceeded r'.e then
    (c.mod fun p => p.modLane i fun l => { l with test := some (r'.give .fail t.n true) }).laneFailed t env
  else c.mod fun p => p.modLane i fun l => { l with test := some r' }

/-- An increment at a lane (R52; log 20). -/
def Ctl.countErrors (i : LaneNo) (n : Nat) (env : Env) (c : Ctl) : Ctl :=
  let c := c.mod fun p => p.modLane i fun l => l.addErrors n
  match c.port.runningTest, c.port.runningRecord i with
  | some t, some r => c.addToTest i n t r env
  | _, _ => c

/-- LINE_ERROR_INCREMENT, in every lane state (R37, R52). -/
def execLineErrorIncrement (p : PortNo) (i : LaneNo) (count : Nat) (s : State) : Outcome :=
  act s fun s => s.runPort p (Ctl.countErrors i count)

end Sys2Proof.Machine
end

