-- ==== Sys2Proof/Machine/PortTimers.lean ====
section
/-!
DEFINITION. The meanings of the send clock rows and of the timer expiries at the ports, the job slots and the work
engine (R11, R12, R19, R38 to R41, R50, R98, R101, R103, R107, R123, R126, R156, R167). An expiry is taken when its
timer is due (log 1).
-/

namespace Sys2Proof.Machine

/-! ## Sending (R38 to R41, R50) -/

/-- The reason a port's frames carry: its hold reason in HELD, else the reason of its outgoing phase (R39, R50). -/
def Port.frameReason (c : Port) : HoldReason := if c.st = .held then c.holdReason else c.phaseReason

/-- The seen identity a port sends: the far end on its lowest identified lane, or none (R41). -/
def Port.seenSent (c : Port) : BitVec 16 × Byte :=
  match lowestLane c.identifiedSet with
  | none => (0, 0xFF)
  | some i => match (c.lane i).far with
    | none => (0, 0xFF)
    | some f => (f.chassis, f.port.zeroExtend 8)

/-- The beacon a lane sends (R39). -/
def Port.beaconBytes (env : Env) (c : Port) (i : LaneNo) : List Byte :=
  delimiter ++ withCheck (beaconPayload c.phase ⟨env.chassis, portBits env.self, laneBits i, env.epoch⟩ c.capGrades
    c.capWidths c.attempt (gradeByte c.agreed) c.laneSet c.good c.frameReason.code c.verdict.code c.seenSent.1
    c.seenSent.2)

/-- The training word a lane sends (R50). -/
def Port.wordBytes (c : Port) (i : LaneNo) : List Byte :=
  withCheck (wordPayload c.phase c.attempt c.good c.frameReason.code i)

/-- What the lanes of a port send at a send instant (R38). -/
def Port.frames (env : Env) (c : Port) : List Out :=
  allLanes.flatMap fun i => match (c.lane i).st with
    | .beacon => [.beacon env.self i (c.beaconBytes env i)]
    | .locked => [.word env.self i (c.wordBytes i)]
    | .quiet | .training | .data | .failed => []

/-- A send instant: the clock starts again, the frames are sent, and a burst counter goes down by one when some lane
has sent (R38, R40). -/
def Ctl.send (env : Env) (c : Ctl) : Ctl :=
  let frames := c.port.frames env
  { c with
    out := c.out ++ frames
    port := { c.port with
      sendClock := some env.cfg.beaconInterval
      burst := if frames = [] then c.port.burst else c.port.burst.map (· - 1) } }

/-- SEND_INSTANT (R38). -/
def execSendInstant (p : PortNo) (s : State) : Outcome :=
  act s fun s => if due (s.port p).sendClock then s.runPort p Ctl.send else s

/-- The burst is over: its counter is let go and agreement acts (R40, R98, R101, R106). -/
def Ctl.endBurst (env : Env) (c : Ctl) : Ctl := (c.mod fun p => { p with burst := none }).burstDone env

/-- BURST_SENT: taken when the burst counter has reached 0 (R40). -/
def execBurstSent (p : PortNo) (s : State) : Outcome :=
  act s fun s => if (s.port p).burst = some 0 then s.runPort p Ctl.endBurst else s

/-! ## The phase timer (R27) -/

/-- RESET_PULSE_EXPIRY: reset is deasserted and SETTLING begins (R11, R12). -/
def execResetPulseExpiry (p : PortNo) (s : State) : Outcome :=
  act s fun s =>
    if (s.port p).st = .identify ∧ (s.port p).sub = some .resetting ∧ due (s.port p).phaseTimer then
      s.setPort p { s.port p with modReset := false, sub := some .settling, phaseTimer := some s.we.cfg.settle }
    else s

/-- SETTLE_EXPIRY: READING begins and the identity read is asked for (R12). -/
def execSettleExpiry (p : PortNo) (s : State) : Outcome :=
  act s fun s =>
    if (s.port p).st = .identify ∧ (s.port p).sub = some .settling ∧ due (s.port p).phaseTimer then
      (s.setPort p { s.port p with sub := some .reading, phaseTimer := none }).postRequest p
    else s

/-- The phase timer, expired, is stopped. -/
def Ctl.stopPhase (c : Ctl) : Ctl := c.mod fun p => { p with phaseTimer := none }

/-- SIGNAL_WINDOW_EXPIRY (R19). -/
def execSignalWindowExpiry (p : PortNo) (s : State) : Outcome :=
  act s fun s =>
    if (s.port p).st = .signal ∧ due (s.port p).phaseTimer then
      s.runPort p fun env c => c.stopPhase.windowOver env
    else s

/-- PHASE_WAIT_EXPIRY (R98, R101, R107). -/
def execPhaseWaitExpiry (p : PortNo) (s : State) : Outcome :=
  act s fun s =>
    if ((s.port p).st = .agree ∨ (s.port p).st = .confirm) ∧ due (s.port p).phaseTimer then
      s.runPort p fun env c => c.stopPhase.phaseWaitOver env
    else s

/-- TRAIN_TIMEOUT (R103). -/
def execTrainTimeout (p : PortNo) (s : State) : Outcome :=
  act s fun s =>
    if (s.port p).st = .train ∧ due (s.port p).phaseTimer then s.runPort p fun env c => c.stopPhase.trainOver env
    else s

/-! ## Tests (R123, R126) -/

/-- Every running lane of the port's test passes (R123). -/
def Port.passRunning (c : Port) : Port :=
  match c.runningTest with
  | none => c
  | some t => c.giveRunning t fun _ _ => .pass

/-- DWELL_EXPIRY: running lanes PASS and the port enters CONFIRM (R123). -/
def execDwellExpiry (p : PortNo) (s : State) : Outcome :=
  act s fun s =>
    if (s.port p).st = .qualify ∧ due (s.port p).dwellTimer then
      s.runPort p fun env c => (c.mod Port.passRunning).bringUpOver env
    else s

/-- TEST_TIMER_EXPIRY: running lanes PASS and the LANE_TEST completes with OK (R123). -/
def execTestTimerExpiry (p : PortNo) (s : State) : Outcome :=
  act s fun s =>
    if due (s.port p).testTimer then s.runPort p fun _ c => c.endLaneTest .ok fun _ _ _ => .pass else s

/-- A continuous LANE_TEST of the port has reached its saturation elapsed (R126). -/
def Port.saturates (c : Port) : Bool :=
  match c.runningLaneTest with
  | none => false
  | some t => t.dwell = none && saturation t.grade ≤ t.elapsed

/-- The test flag SATURATED. -/
def Port.markSaturated (c : Port) : Port := { c with test := c.test.map fun t => { t with saturated := true } }

/-- TEST_SATURATED (R126). -/
def execTestSaturated (p : PortNo) (s : State) : Outcome :=
  act s fun s =>
    if (s.port p).saturates then s.runPort p fun _ c => (c.mod Port.markSaturated).endLaneTest .ok asStop else s

/-! ## Job slots and the work engine (R156, R167) -/

/-- AWAIT_TIMEOUT: the PORT_AWAIT in the slot completes with TIMED_OUT (R167). -/
def execAwaitTimeout (slot : Fin 16) (s : State) : Outcome :=
  act s fun s => match s.we.slots[slot] with
    | none => s
    | some j =>
      if j.kind = .await (some 0) then s.completeSlot slot j [] .timedOut (s.port j.port).awaitWord else s

/-- The periodic scan timer starts again with the interval in force (R156). -/
def State.restartScanTimer (s : State) : State :=
  { s with we := { s.we with scanTimer := some s.we.cfg.scanInterval } }

/-- SCAN_TIMER_EXPIRY: the timer starts again, the report engine is triggered, and in RUNNING a scan (R156). DESIGN CHOICE
(log 43): the report engine is triggered before the scan. -/
def execScanTimerExpiry (s : State) : Outcome :=
  act s fun s => if due s.we.scanTimer then s.restartScanTimer.triggerReport.triggerScan else s

end Sys2Proof.Machine
end

