-- ==== Sys2Proof/Machine/BusEvents.lean ====
section
/-!
DEFINITION. The meanings of the module bus rows (R136 to R140).
-/

namespace Sys2Proof.Machine

/-- The transaction at the bus in a bus state. -/
def State.txnIn (s : State) (st : BusState) : Option Txn := if s.bus.st = st then s.bus.current else none

/-- The bytes done of a transaction whose surroundings name a count: never above its length (log 22). -/
def Txn.moved (t : Txn) (n : Nat) : Txn := { t with bytesDone := min n t.xfer.len }

/-- Recovery begins (R139). -/
def State.recover (s : State) (t : Txn) : State :=
  { s with bus := { s.bus with st := .recovery, watchdog := none, current := some t } }.emit [.busRecovery]

/-- WATCHDOG_EXPIRY: the try is aborted where it stands and the recovery sequence runs (R139). -/
def execWatchdogExpiry (bytesDone : Nat) (s : State) : Outcome :=
  act s fun s => match s.txnIn .transfer with
    | none => s
    | some t => if due s.bus.watchdog then s.recover (t.moved bytesDone) else s

/-- A branch found stuck: its flag is set unless the port-event mark is set (R140). -/
def State.setStuck (s : State) (t : Txn) : State :=
  if t.portEvent then s else { s with bus := { s.bus with stuck := s.bus.stuck.set t.port true } }

/-- RECOVERY_END: the data line decides between BUS_TIMEOUT and BUS_STUCK (R140). -/
def execRecoveryEnd (dataHigh : Bool) (s : State) : Outcome :=
  act s fun s => match s.txnIn .recovery with
    | none => s
    | some t => if dataHigh then s.endTxn t .busTimeout [] else (s.setStuck t).endTxn t .busStuck []

/-- A new try of a transaction (R136). -/
def State.retry (s : State) (t : Txn) : State :=
  { s with bus := { s.bus with current := some { t with tries := t.tries + 1, bytesDone := 0 } } }.emit
    [.busTry t.xfer.tryActs]

/-- ADDRESS_NACK: stop, then a new try or the end with NO_ACK (R136). -/
def execAddressNack (s : State) : Outcome :=
  act s fun s => match s.txnIn .transfer with
    | none => s
    | some t =>
      let s := s.emit [.busStop]
      if t.tries ≤ t.retries then s.retry t else s.endTxn { t with bytesDone := 0 } .noAck []

/-- The bytes done at a byte NACK: the data bytes acknowledged before the refused one (R137). -/
def Txn.refused (t : Txn) (acked : Nat) : Txn :=
  { t with bytesDone := if t.xfer.isWrite then min acked (t.xfer.len - 1) else 0 }

/-- BYTE_NACK: stop, and the end with NO_ACK (R137). -/
def execByteNack (acked : Nat) (s : State) : Outcome :=
  act s fun s => match s.txnIn .transfer with
    | none => s
    | some t => (s.emit [.busStop]).endTxn (t.refused acked) .noAck []

/-- Whether these bytes are what the try of a transaction brings: Length of them for a read (R135; log 22). -/
def Txn.brings (t : Txn) (data : List Byte) : Bool := t.xfer.isWrite || data.length = t.xfer.len

/-- TRY_COMPLETE: the transaction ends with OK (R138). -/
def execTryComplete (data : List Byte) (s : State) : Outcome :=
  act s fun s => match s.txnIn .transfer with
    | none => s
    | some t =>
      if t.brings data then
        s.endTxn { t with bytesDone := t.xfer.len } .ok (if t.xfer.isWrite then [] else data)
      else s

end Sys2Proof.Machine
end

