-- ==== Sys2Proof/Machine/MemoryEvents.lean ====
section
/-!
DEFINITION. The meanings of the memory master's rows (R61, R150, R157, R158, R162, R168, R170 to R172, R176 to R178) and
of DRAIN_END (R183). Each ends the operation at the head of the list.
-/

namespace Sys2Proof.Machine

/-! ## Reads of the work engine -/

/-- The end of the anchor read of STARTING (R150, R182). -/
def State.anchorReturned (s : State) (b : List Byte) : State :=
  if s.we.st = .starting then
    if !s.we.run then s.enterStopped
    else if anchorValid b then s.enterRunning b
    else s.enterHalted .anchorInvalid
  else s

/-- ANCHOR_READ_DONE; an abandoned read delivers nothing (R184). -/
def execAnchorReadDone (block : Vector Byte 64) (s : State) : Outcome :=
  act s fun s => match s.memHead with
    | some ⟨.anchorRead _, abandoned⟩ => if abandoned then s.popMem else s.popMem.anchorReturned block.toList
    | _ => s

/-- A scan that waited for a start read goes on to its next step (R158). -/
def State.scanOn (s : State) : State :=
  if s.we.st = .running ∧ s.we.scan = .starting then s.scanRead else s

/-- The periodic scan timer after a SET_CONFIG (R156; log 30). -/
def State.adjustScanTimer (s : State) : State :=
  { s with we := { s.we with
    scanTimer :=
      if s.we.cfg.scanEnable ∧ s.we.st.working then some (s.we.scanTimer.getD s.we.cfg.scanInterval) else none } }

/-- The return of a SET_CONFIG's anchor read (R170). -/
def State.configReturned (s : State) (b : List Byte) (r : Request) : State :=
  let id := s.newChassis (configOf b)
  if s.admissible id then
    let t := { s with we := { s.we with cfg := configOf b, chassis := id } }.lowerBudget.adjustScanTimer
    t.completeReq r [] .ok id.toNat
  else s.completeReq r [] .wrongState s.we.chassis.toNat

/-- CONFIG_READ_DONE. -/
def execConfigReadDone (block : Vector Byte 64) (s : State) : Outcome :=
  act s fun s => match s.memHead with
    | some ⟨.configRead _ r, abandoned⟩ =>
      if abandoned then s.popMem else (s.popMem.configReturned block.toList r).scanOn
    | _ => s

/-- Whether a start read remains with the memory master (R153, R158). -/
def State.startReadPending (s : State) : Bool := s.mm.ops.any fun e => e.op.isStartRead && !e.abandoned

/-- The next step of a scan after a take: it waits for a start read, or reads the next descriptor (R158). -/
def State.scanAfterTake (s : State) : State :=
  if s.startReadPending then { s with we := { s.we with scan := .starting } } else s.scanRead

/-- A take (R158): TAKEN written, the cursor advanced, the request started; a kind not among the twelve completes with
BAD_KIND (R163). -/
def State.take (s : State) (k : Option Kind) (r : Request) : State :=
  let t := s.push (.takenWrite (s.descAddr s.we.cursor) (takenByte r.iFlag))
  let t := { t with we := { t.we with cursor := (t.we.cursor + 1) % t.we.anchor.workCount } }
  (match k with
   | none => t.completeReq r [] .badKind 0
   | some k => t.startKind k r).scanAfterTake

/-- A scan acts on the descriptor it has read (R157). -/
def State.descReturned (s : State) (d : List Byte) : State :=
  if s.we.st = .running ∧ s.we.scan = .reading then
    if descOwner d ≠ ownReady then s.endScan .noStall
    else
      let r := requestOf s.we.cursor d
      let k := Kind.ofByte (byteAt d 1)
      let st := s.takeStall k r
      if st = .noStall then s.take k r else s.endScan st
  else s

/-- DESCRIPTOR_READ_DONE. -/
def execDescriptorReadDone (desc : Vector Byte 32) (s : State) : Outcome :=
  act s fun s => match s.memHead with
    | some ⟨.descRead _, abandoned⟩ => if abandoned then s.popMem else s.popMem.descReturned desc.toList
    | _ => s

/-- A pass-through job with the bytes it writes. -/
def PassJob.withData (j : PassJob) (data : List Byte) : PassJob := { j with xfer := { j.xfer with data := data } }

/-- BUFFER_READ_DONE: the write joins the pass-through queue with its bytes (R133, R168; log 22). -/
def execBufferReadDone (data : List Byte) (s : State) : Outcome :=
  act s fun s => match s.memHead with
    | some ⟨.bufferRead _ j, abandoned⟩ =>
      if data.length = j.xfer.len then
        if abandoned then s.popMem else (s.popMem.queueJob (j.withData data)).scanOn
      else s
    | _ => s

/-! ## Plan fills (R61) -/

/-- A valid entry is placed in the cache (R61, R62). -/
def State.placePlan (s : State) (p : PortNo) (entry : Vector Byte 16) : State :=
  { s with cache := s.cache.place ⟨p, entry⟩ }

/-- A fill of a port under a generation has completed with its bytes (R61, R62). -/
def State.fillReturned (s : State) (p : PortNo) (g : BitVec 32) (entry : Vector Byte 16) : State :=
  if s.cache.fillPending[p] then
    if g ≠ s.cache.gen then s.issueFill p
    else
      let t := s.setFillPending p false
      if planValid entry.toList then (t.placePlan p entry).givePlan p entry.toList
      else t.unplannedPort p
  else s

/-- FILL_COMPLETE. -/
def execFillComplete (entry : Vector Byte 16) (s : State) : Outcome :=
  act s fun s => match s.memHead with
    | some ⟨.fill _ p g, _⟩ => s.popMem.fillReturned p g entry
    | _ => s

/-! ## Reports (R176, R177) -/

/-- Bytes 1 to 31 of a report entry (Formats). -/
def reportBytes (p : PortNo) (kinds : BitVec 5) (count : Nat) (c : Port) (ms : BitVec 32) : List Byte :=
  [BitVec.ofNat 8 p.val, kinds.zeroExtend 8, BitVec.ofNat 8 count, c.st.code, c.holdReason.code, c.verdict.code,
    gradeByte c.agreed, c.laneSet.zeroExtend 8 ||| flagBit c.present 4 ||| (c.role.code <<< 5), c.attempt,
    BitVec.ofNat 8 c.drops, 0] ++ toLE 4 ms.toNat ++ farBytes c.far ++ zeros 13

/-- A report is written for the port at the head of the queue (R176). -/
def State.writeReport (s : State) (p : PortNo) (rest : List PortNo) : State :=
  let r := s.rep.recs[p]
  let addr := s.reportAddr
  let t := (s.push (.reportBody (addr + 1) (reportBytes p r.kinds r.count (s.port p) s.ms))).push
    (.reportFilled addr ownFilled)
  ({ t with rep := { t.rep with
      recs := t.rep.recs.set p (⟨0, 0⟩ : ReportRec)
      queue := rest
      inflight := t.rep.inflight ++ [(⟨p, r.kinds, r.count, t.rep.cursor⟩ : InFlight)]
      cursor := (t.rep.cursor + 1) % t.we.anchor.reportCount
      phase := .idle
      reread := false
      stallFlag := false } }.raise evReport).triggerReport

/-- The entry is not the part's to fill: the read is made again, or the writer stalls (R177). -/
def State.reportBlocked (s : State) : State :=
  if s.rep.reread then { s with rep := { s.rep with reread := false } }.reportRead
  else if s.rep.stallFlag then { s with rep := { s.rep with phase := .stalled } }
  else { s with rep := { s.rep with phase := .stalled, stallFlag := true } }.raise evStall

/-- The return of a report read with an ownership byte (R176, R177). -/
def State.reportReturned (s : State) (owner : Byte) : State :=
  if s.we.st.working then
    if owner = ownEmpty then
      match s.rep.queue with
      | [] => s.writerIdle
      | p :: rest => s.writeReport p rest
    else s.reportBlocked
  else s.writerIdle

/-- REPORT_READ_DONE; a read discarded by ENGINE_RESTART delivers nothing (R178). -/
def execReportReadDone (owner : Byte) (s : State) : Outcome :=
  act s fun s => match s.memHead with
    | some ⟨.reportRead _, abandoned⟩ => if abandoned then s.popMem else s.popMem.reportReturned owner
    | _ => s

/-- A report's FILLED write is complete: it is no longer in flight, and the report engine is triggered (R175, R176). -/
def State.reportDelivered (s : State) : State :=
  { s with rep := { s.rep with inflight := s.rep.inflight.tail } }.triggerReport

/-- REPORT_WRITE_DONE (R175, R176; log 9). -/
def execReportWriteDone (s : State) : Outcome :=
  act s fun s => match s.memHead with
    | some ⟨.reportBody a d, _⟩ => s.popMem.emit [.hostWrite a d]
    | some ⟨.reportFilled a b, _⟩ => (s.popMem.emit [.hostWrite a [b]]).reportDelivered
    | _ => s

/-! ## The work engine's writes (R158, R162) -/

/-- The write of the work engine that an operation is, if it is one. -/
def MemOp.engineWrite : MemOp → Option (Nat × List Byte)
  | .takenWrite a b | .statusWrite a b | .doneWrite a b => some (a, [b])
  | .bufferWrite a d | .resultWrite a d => some (a, d)
  | .anchorRead _ | .configRead _ _ | .descRead _ | .bufferRead _ _ | .fill _ _ _ | .reportRead _ => none
  | .reportBody _ _ | .reportFilled _ _ => none

/-- COMPLETION_WRITE_DONE (R162, R171; log 9: the TAKEN write ends by this row too). -/
def execCompletionWriteDone (s : State) : Outcome :=
  act s fun s => match s.memHead with
    | some e => match e.op.engineWrite with
      | some (a, d) => s.popMem.emit [.hostWrite a d]
      | none => s
    | none => s

/-! ## Faults and drains (R171, R172, R183) -/

/-- Whether the operation in progress can fault in this way (R171; log 26). -/
def State.canFault (s : State) (cause : MemFaultCause) : Bool :=
  match s.memHead with
  | none => false
  | some e => match cause with
    | .errorStatus => e.op.isRead
    | .noData => e.op.isRead && Config.readLimit ≤ s.mm.age
    | .busMasterOff => true

/-- Whether a report read of the report engine's own remains in the list. -/
def State.reportReadPending (s : State) : Bool :=
  s.mm.ops.any fun e => !e.abandoned && (match e.op with
    | .reportRead _ => true
    | _ => false)

/-- A memory fault (R172): the list is emptied, reports in flight are restored (R178), a report read is discarded
(R177), and the work engine halts. -/
def State.fault (s : State) : State :=
  let t := { s with mm := ⟨[], 0⟩ }
  let t := if s.reportReadPending then t.writerIdle else t
  (t.restoreReports t.rep.inflight []).enterHalted .memoryFault

/-- MEMORY_FAULT (R172). -/
def execMemoryFault (cause : MemFaultCause) (s : State) : Outcome :=
  act s fun s => if s.canFault cause then s.fault else s

/-- DRAIN_END: a DRAINING engine whose five conditions hold enters STOPPED (R183). -/
def execDrainEnd (s : State) : Outcome :=
  act s fun s => if s.we.st = .draining ∧ s.drained then s.finishDrain else s

end Sys2Proof.Machine
end

