-- ==== Sys2Proof/Machine/Requests.lean ====
section
/-!
DEFINITION. The meanings of the twelve request rows: each is its request at step 3 of its take (R158, R163; log 7).
-/

namespace Sys2Proof.Machine

/-- PORT_ENABLE (R7, R164). -/
def execPortEnable (r : Request) (s : State) : Outcome :=
  act s fun s => s.takeRequest .portEnable r fun s => s.startEnable r

/-- PORT_DISABLE (R8, R164). -/
def execPortDisable (r : Request) (s : State) : Outcome :=
  act s fun s => s.takeRequest .portDisable r fun s => s.startDisable r

/-- PORT_RESTART (R26, R164). -/
def execPortRestart (r : Request) (s : State) : Outcome :=
  act s fun s => s.takeRequest .portRestart r fun s => s.startRestart r

/-- PORT_QUERY (R165). -/
def execPortQuery (r : Request) (s : State) : Outcome :=
  act s fun s => s.takeRequest .portQuery r fun s => s.startQuery r

/-- LANE_TEST (R115, R166). -/
def execLaneTest (r : Request) (s : State) : Outcome :=
  act s fun s => s.takeRequest .laneTest r fun s => s.startLaneTest r

/-- LANE_TEST_STOP (R125, R166). -/
def execLaneTestStop (r : Request) (s : State) : Outcome :=
  act s fun s => s.takeRequest .laneTestStop r fun s => s.startTestStop r

/-- PORT_AWAIT (R167). -/
def execPortAwait (r : Request) (s : State) : Outcome :=
  act s fun s => s.takeRequest .portAwait r fun s => s.startAwait r

/-- MODULE_READ (R168). -/
def execModuleRead (r : Request) (s : State) : Outcome :=
  act s fun s => s.takeRequest .moduleRead r fun s => s.startModuleRead r

/-- MODULE_WRITE (R168). -/
def execModuleWrite (r : Request) (s : State) : Outcome :=
  act s fun s => s.takeRequest .moduleWrite r fun s => s.startModuleWrite r

/-- PLAN_FLUSH (R67, R169). -/
def execPlanFlush (r : Request) (s : State) : Outcome :=
  act s fun s => s.takeRequest .planFlush r fun s => s.startFlush r

/-- CAPS_LIMIT (R16, R164). -/
def execCapsLimit (r : Request) (s : State) : Outcome :=
  act s fun s => s.takeRequest .capsLimit r fun s => s.startCapsLimit r

/-- SET_CONFIG (R170). -/
def execSetConfig (r : Request) (s : State) : Outcome :=
  act s fun s => s.takeRequest .setConfig r fun s => s.startSetConfig r

end Sys2Proof.Machine
end

