-- ==== Sys2Proof/Machine/Timebase.lean ====
section
/-!
DEFINITION. The meaning of TICK: the millisecond counter and every timer of the part (R119, R171, R185, R186).
-/

namespace Sys2Proof.Machine

/-- The tick at a port: its three timers, its send clock, and its RUNNING test (R27, R28, R38, R119). -/
def Port.tick (c : Port) : Port :=
  { c with
    phaseTimer := tickTimer c.phaseTimer
    dwellTimer := tickTimer c.dwellTimer
    testTimer := tickTimer c.testTimer
    sendClock := tickTimer c.sendClock
    test := c.test.map PortTest.tick }

/-- The tick at a job slot: the timeout timer of a PORT_AWAIT (R167). -/
def Job.tick (j : Job) : Job :=
  match j.kind with
  | .laneTest => j
  | .await t => { j with kind := .await (tickTimer t) }

/-- The tick at the memory master: the wait of the operation in progress, counted up to its limit (R171). -/
def MemMaster.tick (m : MemMaster) : MemMaster :=
  if m.ops = [] then m else { m with age := min (m.age + 1) Config.readLimit }

/-- One tick of the timebase, out of reset (R186). -/
def State.tick (s : State) : State :=
  { s with
    ms := s.ms + 1
    ports := s.ports.map Port.tick
    bus := { s.bus with watchdog := tickTimer s.bus.watchdog }
    we := { s.we with
      slots := s.we.slots.map fun j => j.map Job.tick
      scanTimer := tickTimer s.we.scanTimer }
    mm := s.mm.tick }

/-- TICK. In reset the counter stands at 0, and only the 1 ms of a DEVICE_RESET runs (R185; log 5). -/
def execTick (s : State) : Outcome :=
  match s.hold with
  | .released => act s State.tick
  | .pin => .next { s with out := [] }
  | .timed n => .next { s with hold := .timed (n - 1), out := [] }

end Sys2Proof.Machine
end

