-- ==== Sys2Proof/Machine/Dispatch.lean ====
section
/-!
DEFINITION. One arm per row of spec/opcode_table.json.
-/

namespace Sys2Proof.Machine

def exec (i : Instr) (s : State) : Host.Outcome State Fault Refusal :=
  match i with
  | .powerOn => Sys2Proof.Machine.execPowerOn s
  | .resetN => Sys2Proof.Machine.execResetN s
  | .resetEnd strapPins presence => Sys2Proof.Machine.execResetEnd strapPins presence s
  | .deviceReset => Sys2Proof.Machine.execDeviceReset s
  | .engineRestart => Sys2Proof.Machine.execEngineRestart s
  | .runSet => Sys2Proof.Machine.execRunSet s
  | .runClear => Sys2Proof.Machine.execRunClear s
  | .nudgeWork => Sys2Proof.Machine.execNudgeWork s
  | .nudgeReports => Sys2Proof.Machine.execNudgeReports s
  | .eventsClear value => Sys2Proof.Machine.execEventsClear value s
  | .eventMaskWrite value => Sys2Proof.Machine.execEventMaskWrite value s
  | .registerWrite offset value => Sys2Proof.Machine.execRegisterWrite offset value s
  | .presenceRaised p => Sys2Proof.Machine.execPresenceRaised p s
  | .presenceLost p => Sys2Proof.Machine.execPresenceLost p s
  | .alertAsserted p => Sys2Proof.Machine.execAlertAsserted p s
  | .lockGained p l => Sys2Proof.Machine.execLockGained p l s
  | .lockLost p l => Sys2Proof.Machine.execLockLost p l s
  | .delimiterFound p l sense => Sys2Proof.Machine.execDelimiterFound p l sense s
  | .beaconFrame p l bytes => Sys2Proof.Machine.execBeaconFrame p l bytes s
  | .trainingWord p l bytes => Sys2Proof.Machine.execTrainingWord p l bytes s
  | .lineErrorIncrement p l count => Sys2Proof.Machine.execLineErrorIncrement p l count s
  | .sendInstant p => Sys2Proof.Machine.execSendInstant p s
  | .burstSent p => Sys2Proof.Machine.execBurstSent p s
  | .resetPulseExpiry p => Sys2Proof.Machine.execResetPulseExpiry p s
  | .settleExpiry p => Sys2Proof.Machine.execSettleExpiry p s
  | .signalWindowExpiry p => Sys2Proof.Machine.execSignalWindowExpiry p s
  | .phaseWaitExpiry p => Sys2Proof.Machine.execPhaseWaitExpiry p s
  | .trainTimeout p => Sys2Proof.Machine.execTrainTimeout p s
  | .dwellExpiry p => Sys2Proof.Machine.execDwellExpiry p s
  | .testTimerExpiry p => Sys2Proof.Machine.execTestTimerExpiry p s
  | .testSaturated p => Sys2Proof.Machine.execTestSaturated p s
  | .awaitTimeout slot => Sys2Proof.Machine.execAwaitTimeout slot s
  | .scanTimerExpiry => Sys2Proof.Machine.execScanTimerExpiry s
  | .watchdogExpiry bytesDone => Sys2Proof.Machine.execWatchdogExpiry bytesDone s
  | .recoveryEnd dataHigh => Sys2Proof.Machine.execRecoveryEnd dataHigh s
  | .addressNack => Sys2Proof.Machine.execAddressNack s
  | .byteNack acked => Sys2Proof.Machine.execByteNack acked s
  | .tryComplete data => Sys2Proof.Machine.execTryComplete data s
  | .anchorReadDone block => Sys2Proof.Machine.execAnchorReadDone block s
  | .configReadDone block => Sys2Proof.Machine.execConfigReadDone block s
  | .descriptorReadDone desc => Sys2Proof.Machine.execDescriptorReadDone desc s
  | .bufferReadDone data => Sys2Proof.Machine.execBufferReadDone data s
  | .fillComplete entry => Sys2Proof.Machine.execFillComplete entry s
  | .reportReadDone owner => Sys2Proof.Machine.execReportReadDone owner s
  | .reportWriteDone => Sys2Proof.Machine.execReportWriteDone s
  | .completionWriteDone => Sys2Proof.Machine.execCompletionWriteDone s
  | .memoryFault cause => Sys2Proof.Machine.execMemoryFault cause s
  | .drainEnd => Sys2Proof.Machine.execDrainEnd s
  | .portEnable r => Sys2Proof.Machine.execPortEnable r s
  | .portDisable r => Sys2Proof.Machine.execPortDisable r s
  | .portRestart r => Sys2Proof.Machine.execPortRestart r s
  | .portQuery r => Sys2Proof.Machine.execPortQuery r s
  | .laneTest r => Sys2Proof.Machine.execLaneTest r s
  | .laneTestStop r => Sys2Proof.Machine.execLaneTestStop r s
  | .portAwait r => Sys2Proof.Machine.execPortAwait r s
  | .moduleRead r => Sys2Proof.Machine.execModuleRead r s
  | .moduleWrite r => Sys2Proof.Machine.execModuleWrite r s
  | .planFlush r => Sys2Proof.Machine.execPlanFlush r s
  | .capsLimit r => Sys2Proof.Machine.execCapsLimit r s
  | .setConfig r => Sys2Proof.Machine.execSetConfig r s
  | .tick => Sys2Proof.Machine.execTick s

end Sys2Proof.Machine
end

