-- ==== Sys2Proof/Safety.lean ====
section
/-!
DEFINITION. The terms in which statements are made about the part: its reset values, the invariants the rules promise,
what a command leaves alone, and the writes of a completion.
-/

namespace Sys2Proof.Machine

/-! ## Reset values (R1, R31, R58, R112, R132, R142, R151 to R153, R171, R173, R180, R185, R186) -/

/-- A lane record at its device-reset values (R31). -/
def LaneAtReset (l : Lane) : Prop :=
  l.st = .quiet ∧ l.grade = none ∧ l.rx = .hunt ∧ l.polarity = .normal ∧ l.cand = none ∧ l.rep = 0 ∧ l.far = none ∧
  l.neg = none ∧ l.beaconErrs = 0 ∧ l.lineErrs = 0 ∧ l.test = none

/-- A port context at its device-reset values, Present aside (R1, R5, R38, R90, R112). -/
def PortAtReset (c : Port) : Prop :=
  c.st = .off ∧ c.sub = none ∧ c.holdOnDrop = false ∧ c.gradeCeil = 0 ∧ c.widthCeil = 0 ∧ c.ident = none ∧
  c.plan = .notLookedUp ∧ c.capGrades = 0 ∧ c.capWidths = 0 ∧ c.role = .noRole ∧ c.verdict = .noVerdict ∧
  c.far = none ∧ (∀ i : LaneNo, c.laneMap[i] = none) ∧ c.usable = 0 ∧ c.attempt = 0 ∧ c.left = 0 ∧
  c.qualReached = false ∧ c.agreed = none ∧ c.laneSet = 0 ∧ c.good = 0 ∧ c.drops = 0 ∧ c.holdReason = .noReason ∧
  c.nextGrade = none ∧ c.phase = .hello ∧ c.phaseReason = .noReason ∧ c.burst = none ∧ c.phaseTimer = none ∧
  c.dwellTimer = none ∧ c.testTimer = none ∧ c.sendClock = none ∧ c.lowPower = true ∧ c.modReset = false ∧
  (∀ i : LaneNo, LaneAtReset (c.lane i)) ∧ c.test = none

/-- The configuration copy at the values that a field of 0 gives (R151). -/
def ConfigAtReset (c : ConfigCopy) : Prop :=
  c.settle = 200 ∧ c.signalWindow = 3000 ∧ c.phaseWait = 1000 ∧ c.trainTimeout = 500 ∧ c.beaconInterval = 10 ∧
  c.attemptBudget = 4 ∧ c.dropLimit = 0 ∧ c.watchdog = 25 ∧ c.nackRetries = 0 ∧ c.turnRatio = 0 ∧ c.scanValue = 0 ∧
  c.defaultTarget = 12 ∧ c.defaultDwell = 1000 ∧ c.admitUnplanned = false ∧ c.chassisOverride = false ∧
  c.scanEnable = false ∧ c.overrideId = 0

/-- The work engine at its device-reset values, the chassis ID in force taken from the strap latch (R152, R153). -/
def EngineAtReset (straps : BitVec 12) (w : WorkEngine) : Prop :=
  w.st = .stopped ∧ w.run = false ∧ w.haltCause = .noCause ∧ w.anchor = ⟨0, 0, 0, 0, 0, 0⟩ ∧ ConfigAtReset w.cfg ∧
  w.chassis = straps.zeroExtend 16 ∧ w.cursor = 0 ∧ w.scan = .noScan ∧ w.scanPending = false ∧ w.stall = .noStall ∧
  (∀ k : Fin 16, w.slots[k] = none) ∧ w.scanTimer = none

/-- The report engine at its device-reset values (R173). -/
def ReportsAtReset (r : ReportEngine) : Prop :=
  (∀ p : PortNo, r.recs[p] = ⟨0, 0⟩) ∧ r.queue = [] ∧ r.cursor = 0 ∧ r.phase = .idle ∧ r.reread = false ∧
  r.stallFlag = false ∧ r.inflight = []

/-- Every block at its device-reset values (R185). -/
def AtReset (s : State) : Prop :=
  s.ms = 0 ∧ (∀ p, PortAtReset (s.port p)) ∧
  (s.cache.entries = [] ∧ s.cache.gen = 0 ∧ s.cache.epoch = 0 ∧ ∀ p : PortNo, s.cache.fillPending[p] = false) ∧
  (s.bus.st = .idle ∧ s.bus.current = none ∧ s.bus.selected = none ∧ s.bus.watchdog = none ∧
    ∀ p : PortNo, s.bus.stuck[p] = false) ∧
  ((∀ p : PortNo, s.arb.requests[p] = false) ∧ s.arb.queue = [] ∧ s.arb.rotation = 31 ∧ s.arb.since = 0) ∧
  EngineAtReset s.straps s.we ∧ s.mm.ops = [] ∧ ReportsAtReset s.rep ∧
  (s.regs.anchorReg = 0 ∧ s.regs.events = 0 ∧ s.regs.mask = 0)

/-! ## What a command leaves alone -/

/-- The reset hold, the strap latch, the millisecond counter and the queue of commands stand. -/
def SameBase (s t : State) : Prop :=
  t.hold = s.hold ∧ t.straps = s.straps ∧ t.ms = s.ms ∧ t.pending = s.pending

/-- Every port but one stands. -/
def SameOtherPorts (p : PortNo) (s t : State) : Prop := ∀ q, q ≠ p → t.port q = s.port q

/-- The module bus controller and the arbiter stand. -/
def SameBus (s t : State) : Prop := t.bus = s.bus ∧ t.arb = s.arb

/-- ANCHOR and EVENT_MASK stand, and no event but WORK can be set. -/
def SameWindow (s t : State) : Prop :=
  t.regs.anchorReg = s.regs.anchorReg ∧ t.regs.mask = s.regs.mask ∧
  (t.regs.events = s.regs.events ∨ t.regs.events = s.regs.events ||| evWork)

/-- The work engine stands, but for scans that the end of a job triggers and for slots that jobs leave. -/
def SameEngine (s t : State) : Prop :=
  t.we.st = s.we.st ∧ t.we.run = s.we.run ∧ t.we.haltCause = s.we.haltCause ∧ t.we.latched = s.we.latched ∧
  t.we.anchor = s.we.anchor ∧ t.we.cfg = s.we.cfg ∧ t.we.chassis = s.we.chassis ∧ t.we.cursor = s.we.cursor ∧
  t.we.scanTimer = s.we.scanTimer ∧ ∀ k : Fin 16, t.we.slots[k] = s.we.slots[k] ∨ t.we.slots[k] = none

/-- The memory master's list only grows at its tail, and the operation in progress goes on. -/
def ListGrows (s t : State) : Prop := s.mm.ops <+: t.mm.ops ∧ t.mm.age = s.mm.age

/-- What an event of a port leaves alone outside the ports and the report engine. -/
def SharedFrame (s t : State) : Prop :=
  SameBase s t ∧ t.cache = s.cache ∧ SameBus s t ∧ SameWindow s t ∧ SameEngine s t ∧ ListGrows s t

/-- What an event of one port leaves alone outside the report engine. -/
def PortEventFrame (p : PortNo) (s t : State) : Prop := SameOtherPorts p s t ∧ SharedFrame s t

/-- Nothing changes but one port controller and what stands on the lines. -/
def OnlyPort (p : PortNo) (s t : State) : Prop := t = { s.setPort p (t.port p) with out := t.out }

/-- Nothing changes but what stands on the lines, which are quiet. -/
def Unchanged (s t : State) : Prop := t = { s with out := [] }

/-- The interrupt condition of R179. -/
def InterruptCondition (s : State) : Prop := s.regs.events &&& s.regs.mask ≠ 0

/-- The lines carry nothing but the message of a change of the interrupt condition, if it changed (R179). -/
def OnlyInterrupt (s t : State) : Prop :=
  (InterruptCondition t ↔ InterruptCondition s) ∧ t.out = [] ∨
  InterruptCondition t ∧ ¬ InterruptCondition s ∧ t.out = [.interrupt true] ∨
  ¬ InterruptCondition t ∧ InterruptCondition s ∧ t.out = [.interrupt false]

/-! ## Changes handed over (R174, R175) -/

/-- The report engine after a port hands over a change: its record, the queue, and the trigger of R175. -/
def ReportEngine.withChange (r : ReportEngine) (working : Bool) (p : PortNo) (kinds : BitVec 5) : ReportEngine :=
  let queue := if r.recs[p].count = 0 then r.queue ++ [p] else r.queue
  { r with
    recs := r.recs.set p (⟨r.recs[p].kinds ||| kinds, min (r.recs[p].count + 1) 255⟩ : ReportRec)
    queue := queue
    phase := if working ∧ queue ≠ [] then .reading else r.phase
    reread := r.reread || r.phase = .reading }

/-- A port has handed over one change with these kinds. -/
def Reported (p : PortNo) (kinds : BitVec 5) (s t : State) : Prop :=
  t.rep = s.rep.withChange s.we.st.working p kinds

/-- Lost reports are back at their ports (R178): a port's record has the kinds and the counts of all its lost reports
added, and the ports whose records were empty stand at the head of the queue in the order their reports were written. -/
def ReportsRestored (lost : List InFlight) (r r' : ReportEngine) : Prop :=
  (∀ p : PortNo, let mine := lost.filter fun f => f.port = p
    (mine = [] → r'.recs[p] = r.recs[p]) ∧
    (mine ≠ [] → r'.recs[p] = ⟨mine.foldl (fun k f => k ||| f.kinds) r.recs[p].kinds,
      min (r.recs[p].count + (mine.map InFlight.count).sum) 255⟩)) ∧
  r'.queue = ((lost.map InFlight.port).filter fun p => r.recs[p].count = 0).eraseDups ++ r.queue

/-! ## Entries into port states (R2, R5, R8, R10, R11, R17, R20, R21, R24, R32, R102) -/

/-- Presence, the host's settings and the send clock stand. -/
def KeepsSettings (c d : Port) : Prop :=
  d.present = c.present ∧ d.holdOnDrop = c.holdOnDrop ∧ d.gradeCeil = c.gradeCeil ∧ d.widthCeil = c.widthCeil ∧
  d.sendClock = c.sendClock

/-- No burst runs, nor the dwell and test timers; low-power and module reset are deasserted. -/
def AtWork (d : Port) : Prop :=
  d.sub = none ∧ d.burst = none ∧ d.dwellTimer = none ∧ d.testTimer = none ∧ d.lowPower = false ∧ d.modReset = false

/-- The lanes of a set in one state, the others QUIET. -/
def LanesIn (d : Port) (m : LaneNo → Bool) (st : LaneState) : Prop :=
  ∀ i, (d.lane i).st = if m i then st else .quiet

/-- The bring-up fields of R2 and R90 at their cleared values. -/
def BringUpCleared (d : Port) : Prop :=
  d.role = .noRole ∧ d.verdict = .noVerdict ∧ d.far = none ∧ (∀ i : LaneNo, d.laneMap[i] = none) ∧ d.usable = 0 ∧
  d.agreed = none ∧ d.laneSet = 0 ∧ d.good = 0 ∧ d.qualReached = false ∧ d.holdReason = .noReason ∧
  d.nextGrade = none ∧ d.test = none

/-- The lane records as R32 clears them. -/
def LanesCleared (d : Port) : Prop :=
  ∀ i, (d.lane i).cand = none ∧ (d.lane i).rep = 0 ∧ (d.lane i).far = none ∧ (d.lane i).neg = none ∧
    (d.lane i).test = none

/-- What leaves with the module on entry into OFF, EMPTY and IDENTIFY (R2). -/
def ModuleCleared (d : Port) : Prop :=
  BringUpCleared d ∧ LanesCleared d ∧ (∀ i, (d.lane i).st = .quiet) ∧ d.ident = none ∧ d.plan = .notLookedUp ∧
  d.capGrades = 0 ∧ d.capWidths = 0 ∧ d.attempt = 0 ∧ d.left = 0 ∧ d.burst = none ∧ d.dwellTimer = none ∧
  d.testTimer = none

/-- OFF has been entered (R8). -/
def IsOff (c d : Port) : Prop :=
  d.st = .off ∧ d.sub = none ∧ ModuleCleared d ∧ d.drops = 0 ∧ d.phaseTimer = none ∧ d.lowPower = true ∧
  d.modReset = false ∧ d.sendClock = none ∧
  d.present = c.present ∧ d.holdOnDrop = c.holdOnDrop ∧ d.gradeCeil = c.gradeCeil ∧ d.widthCeil = c.widthCeil

/-- EMPTY has been entered (R10). -/
def IsEmpty (c d : Port) : Prop :=
  d.st = .empty ∧ d.sub = none ∧ ModuleCleared d ∧ d.drops = 0 ∧ d.phaseTimer = none ∧ d.lowPower = true ∧
  d.modReset = false ∧ KeepsSettings c d

/-- IDENTIFY has been entered at RESETTING (R11); PORT_RESTART clears the drop count. -/
def IsIdentify (restart : Bool) (c d : Port) : Prop :=
  d.st = .identify ∧ d.sub = some .resetting ∧ ModuleCleared d ∧ d.drops = (if restart then 0 else c.drops) ∧
  d.phaseTimer = some 10 ∧ d.lowPower = false ∧ d.modReset = true ∧ KeepsSettings c d ∧
  ∀ i, (d.lane i).beaconErrs = 0 ∧ (d.lane i).lineErrs = 0

/-- The module identity, the plan and the own caps stand. -/
def KeepsModule (c d : Port) : Prop :=
  d.ident = c.ident ∧ d.plan = c.plan ∧ d.capGrades = c.capGrades ∧ d.capWidths = c.capWidths

/-- SIGNAL has been entered in full (R17). -/
def IsSignal (cfg : ConfigCopy) (c d : Port) : Prop :=
  d.st = .signal ∧ AtWork d ∧ BringUpCleared d ∧ LanesCleared d ∧ d.attempt = 0 ∧ d.left = cfg.attemptBudget ∧
  d.phaseTimer = some cfg.signalWindow ∧ d.phase = .hello ∧ LanesIn d d.isPresent .beacon ∧ KeepsSettings c d ∧
  KeepsModule c d

/-- HELD has been entered for a reason (R24). -/
def IsHeld (why : HoldReason) (c d : Port) : Prop :=
  d.st = .held ∧ AtWork d ∧ d.holdReason = why ∧ d.phase = .heldBeacon ∧ d.phaseReason = why ∧ d.phaseTimer = none ∧
  LanesIn d d.isPresent .beacon ∧ KeepsSettings c d ∧ d.ident = c.ident ∧ d.plan = c.plan ∧ d.attempt = c.attempt ∧
  d.drops = c.drops

/-- TRAIN has been entered on the lane set (R102). -/
def IsTrain (cfg : ConfigCopy) (c d : Port) : Prop :=
  d.st = .train ∧ AtWork d ∧ d.phase = .training ∧ d.phaseTimer = some cfg.trainTimeout ∧ d.agreed = c.agreed ∧
  d.laneSet = c.laneSet ∧ d.attempt = c.attempt ∧ LanesIn d (hasLane c.laneSet) .training ∧ KeepsSettings c d ∧
  KeepsModule c d

/-- ACTIVE has been entered, and no set lane was without lock (R21). -/
def IsActive (cfg : ConfigCopy) (c d : Port) : Prop :=
  d.st = .active ∧ AtWork d ∧ d.phaseTimer = none ∧ d.left = cfg.attemptBudget ∧ d.holdReason = .noReason ∧
  d.agreed = c.agreed ∧ d.laneSet = c.laneSet ∧ LanesIn d (hasLane c.laneSet) .data ∧ KeepsSettings c d ∧
  KeepsModule c d

/-- Every set lane is LOCKED. -/
abbrev SetLocked (c : Port) : Prop := ∀ i, hasLane c.laneSet i = true → (c.lane i).st = .locked

/-! ## Completions (R162) -/

/-- The writes of a completion in order: buffer, status, result word, ownership DONE with the I flag. -/
def completionOps (s : State) (index : Nat) (iFlag : Bool) (bufs : List MemOp) (st : Status) (result : Nat) :
    List MemEntry :=
  (bufs ++ [MemOp.statusWrite (s.we.anchor.workBase + 32 * index + 3) st.code,
    MemOp.resultWrite (s.we.anchor.workBase + 32 * index + 28) (toLE 4 result),
    MemOp.doneWrite (s.we.anchor.workBase + 32 * index) (if iFlag then 7 else 3)]).map fun op => ⟨op, false⟩

/-- WORK is set when the I flag is, and no other event. -/
def WorkRaised (s t : State) (iFlag : Bool) : Prop :=
  t.regs.events = if iFlag then s.regs.events ||| evWork else s.regs.events

/-- A request has completed with this status and result: its writes join the list, and nothing else does. -/
def Completed (s t : State) (r : Request) (bufs : List MemOp) (st : Status) (result : Nat) : Prop :=
  t.mm.ops = s.mm.ops ++ completionOps s r.index r.iFlag bufs st result ∧ WorkRaised s t r.iFlag

/-- A request has completed after what it did to a port: its writes end the list, after all that stood there. -/
def CompletedLast (s t : State) (r : Request) (st : Status) (result : Nat) : Prop :=
  ∃ more, t.mm.ops = s.mm.ops ++ more ++ completionOps s r.index r.iFlag [] st result ∧
    (r.iFlag = true → t.regs.events &&& evWork = evWork)

/-- The 128 bytes of a snapshot hold the fields of Formats at their places, absent values as R188 writes them. -/
def SnapshotLaidOut (b : List Byte) (c : Port) (stuck : Bool) (epoch : BitVec 16) : Prop :=
  let far := fun (f : Option CableEnd) (k : Nat) => leField b k 2 = (f.map fun f => f.chassis.toNat).getD 0 ∧
    (byteAt b (k + 2)).toNat = (f.map fun f => f.port.toNat).getD 255
  b.length = 128 ∧ byteAt b 0 = c.st.code ∧ byteAt b 1 = SubStep.code c.sub ∧ byteAt b 2 = c.holdReason.code ∧
  byteAt b 3 = c.verdict.code ∧ byteAt b 4 = c.role.code ∧ byteAt b 5 = c.attempt ∧
  (byteAt b 6).toNat = c.left % 256 ∧ (byteAt b 7).toNat = c.drops % 256 ∧
  (byteAt b 8).toNat = (c.agreed.map Grade.num).getD 0 ∧ (byteAt b 9).extractLsb' 0 4 = c.laneSet ∧
  (byteAt b 9).extractLsb' 4 4 = c.good ∧ (byteAt b 10).getLsbD 0 = c.present ∧
  (byteAt b 10).getLsbD 1 = c.ident.isSome ∧ (byteAt b 10).extractLsb' 2 2 = c.plan.code.extractLsb' 0 2 ∧
  (byteAt b 10).getLsbD 4 = c.holdOnDrop ∧ (byteAt b 10).extractLsb' 5 3 = 0 ∧
  (c.ident = none → ∀ k, 11 ≤ k → k ≤ 31 → byteAt b k = 0) ∧
  (∀ m, c.ident = some m → byteAt b 11 = m.kind.code ∧ (byteAt b 12).toNat = m.lanes % 256 ∧
    (byteAt b 13).toNat = m.maxGrade % 256 ∧ leField b 14 2 = m.length.toNat ∧
    (∀ k : Fin 4, byteAt b (16 + k.val) = m.maker[k]) ∧ ∀ k : Fin 12, byteAt b (20 + k.val) = m.serial[k]) ∧
  (byteAt b 32).toNat = c.gradeCeil % 256 ∧ (byteAt b 33).toNat = c.widthCeil % 256 ∧ leField b 34 2 = epoch.toNat ∧
  far c.far 36 ∧ byteAt b 39 = c.usable.zeroExtend 8 ∧ (∀ k, 40 ≤ k → k ≤ 63 → byteAt b k = 0) ∧
  ∀ i : LaneNo, let l := c.lane i
    let k := 64 + 16 * i.val
    byteAt b k = l.st.code ∧ (byteAt b (k + 1)).getLsbD 0 = decide (l.polarity = .inverted) ∧
    (byteAt b (k + 1)).getLsbD 1 = l.far.isSome ∧ (byteAt b (k + 1)).getLsbD 2 = stuck ∧
    (byteAt b (k + 1)).extractLsb' 3 5 = 0 ∧ far (l.far.map fun f => ⟨f.chassis, f.port⟩) (k + 2) ∧
    (byteAt b (k + 5)).toNat = (l.far.map fun f => f.lane.toNat).getD 255 ∧
    leField b (k + 6) 2 = (l.far.map fun f => f.epoch.toNat).getD 0 ∧ leField b (k + 8) 2 = l.beaconErrs % 2 ^ 16 ∧
    leField b (k + 10) 4 = l.lineErrs % 2 ^ 32 ∧ leField b (k + 14) 2 = 0

/-- A job has completed: its writes were handed over directly after `before`; what its end triggers may follow. -/
def JobCompleted (s t : State) (before : List MemEntry) (tag : JobTag) (bufs : List MemOp) (st : Status)
    (result : Nat) : Prop :=
  ∃ more, t.mm.ops = before ++ completionOps s tag.index tag.iFlag bufs st result ++ more ∧
    (tag.iFlag = true → t.regs.events &&& evWork = evWork)

/-- What a request that acts on no more than a port's own fields leaves alone: everything but the ports, the memory
master's list, EVENTS and the lines. -/
def RequestFrame (s t : State) : Prop :=
  SameBase s t ∧ t.cache = s.cache ∧ SameBus s t ∧ t.we = s.we ∧ t.rep = s.rep ∧ t.mm.age = s.mm.age ∧
  t.regs.anchorReg = s.regs.anchorReg ∧ t.regs.mask = s.regs.mask

/-- A request row acts: the engine is RUNNING and nothing the request needs is missing (R157; log 7). -/
abbrev CanTake (s : State) (k : Kind) (r : Request) : Prop := s.we.st = .running ∧ s.takeStall (some k) r = .noStall

/-- The port a request names (R163). -/
abbrev Names (r : Request) (p : PortNo) : Prop := r.port.toNat = p.val

/-- No requester waits for the module bus. -/
abbrev NothingWaits (s : State) : Prop := s.arb.queue = [] ∧ ∀ p : PortNo, s.arb.requests[p] = false

/-- A scan is triggered (R155): started at the descriptor at the cursor, or set pending. -/
def ScanTriggered (s t : State) : Prop :=
  (s.we.scan = .noScan → t.we.scan = .reading ∧ t.we.stall = .noStall ∧
    t.mm.ops.getLast? = some ⟨.descRead (s.we.anchor.workBase + 32 * s.we.cursor), false⟩) ∧
  (s.we.scan ≠ .noScan → t.we.scan = s.we.scan ∧ t.we.scanPending = true)

/-- The five conditions of R153 for a drain to end: no job slot in use, the pass-through queue empty, no pass-through
transaction at the bus, no start read and no completion write left with the memory master. -/
def DrainConditions (s : State) : Prop :=
  (∀ k : Fin 16, s.we.slots[k] = none) ∧ s.arb.queue = [] ∧
  (∀ t, s.bus.current = some t → t.requester = .port) ∧
  (∀ e ∈ s.mm.ops, e.op.isStartRead = true → e.abandoned = true) ∧
  (∀ e ∈ s.mm.ops, e.op.isCompletion = false)

/-- Every port that waited on a plan fill is held with PLAN_UNAVAILABLE, no other port changes but by `f`, and no port
waits any longer (R65). -/
def FillsFailed (s t : State) (f : PortNo → Port → Port) : Prop :=
  (∀ p : PortNo, t.cache.fillPending[p] = false) ∧
  ∀ p : PortNo, if s.cache.fillPending[p] then IsHeld .planUnavailable (s.port p) (t.port p)
    else t.port p = f p (s.port p)

/-- The reads whose outcome an ENGINE_RESTART discards (R178, R184): every read but a plan fill. -/
def MemOp.discardsOutcome : MemOp → Bool
  | .anchorRead _ | .configRead _ _ | .descRead _ | .bufferRead _ _ | .reportRead _ => true
  | .fill _ _ _ | .takenWrite _ _ | .bufferWrite _ _ | .statusWrite _ _ | .resultWrite _ _ | .doneWrite _ _ => false
  | .reportBody _ _ | .reportFilled _ _ => false

/-! ## A port leaving the module bus and the plan cache (R132, R141, R144, R147) -/

/-- The marks of a transaction of a port that has lost presence. -/
def Txn.afterLoss (x : Txn) : Txn :=
  { x with cut := x.cut || (x.requester = .port), portEvent := true, presenceLost := true }

/-- The marks of a transaction of a port that PORT_DISABLE or PORT_RESTART has reached. -/
def Txn.afterPortRequest (x : Txn) : Txn := { x with cut := x.cut || (x.requester = .port), portEvent := true }

/-- The branch-stuck flag of a port is cleared and its transaction marked; nothing else changes at the bus. -/
def BusMarked (p : PortNo) (f : Txn → Txn) (s t : State) : Prop :=
  t.bus = { s.bus with
    stuck := s.bus.stuck.set p false, current := s.bus.current.map fun x => if x.port = p then f x else x }

/-- A port's waiting request and its fill-pending flag are gone; nothing else changes at the arbiter and the cache. -/
def RequestsDropped (p : PortNo) (s t : State) : Prop :=
  t.arb = { s.arb with requests := s.arb.requests.set p false } ∧
  t.cache = { s.cache with fillPending := s.cache.fillPending.set p false }

/-! ## Agreement, qualification and verification (R72, R83 to R89, R97 to R99, R104, R105, R114) -/

/-- A lead has entered AGREE and proposes (R97). -/
def IsProposing (cfg : ConfigCopy) (c d : Port) : Prop :=
  d.st = .agree ∧ AtWork d ∧ d.phase = .propose ∧ d.phaseTimer = some cfg.phaseWait ∧
  d.attempt = nextAttempt c.attempt ∧ d.left = c.left - 1 ∧
  d.agreed = gradeRule c.computeCaps.commonGrades c.nextGrade ∧
  laneSetRule c.computeCaps.commonWidths c.usable = some d.laneSet ∧ LanesIn d d.isPresent .beacon ∧
  KeepsSettings c d ∧ KeepsModule c.computeCaps d ∧ d.usable = c.usable ∧ d.far = c.far

/-- A lead or SELF port that enters AGREE is held when its attempts are spent, or when the two ends have no grade, no
width or no lane set in common (steps 1 to 6 of R97). -/
def AgreementHeld (c d : Port) : Prop :=
  let caps := c.computeCaps
  let c' := { c with attempt := nextAttempt c.attempt }
  (c.left = 0 → IsHeld (if c.qualReached then .qualifyFailed else .noAgreement) c d) ∧
  (c.left ≠ 0 → (caps.commonGrades = 0 ∨ caps.commonWidths = 0) → IsHeld .noAgreement c' d) ∧
  (c.left ≠ 0 → caps.commonGrades ≠ 0 → caps.commonWidths ≠ 0 → laneSetRule caps.commonWidths c.usable = none →
    IsHeld .noUsableLanes c' d)

/-- A lead has entered AGREE: it is held, or it proposes (R97). -/
def LeadAgrees (cfg : ConfigCopy) (c d : Port) : Prop :=
  let caps := c.computeCaps
  AgreementHeld c d ∧
  (c.left ≠ 0 → caps.commonGrades ≠ 0 → caps.commonWidths ≠ 0 → laneSetRule caps.commonWidths c.usable ≠ none →
    IsProposing cfg c d)

/-- A SELF port has entered AGREE: it is held, or it has gone on to TRAIN at the grade and on the lane set it has chosen
(R110). -/
def SelfAgrees (cfg : ConfigCopy) (c d : Port) : Prop :=
  let caps := c.computeCaps
  AgreementHeld c d ∧
  ∀ S, c.left ≠ 0 → caps.commonGrades ≠ 0 → caps.commonWidths ≠ 0 → laneSetRule caps.commonWidths c.usable = some S →
    IsTrain cfg { caps with
      attempt := nextAttempt c.attempt, agreed := gradeRule caps.commonGrades c.nextGrade, laneSet := S } d ∧
    d.left = c.left - 1

/-- An entry into AGREE hands over MILESTONE when the port is held, and else nothing. -/
def AgreementReported (p : PortNo) (s t : State) : Prop :=
  ((t.port p).st = .held → Reported p 2 s t) ∧ ((t.port p).st ≠ .held → t.rep = s.rep) ∧ PortEventFrame p s t

/-- What a lead that enters AGREE does (R97). -/
def LeadEntersAgree (p : PortNo) (c : Port) (s t : State) : Prop :=
  LeadAgrees s.we.cfg c (t.port p) ∧ AgreementReported p s t

/-- What a SELF port that enters AGREE does (R110). -/
def SelfEntersAgree (p : PortNo) (c : Port) (s t : State) : Prop :=
  SelfAgrees s.we.cfg c (t.port p) ∧ AgreementReported p s t

/-- A follower has entered AGREE, its outgoing phase and what goes with it aside (R99). -/
def FollowsInAgree (cfg : ConfigCopy) (c d : Port) : Prop :=
  d.st = .agree ∧ AtWork { d with burst := none } ∧ d.phaseTimer = some cfg.phaseWait ∧ LanesIn d d.isPresent .beacon ∧
  KeepsSettings c d ∧ KeepsModule c.computeCaps d ∧ d.usable = c.usable ∧ d.far = c.far ∧ d.laneMap = c.laneMap ∧
  d.left = c.left

/-- A follower has entered AGREE and waits for a proposal (R99). -/
def IsListening (cfg : ConfigCopy) (c d : Port) : Prop :=
  FollowsInAgree cfg c d ∧ d.phase = .hello ∧ d.burst = none ∧ d.attempt = c.attempt ∧ d.agreed = none ∧ d.laneSet = 0

/-- A present lane holds a PROPOSE of the far end, of a greater attempt: one that R92 lets a follower take. -/
abbrev HoldsProposal (c : Port) (i : LaneNo) (a : Byte) (b : BeaconPart) : Prop :=
  c.isPresent i = true ∧ c.attempt < a ∧ c.far = some ⟨b.sender.chassis, b.sender.port⟩ ∧
  ∃ r, (c.lane i).neg = some r ∧ r.phase = .propose ∧ r.attempt = a ∧ r.beacon = some b

/-- A follower has entered AGREE and has examined a proposal of attempt a: it answers ACCEPT, or REJECT (R99, R100). -/
def IsAnswering (cfg : ConfigCopy) (c d : Port) (a : Byte) (b : BeaconPart) : Prop :=
  FollowsInAgree cfg c d ∧ d.attempt = a ∧ ∃ M : LaneSet,
    (∀ j, hasLane M j = true ↔ ∃ f, c.laneMap[j] = some f ∧ b.propSet.getLsbD f.toNat = true) ∧
    let fits := fun g : Grade => b.propGrade.toNat = g.num ∧ hasGrade d.capGrades g = true ∧
      laneCount M = laneCount b.propSet ∧ M &&& ~~~c.usable = 0 ∧ hasWidth d.capWidths (laneCount b.propSet) = true
    (∀ g, fits g → d.phase = .accept ∧ d.phaseReason = .noReason ∧ d.burst = none ∧ d.agreed = some g ∧ d.laneSet = M) ∧
    ((∀ g, ¬ fits g) → d.phase = .reject ∧ d.phaseReason = .agreeConflict ∧ d.burst = some 4 ∧ d.agreed = none ∧
      d.laneSet = 0)

/-- What a follower that enters AGREE does: it examines the first proposal that its present lanes hold, in increasing
order, and waits for one when they hold none (R99). -/
def FollowerAgrees (cfg : ConfigCopy) (c d : Port) : Prop :=
  ((∀ i a b, ¬ HoldsProposal c i a b) → IsListening cfg c d) ∧
  ∀ i a b, HoldsProposal c i a b → (∀ j a' b', j < i → ¬ HoldsProposal c j a' b') → IsAnswering cfg c d a b

/-- What a port that enters AGREE does, by its role (R97, R99, R110). -/
def Agrees (cfg : ConfigCopy) (c d : Port) : Prop :=
  (c.role = .lead → LeadAgrees cfg c d) ∧ (c.role = .self → SelfAgrees cfg c d) ∧
  (c.role = .follow → FollowerAgrees cfg c d)

/-- A bring-up test has been started on the lanes a test holds for, with its dwell timer (R104, R114). -/
def IsQualify (g : Grade) (c d : Port) (m : LaneNo → Bool) : Prop :=
  d.st = .qualify ∧ AtWork { d with dwellTimer := none } ∧ d.qualReached = true ∧ d.phase = .training ∧
  d.phaseTimer = none ∧
  (∃ T : PortTest, d.test = some T ∧ T.kind = .bringUp ∧ T.grade = g ∧ T.elapsed = 0 ∧ T.ended = false ∧
    T.dropOnFail = false ∧ d.dwellTimer = T.dwell ∧ ∀ j, hasLane T.lanes j = m j) ∧
  (∀ j, (d.lane j).test = if m j then some ⟨0, none⟩ else none) ∧ KeepsSettings c d ∧ KeepsModule c d ∧
  d.laneSet = c.laneSet ∧ d.attempt = c.attempt ∧ d.agreed = c.agreed

/-- Every running lane of the port's test T has a verdict, the others keep their records, and T has ended with its
timers. -/
def TestClosed (c d : Port) (T : PortTest) (v : LaneNo → Nat → LaneVerdict) : Prop :=
  d.test = some { T with ended := true } ∧ d.testTimer = none ∧ d.dwellTimer = none ∧
  (∀ i e, hasLane T.lanes i = true → (c.lane i).test = some ⟨e, none⟩ →
    let n := T.grade.bitsPerMs * T.elapsed
    d.lane i = { c.lane i with test := some ⟨e, some ⟨v i e, n, demonstrated e n, false⟩⟩ }) ∧
  ∀ i, ¬ (hasLane T.lanes i = true ∧ ∃ e, (c.lane i).test = some ⟨e, none⟩) → d.lane i = c.lane i

/-- The verdict a stop gives a running lane with this E (R125). -/
def stopGives (T : PortTest) (_ : LaneNo) (e : Nat) : LaneVerdict :=
  if T.target ≤ demonstrated e (T.grade.bitsPerMs * T.elapsed) then .pass
  else if T.dwell = none then .below
  else .stopped

/-- The port's LANE_TEST is running, and this slot holds its job: the lowest that holds a LANE_TEST of the port. -/
abbrev TestRuns (s : State) (p : PortNo) (T : PortTest) (k : Fin 16) (tag : JobTag) : Prop :=
  (s.port p).test = some T ∧ T.kind = .laneTest ∧ T.ended = false ∧ s.we.slots[k] = some ⟨tag, p, .laneTest⟩ ∧
  ∀ k' : Fin 16, k' < k → ∀ j, s.we.slots[k'] = some j → ¬ (j.port = p ∧ j.kind = .laneTest)

/-- An event of port p, whose context was c, has ended its running LANE_TEST: each running lane has received its verdict,
the job has completed with this status, the results in its buffer and their number, directly after `before`, and its slot
is free. A port that is then HELD keeps the test and the lane records (R32, R127, R128, R130). -/
def LaneTestEnded (p : PortNo) (c : Port) (v : PortTest → LaneNo → Nat → LaneVerdict) (st : Status)
    (before : List MemEntry) (s t : State) : Prop :=
  ∀ T k tag, TestRuns s p T k tag → ∃ c', TestClosed c c' T (v T) ∧ t.we.slots[k] = none ∧
    JobCompleted s t before tag (bufferOp tag.bufAddr c'.results) st (laneCount T.lanes) ∧
    ((t.port p).st = .held → (t.port p).test = c'.test ∧ ∀ i, ((t.port p).lane i).test = (c'.lane i).test)

/-- CONFIRM has been entered with the own good set, the set lanes LOCKED with verdict PASS (R105); the test and the lane
records are the caller's to say. -/
def IsConfirm (cfg : ConfigCopy) (c d : Port) : Prop :=
  d = { c with
    st := .confirm, sub := none, phase := .result, phaseReason := .noReason, burst := none,
    phaseTimer := some cfg.phaseWait, dwellTimer := none, testTimer := none, holdReason := .noReason, lowPower := false,
    modReset := false, good := d.good, test := d.test, lanes := d.lanes } ∧
  ∀ j, hasLane d.good j = true ↔ hasLane c.laneSet j = true ∧ (d.lane j).st = .locked ∧
    ∃ r v, (d.lane j).test = some r ∧ r.given = some v ∧ v.verdict = .pass

/-- A follower, or a lead that holds no RESULT: it enters CONFIRM without a decision (R105). -/
abbrev WaitsForResult (c : Port) : Prop :=
  c.role = .follow ∨ (c.role = .lead ∧ ∀ i r, (c.lane i).neg = some r → r.phase ≠ .result)

/-- The failed attempt of a port in CONFIRM has been closed with the lanes G, and it sends HELD or RETRY (R96, R106). -/
def AttemptClosed (cfg : ConfigCopy) (c : Port) (G : LaneSet) (c' : Port) : Prop :=
  let d := { c with good := G }.closeFailed G
  let sends := fun (ph : Phase) (why : HoldReason) =>
    { d with phase := ph, phaseReason := why, burst := some 4, phaseTimer := some cfg.phaseWait }
  (d.left = 0 → c' = sends .heldWord .qualifyFailed) ∧
  (d.left ≠ 0 → laneSetRule d.commonWidths d.usable = none → c' = sends .heldWord .noUsableLanes) ∧
  (d.left ≠ 0 → laneSetRule d.commonWidths d.usable ≠ none → c' = sends .retry .noReason)

/-- The decision of a port in CONFIRM on the far mask F has been made: COMMIT when every set lane is good both ways, and
else the attempt is closed (R106). -/
def Decided (cfg : ConfigCopy) (c : Port) (F : LaneSet) (c' : Port) : Prop :=
  ∃ G : LaneSet,
    (∀ j, hasLane G j = true ↔ hasLane c.good j = true ∧ hasLane c.laneSet j = true ∧ (c.lane j).st = .locked ∧
      ∃ f, c.laneMap[j] = some f ∧ F.getLsbD f.toNat = true) ∧
    (G = c.laneSet → c' = { c with
      good := G, phase := .commit, phaseReason := .noReason, burst := some 4, phaseTimer := some cfg.phaseWait }) ∧
    (G ≠ c.laneSet → AttemptClosed cfg c G c')

/-- ACTIVE has been entered with a set lane without lock, whose lock lost was taken at once as a drop (R22, R36): two
changes have been handed over. -/
def ActiveThenDropped (p : PortNo) (c : Port) (s t : State) : Prop :=
  let d := { c with drops := min (c.drops + 1) 255 }
  let w := s.we.st.working
  PortEventFrame p s t ∧ t.rep = (s.rep.withChange w p 2).withChange w p 2 ∧ (t.port p).drops = d.drops ∧
  (c.holdOnDrop = true → IsHeld .linkDropped d (t.port p)) ∧
  (c.holdOnDrop = false → s.we.cfg.dropLimit ≠ 0 → s.we.cfg.dropLimit ≤ d.drops → IsHeld .flapping d (t.port p)) ∧
  (c.holdOnDrop = false → (s.we.cfg.dropLimit = 0 ∨ d.drops < s.we.cfg.dropLimit) →
    IsSignal s.we.cfg d (t.port p))

/-! ## Verification (R18, R72, R74, R84 to R89) -/

/-- A HELD beacon whose reason is not a cabling reason (R18, R98, R101). -/
abbrev HoldsFarEnd (r : NegRecord) : Prop :=
  r.phase = .heldBeacon ∧ ∀ h : HoldReason, h.code = r.reason → h.cabling = false

/-- The test of R18: every present lane is identified, and the latest record on the lowest identified lane carries a seen
identity equal to this port. -/
def FarEndSeesUs (env : Env) (c : Port) : Prop :=
  (∀ j, c.isPresent j = true → (c.lane j).far ≠ none) ∧
  ∃ j r b, (c.lane j).far ≠ none ∧ (∀ k, k < j → (c.lane k).far = none) ∧ (c.lane j).neg = some r ∧ r.beacon = some b ∧
    b.seenPort ≠ 0xFF ∧ b.seenChassis = env.chassis ∧ b.seenPort.toNat = env.self.val

/-- A lane of the verified set holds a record that carries a seen identity and comes from the lane's own far identity
(R74). -/
abbrev CarriesSeen (c : Port) (vs : LaneSet) (i : LaneNo) (b : BeaconPart) : Prop :=
  hasLane vs i = true ∧ b.seenPort ≠ 0xFF ∧
  ∃ r f, (c.lane i).neg = some r ∧ r.beacon = some b ∧ (c.lane i).far = some f ∧ b.sender.chassis = f.chassis ∧
    b.sender.port = f.port

/-- The seen identity that verification examines: the first such record in increasing lane order (R74). -/
def SeenIdentity (c : Port) (vs : LaneSet) (b : BeaconPart) : Prop :=
  ∃ i, CarriesSeen c vs i b ∧ ∀ j b', j < i → ¬ CarriesSeen c vs j b'

/-- What a run of verification on a set of lanes records (R72, R84, R89). -/
def RunRecorded (env : Env) (c : Port) (vs : LaneSet) (far : CableEnd) (d : Port) : Prop :=
  let v := c.verdictOf env vs far
  d.verdict = v ∧ d.far = some far ∧ d.laneMap = c.observe vs ∧ d.usable = (if v.passes then vs else 0) ∧
  d.role = electRole env v far

/-- The port context that a run of verification leaves to the entry into AGREE. -/
def Port.verified (env : Env) (c : Port) (vs : LaneSet) (far : CableEnd) : Port :=
  { c with
    verdict := c.verdictOf env vs far, far := some far, laneMap := c.observe vs, usable := vs
    role := electRole env (c.verdictOf env vs far) far }

/-- What a run of verification makes of a port in SIGNAL, in or outside the wait (section 4.4): agreement, the wait, or
HELD with the verdict's reason. -/
def VerdictActed (env : Env) (c : Port) (vs : LaneSet) (far : CableEnd) (d : Port) : Prop :=
  let v := c.verdictOf env vs far
  RunRecorded env c vs far d ∧
  (v.passes = true → (d.st = .agree ∨ d.st = .train ∨ d.st = .held) ∧ Agrees env.cfg (c.verified env vs far) d) ∧
  (v = .epochWait → d.st = .signal ∧ d.phaseTimer = none) ∧
  (v.passes = false → v ≠ .epochWait → IsHeld v.reason c d)

/-- Verification has run on a set of lanes of a port in SIGNAL, and its verdict has acted: VERDICT is handed over, with
MILESTONE at an entry into HELD and with EPOCH at an entry into the wait (R72, R85). -/
def VerificationRan (waiting : Bool) (p : PortNo) (c : Port) (vs : LaneSet) (far : CableEnd) (s t : State) : Prop :=
  PortEventFrame p s t ∧ VerdictActed (s.env p) c vs far (t.port p) ∧
  Reported p (if (t.port p).st = .held then 6
    else if c.verdictOf (s.env p) vs far = .epochWait ∧ waiting = false then 20 else 4) s t

/-- Verification has run at a port in HELD with a cabling reason (R25, R87): it goes on to agreement with attempts left at
the budget, it enters the wait, or it stays in HELD with the new reason. -/
def VerifiedInHeld (p : PortNo) (c : Port) (vs : LaneSet) (far : CableEnd) (s t : State) : Prop :=
  let v := c.verdictOf (s.env p) vs far
  let d := t.port p
  let budget := s.we.cfg.attemptBudget
  PortEventFrame p s t ∧ RunRecorded (s.env p) c vs far d ∧
  (v.passes = true → (d.st = .agree ∨ d.st = .train) ∧ Reported p 4 s t ∨ d.st = .held ∧ Reported p 6 s t) ∧
  (v.passes = true →
    Agrees s.we.cfg { c.verified (s.env p) vs far with attempt := 0, left := budget } d) ∧
  (v.passes = true → d.role = .follow → d.left = budget) ∧
  (v.passes = true → d.role ≠ .follow → d.st ≠ .held → d.attempt = 1 ∧ d.left = budget - 1) ∧
  (v = .epochWait → d.st = .signal ∧ d.phaseTimer = none ∧ d.holdReason = .noReason ∧ d.left = budget ∧
    Reported p 20 s t) ∧
  (v.passes = false → v ≠ .epochWait → d.st = .held ∧ d.holdReason = v.reason ∧ d.phaseReason = v.reason ∧
    Reported p 4 s t)

/-! ## Transactions at the module bus (R134, R138) -/

/-- The controller is IDLE again, its branch released. -/
def BusReleased (s : State) : BusCtl :=
  { s.bus with st := .idle, current := none, selected := none, watchdog := none }

/-- A transaction has been granted and begun. -/
def BusGranted (s : State) (r : Requester) (p : PortNo) (x : Transfer) : BusCtl :=
  { s.bus with
    st := .transfer, selected := some p, watchdog := some s.we.cfg.watchdog,
    current := some ⟨r, p, x, s.we.cfg.nackRetries, s.we.cfg.watchdog, 1, 0, false, false, false⟩ }

/-- A job's transaction has ended with this status, which NO_MODULE replaces when presence was lost. -/
def JobEnded (s t : State) (x : Txn) (tag : JobTag) (bufs : List MemOp) (st : Status) (bytes : Nat) : Prop :=
  JobCompleted s t s.mm.ops tag (if x.presenceLost then [] else bufs) (if x.presenceLost then .noModule else st)
    (bytes + 256 * x.tries) ∧
  t.arb = s.arb ∧ t.ports = s.ports ∧ t.cache = s.cache ∧ t.rep = s.rep ∧ SameBase s t ∧ SameWindow s t ∧
  SameEngine s t

/-- What the end of an identity read leaves alone beside its port and the cache. -/
def ReadEndFrame (p : PortNo) (s t : State) : Prop :=
  SameOtherPorts p s t ∧ SameBase s t ∧ t.arb = s.arb ∧ SameWindow s t ∧ SameEngine s t ∧ ListGrows s t

/-! ## The memory master (R171) -/

/-- The operation in progress has left the list, and nothing else has changed. -/
def Popped (s : State) : State := { s with mm := ⟨s.mm.ops.tail, 0⟩, out := [] }

/-- The operation in progress of the memory master's list. -/
abbrev InProgress (s : State) (op : MemOp) (abandoned : Bool) : Prop := s.mm.ops.head? = some ⟨op, abandoned⟩

/-- A scan that waits for a start read. -/
abbrev ScanWaits (s : State) : Prop := s.we.st = .running ∧ s.we.scan = .starting

/-- The descriptor read of a scan, at this cursor. -/
def descReadAt (s : State) (cursor : Nat) : MemEntry := ⟨.descRead (s.we.anchor.workBase + 32 * cursor), false⟩

/-- The request row of a kind. -/
def Kind.row : Kind → Request → Instr
  | .portEnable => .portEnable | .portDisable => .portDisable | .portRestart => .portRestart
  | .portQuery => .portQuery | .laneTest => .laneTest | .laneTestStop => .laneTestStop | .portAwait => .portAwait
  | .moduleRead => .moduleRead | .moduleWrite => .moduleWrite | .planFlush => .planFlush
  | .capsLimit => .capsLimit | .setConfig => .setConfig

/-- Every job is gone: no slot is in use, the queue is empty, a job's transaction at the bus is cut, no scan runs. -/
def WorkAbandoned (s t : State) : Prop :=
  (∀ k : Fin 16, t.we.slots[k] = none) ∧ t.arb = { s.arb with queue := [] } ∧
  t.bus = { s.bus with current := s.bus.current.map fun x =>
    if x.requester = .port then x else { x with cut := true } } ∧
  t.we.scan = .noScan ∧ t.we.scanPending = false ∧ t.we.scanTimer = none

/-! ## Invariants -/

/-- R1, R5: the sub-step is present in IDENTIFY alone, low-power is asserted in OFF and EMPTY alone, and module reset in
RESETTING alone. -/
def OutputsMatchState (s : State) : Prop :=
  ∀ p, ((s.port p).sub.isSome ↔ (s.port p).st = .identify) ∧
    ((s.port p).lowPower = true ↔ (s.port p).st = .off ∨ (s.port p).st = .empty) ∧
    ((s.port p).modReset = true ↔ (s.port p).sub = some .resetting)

/-- R90, R151: the attempt budget in force is 1 to 8, and attempts left stays within it. -/
def AttemptsWithinBudget (s : State) : Prop :=
  1 ≤ s.we.cfg.attemptBudget ∧ s.we.cfg.attemptBudget ≤ 8 ∧ ∀ p, (s.port p).left ≤ s.we.cfg.attemptBudget

/-- R58: the cache holds at most 8 entries, never two for one port, and none whose valid flag is clear. -/
def CacheWellFormed (s : State) : Prop :=
  s.cache.entries.length ≤ 8 ∧ (s.cache.entries.map CacheEntry.port).Nodup ∧
  ∀ e ∈ s.cache.entries, planValid e.bytes.toList = true

/-- R173: the report queue never holds a port twice, and holds a port exactly when its record is non-empty; an empty
record has no kinds; counts stay within 255; a report in flight counts at least one change. -/
def ReportQueueMatchesRecords (s : State) : Prop :=
  s.rep.queue.Nodup ∧ (∀ p : PortNo, p ∈ s.rep.queue ↔ s.rep.recs[p].count ≠ 0) ∧
  (∀ p : PortNo, s.rep.recs[p].count = 0 → s.rep.recs[p].kinds = 0) ∧
  (∀ p : PortNo, s.rep.recs[p].count ≤ 255) ∧
  ∀ f ∈ s.rep.inflight, 1 ≤ f.count ∧ f.count ≤ 255

end Sys2Proof.Machine
end

