-- ==== Sys2Proof/Certificates/Slice0/Obligations.lean ====
section
/-!
DEFINITION. The statements for the provers: what each command does, what it leaves alone, and the invariants that every
step keeps. A statement about a command out of reset has the premise that the reset hold is released.
-/

open Sys2Proof Sys2Proof.Machine

/-! ## Steps and resets -/

/-- Log 1: a step carries out the command at the front of the queue with the queue's rest; on an empty queue the part
idles. The queue is the model's own. -/
def Obligations.StepRunsTheFrontCommand : Prop :=
  (∀ (c : Instr) (rest : List Instr) (s : State),
    step { s with pending := c :: rest } = exec c { s with pending := rest }) ∧
  ∀ s : State, s.pending = [] → step s = .next s

/-- R172 and file 95: no command stops the part. That a row whose event cannot occur answers too is log 2; the queue
of commands, which no command touches, is the model's own choice (log 1). -/
def Obligations.EveryCommandAnswersANextState : Prop :=
  ∀ (c : Instr) (s : State), ∃ t, exec c s = .next t ∧ t.pending = s.pending

/-- R1, R31, R58, R112, R132, R142, R151 to R153, R171, R173, R180, R185, R186: the device-reset values, which meet
the four invariants. That the straps give 0 and no module is present is the model's choice (log 4). -/
def Obligations.ResetStateHoldsTheResetValues : Prop :=
  AtReset State.reset ∧ State.reset.hold = .released ∧ State.reset.straps = 0 ∧
  (∀ p, (State.reset.port p).present = false) ∧ State.reset.pending = [] ∧ OutputsMatchState State.reset ∧
  AttemptsWithinBudget State.reset ∧ CacheWellFormed State.reset ∧ ReportQueueMatchesRecords State.reset

/-- R149, R179, R185: each of the three resets puts every block at its reset values, ends a transaction at the bus
with a stop condition and deasserts the interrupt line; RESET_END then latches the straps and samples presence without
an event (R1, R152, R186). That the strap latch keeps its value during the hold is log 4, that a DEVICE_RESET written
while the part is held is ignored, and a RESET_END that is not due, log 5, and that every reset sends the deassertion
message log 6. -/
def Obligations.ResetsPutEveryBlockAtItsResetValues : Prop :=
  (∀ s : State, ∀ c, (c = .powerOn ∨ c = .resetN ∨ (c = .deviceReset ∧ s.hold = .released)) →
    ∃ t, exec c s = .next t ∧ AtReset t ∧ t.hold = (if c = .deviceReset then .timed 1 else .pin) ∧
      t.straps = s.straps ∧ t.pending = s.pending ∧
      t.out = (if s.bus.current = none then [] else [.busStop]) ++
        (if s.regs.events &&& s.regs.mask = 0 then [] else [.interrupt false])) ∧
  (∀ s : State, s.hold ≠ .released → ∃ t, exec .deviceReset s = .next t ∧ Unchanged s t) ∧
  (∀ (s : State) (straps : BitVec 12) (presence : BitVec 32), (s.hold = .pin ∨ s.hold = .timed 0) →
    ∃ t, exec (.resetEnd straps presence) s = .next t ∧ AtReset t ∧ t.hold = .released ∧ t.straps = straps ∧
      (∀ p : PortNo, (t.port p).present = presence.getLsbD p.val) ∧ t.out = [] ∧ t.pending = s.pending) ∧
  ∀ (s : State) (straps : BitVec 12) (presence : BitVec 32) (n : Nat), (s.hold = .released ∨ s.hold = .timed (n + 1)) →
    ∃ t, exec (.resetEnd straps presence) s = .next t ∧ Unchanged s t

/-- R185: while the part is held in reset, register writes are ignored and nothing but the reset rows and the tick
acts; the 1 ms of a DEVICE_RESET runs by the tick (log 5). -/
def Obligations.NothingElseActsDuringAReset : Prop :=
  (∀ (c : Instr) (s : State), s.hold ≠ .released → c ≠ .powerOn → c ≠ .resetN →
    (∀ straps presence, c ≠ .resetEnd straps presence) → c ≠ .tick → ∃ t, exec c s = .next t ∧ Unchanged s t) ∧
  (∀ s : State, s.hold = .pin → ∃ t, exec .tick s = .next t ∧ Unchanged s t) ∧
  ∀ (s : State) (n : Nat), s.hold = .timed n →
    exec .tick s = .next { s with hold := .timed (n - 1), out := [] }

/-! ## Engine control and the register window -/

/-- R150, R155, R156, R175, R181 to R183: a CONTROL write of RUN = 1 by engine state. The return from DRAINING
triggers the report engine and a scan, the scan's read joining the list last (log 43), and starts the periodic scan
timer (log 16). -/
def Obligations.RunSetActsByEngineState : Prop :=
  ∀ s : State, s.hold = .released →
    ((s.we.st = .stopped ∨ s.we.st = .halted) → exec .runSet s = .next { s with
      we := { s.we with st := .starting, run := true, haltCause := .noCause, latched := s.regs.anchorReg }
      mm := { s.mm with ops := s.mm.ops ++ [⟨.anchorRead (64 * s.regs.anchorReg.toNat), false⟩] }
      out := [] }) ∧
    ((s.we.st = .starting ∨ s.we.st = .running) → exec .runSet s = .next { s with out := [] }) ∧
    (s.we.st = .draining → ∃ t, exec .runSet s = .next t ∧ t.we.st = .running ∧ t.we.run = true ∧
      t.we.anchor = s.we.anchor ∧ t.we.cfg = s.we.cfg ∧ t.we.cursor = s.we.cursor ∧ t.we.slots = s.we.slots ∧
      t.we.scanTimer = (if s.we.cfg.scanEnable then some ((s.we.cfg.scanValue + 1) * 4) else none) ∧
      t.rep = { s.rep with
        phase := if s.rep.queue ≠ [] then .reading else s.rep.phase
        reread := s.rep.reread || s.rep.phase = .reading } ∧
      t.mm = { s.mm with ops := s.mm.ops ++
        (if s.rep.phase ≠ .reading ∧ s.rep.queue ≠ []
          then [⟨.reportRead (s.we.anchor.reportBase + 32 * s.rep.cursor), false⟩] else []) ++
        if s.we.scan = .noScan then [descReadAt s s.we.cursor] else [] } ∧
      ScanTriggered s t ∧ t.cache = s.cache ∧ t.ports = s.ports ∧ SameBase s t ∧ SameBus s t ∧ t.regs = s.regs ∧
      t.out = [])

/-- R153, R160, R181, R183: a CONTROL write of RUN = 0 by engine state; an engine that holds no work is STOPPED at
that write, with DRAINED, and DRAIN_END takes a DRAINING engine to STOPPED exactly when the five conditions hold. That
the end of a drain is a row of its own is log 13, that a cut transaction of a job holds it up log 38, that the row
changes nothing otherwise log 2. -/
def Obligations.RunClearAndDrainEndStopTheEngine : Prop :=
  (∀ s : State, s.hold = .released →
     ((s.we.st = .stopped ∨ s.we.st = .draining ∨ s.we.st = .halted) → exec .runClear s = .next { s with out := [] }) ∧
     (s.we.st = .starting → exec .runClear s = .next { s with we := { s.we with run := false }, out := [] }) ∧
     (s.we.st = .running → ¬ DrainConditions s → ∃ t, exec .runClear s = .next t ∧ t.we.st = .draining ∧
       t.we.run = false ∧ t.we.scan = .noScan ∧ t.we.scanPending = false ∧ t.we.slots = s.we.slots ∧
       t.we.scanTimer = s.we.scanTimer ∧ t.ports = s.ports ∧ t.cache = s.cache ∧ SameBase s t ∧ SameBus s t ∧
       t.regs = s.regs ∧ t.out = []) ∧
     (s.we.st = .running → DrainConditions s → ∃ t, exec .runClear s = .next t ∧ t.we.st = .stopped ∧
       t.we.run = false ∧ t.we.scan = .noScan ∧ t.we.scanPending = false ∧ t.we.scanTimer = none ∧
       t.regs = { s.regs with events := s.regs.events ||| evDrained } ∧ FillsFailed s t (fun _ c => c) ∧
       t.cache.entries = s.cache.entries ∧ t.cache.gen = s.cache.gen ∧ SameBase s t ∧ SameBus s t)) ∧
  ((∀ s : State, s.hold = .released → s.we.st = .draining → DrainConditions s →
     ∃ t, exec .drainEnd s = .next t ∧ t.we.st = .stopped ∧ t.we.run = false ∧ t.we.scanTimer = none ∧
       t.regs = { s.regs with events := s.regs.events ||| evDrained } ∧ FillsFailed s t (fun _ c => c) ∧
       t.cache.entries = s.cache.entries ∧ t.cache.gen = s.cache.gen ∧ t.we.cfg = s.we.cfg ∧
       t.we.chassis = s.we.chassis ∧ t.we.anchor = s.we.anchor ∧ t.mm = s.mm ∧ SameBase s t ∧ SameBus s t) ∧
   ∀ s : State, s.hold = .released → (s.we.st ≠ .draining ∨ ¬ DrainConditions s) →
     ∃ t, exec .drainEnd s = .next t ∧ Unchanged s t)

/-- R145, R153, R160, R178, R182, R184: ENGINE_RESTART, in any engine state. Slots are freed, the queue emptied, a
transaction of a job cut, the cache emptied; the operation in progress stays, the rest of the list is handed back;
ports that wait on a fill are held; reports handed back are restored to their ports; EVENTS, EVENT_MASK, ANCHOR, the
halt cause, the configuration and the chassis ID are kept. That the list is handed back in the same step, its head
staying with an abandoned mark, is log 12, and the order of several restored reports log 28. -/
def Obligations.EngineRestartStopsTheEngine : Prop :=
  ∀ s : State, s.hold = .released → ∃ t, exec .engineRestart s = .next t ∧
    t.we = { s.we with
      st := .stopped, run := false, cursor := 0, scan := .noScan, scanPending := false, stall := .noStall,
      slots := Vector.replicate 16 none, scanTimer := none } ∧
    t.mm.ops = (s.mm.ops.take 1).map (fun e => if e.op.discardsOutcome then { e with abandoned := true } else e) ∧
    t.arb = { s.arb with queue := [] } ∧
    t.bus = { s.bus with current := s.bus.current.map fun x =>
      if x.requester = .port then x else { x with cut := true } } ∧
    t.cache.entries = [] ∧ t.cache.gen = s.cache.gen + 1 ∧ t.cache.epoch = s.cache.epoch ∧
    t.rep.cursor = 0 ∧ t.rep.phase = .idle ∧ t.rep.reread = false ∧ t.rep.stallFlag = false ∧
    ((∃ a b x, s.mm.ops.head? = some ⟨.reportFilled a b, x⟩) → t.rep.inflight = s.rep.inflight.take 1) ∧
    (¬ (∃ a b x, s.mm.ops.head? = some ⟨.reportFilled a b, x⟩) → t.rep.inflight = []) ∧
    ((∀ p : PortNo, s.cache.fillPending[p] = false) → (∀ f ∈ s.rep.inflight, 1 ≤ f.count) →
      ReportsRestored (s.rep.inflight.drop t.rep.inflight.length) s.rep t.rep) ∧
    t.regs = s.regs ∧ SameBase s t ∧
    FillsFailed s t fun p c =>
      if ∃ k : Fin 16, ∃ j, s.we.slots[k] = some j ∧ j.port = p ∧ j.kind = .laneTest then c.closeTest else c

/-- R155, R156, R159, R175: a nudge and an expiry of the periodic scan timer act by engine state; in RUNNING they
start a scan, or set scan-pending while one is in progress. A SCAN_TIMER_EXPIRY with no timer due changes nothing (log
1); that the scan's read joins the list after the report engine's is log 43. -/
def Obligations.NudgesAndTheScanTimerTriggerScans : Prop :=
  (∀ s : State, s.hold = .released → s.we.st = .running → s.we.scan = .noScan →
    exec .nudgeWork s = .next { s with
      we := { s.we with scan := .reading, stall := .noStall }
      mm := { s.mm with ops := s.mm.ops ++ [⟨.descRead (s.we.anchor.workBase + 32 * s.we.cursor), false⟩] }
      out := [] }) ∧
  (∀ s : State, s.hold = .released → s.we.st = .running → s.we.scan ≠ .noScan →
    exec .nudgeWork s = .next { s with we := { s.we with scanPending := true }, out := [] }) ∧
  (∀ s : State, s.hold = .released → s.we.st ≠ .running →
    exec .nudgeWork s = .next { s with out := [] } ∧ exec .nudgeReports s = .next { s with out := [] }) ∧
  (∀ s : State, s.hold = .released → s.we.st = .running → s.rep.phase = .reading →
    exec .nudgeReports s = .next { s with rep := { s.rep with reread := true }, out := [] }) ∧
  (∀ s : State, s.hold = .released → s.we.st = .running → s.rep.phase ≠ .reading → s.rep.queue ≠ [] →
    exec .nudgeReports s = .next { s with
      rep := { s.rep with phase := .reading }
      mm := { s.mm with ops := s.mm.ops ++ [⟨.reportRead (s.we.anchor.reportBase + 32 * s.rep.cursor), false⟩] }
      out := [] }) ∧
  (∀ s : State, s.hold = .released → s.we.st = .running → s.rep.phase ≠ .reading → s.rep.queue = [] →
    exec .nudgeReports s = .next { s with out := [] }) ∧
  (∀ s : State, s.hold = .released → s.we.scanTimer = some 0 →
    ∃ t, exec .scanTimerExpiry s = .next t ∧ t.we.scanTimer = some ((s.we.cfg.scanValue + 1) * 4) ∧
      (s.we.st = .running → ScanTriggered s t) ∧ (s.we.st ≠ .running → t.we.scan = s.we.scan) ∧
      (s.we.st.working = true → s.rep.queue ≠ [] → t.rep.phase = .reading) ∧
      t.rep.reread = (s.rep.reread || s.rep.phase = .reading) ∧ t.rep.recs = s.rep.recs ∧ t.rep.queue = s.rep.queue ∧
      t.ports = s.ports ∧ t.cache = s.cache ∧ SameBase s t ∧ SameBus s t ∧ t.regs = s.regs ∧ t.out = []) ∧
  ∀ s : State, s.hold = .released → s.we.scanTimer ≠ some 0 → exec .scanTimerExpiry s = .next { s with out := [] }

/-- R179, R180: a write to EVENTS clears the bits written 1, a write to EVENT_MASK sets the mask, and the interrupt
message follows a change of the condition, with nothing else changed; and what a write to each offset of the window
is. Which bit of one NUDGE write acts first is free (log 19); that the row covers the whole window is the model's
reading (log 34). -/
def Obligations.WindowWritesActByOffset : Prop :=
  (∀ (v : Word) (s : State), s.hold = .released →
     (∃ t, exec (.eventsClear v) s = .next t ∧ t.regs.events = s.regs.events &&& ~~~(v.extractLsb' 0 5) ∧
       t = { s with regs := { s.regs with events := t.regs.events }, out := t.out } ∧ OnlyInterrupt s t) ∧
     ∃ t, exec (.eventMaskWrite v) s = .next t ∧ t.regs.mask = v.extractLsb' 0 5 ∧
       t = { s with regs := { s.regs with mask := t.regs.mask }, out := t.out } ∧ OnlyInterrupt s t) ∧
  (∀ (offset : BitVec 6) (v : Word) (s : State), s.hold = .released →
     (offset = 0x04 → exec (.registerWrite offset v) s =
       if v.getLsbD 2 then exec .deviceReset s
       else if v.getLsbD 1 then exec .engineRestart s
       else if v.getLsbD 0 then exec .runSet s
       else exec .runClear s) ∧
     (offset = 0x08 → exec (.registerWrite offset v) s =
       .next { s with regs := { s.regs with anchorReg := v }, out := [] }) ∧
     (offset = 0x0C → v.getLsbD 0 = true → v.getLsbD 1 = false →
       exec (.registerWrite offset v) s = exec .nudgeWork s) ∧
     (offset = 0x0C → v.getLsbD 0 = false → v.getLsbD 1 = true →
       exec (.registerWrite offset v) s = exec .nudgeReports s) ∧
     (offset = 0x0C → v.getLsbD 0 = false → v.getLsbD 1 = false →
       exec (.registerWrite offset v) s = .next { s with out := [] }) ∧
     (offset = 0x0C → v.getLsbD 0 = true → v.getLsbD 1 = true →
       (∃ u t, exec .nudgeWork s = .next u ∧ exec .nudgeReports u = .next t ∧
         exec (.registerWrite offset v) s = .next t) ∨
       ∃ u t, exec .nudgeReports s = .next u ∧ exec .nudgeWork u = .next t ∧
         exec (.registerWrite offset v) s = .next t) ∧
     (offset = 0x10 → exec (.registerWrite offset v) s = exec (.eventsClear v) s) ∧
     (offset = 0x14 → exec (.registerWrite offset v) s = exec (.eventMaskWrite v) s) ∧
     (offset ≠ 0x04 → offset ≠ 0x08 → offset ≠ 0x0C → offset ≠ 0x10 → offset ≠ 0x14 →
       exec (.registerWrite offset v) s = .next { s with out := [] }))

/-! ## Sideband pins -/

/-- R6, R174: the assertion of the alert input is handed over as an ALERT change in every state, and nothing else. An
empty record takes the kinds and count 1 and its port joins the tail of the queue; a record that holds changes takes
the kinds too and counts one more, up to 255, and its port keeps its place; one handing-over counts once, as at
presence lost from ACTIVE; every one is a trigger of the report engine. -/
def Obligations.ChangesAreHandedOver : Prop :=
  (∀ (p : PortNo) (s : State), s.hold = .released → ∃ t, exec (.alertAsserted p) s = .next t ∧ Reported p 8 s t ∧
     t.ports = s.ports ∧ t.we = s.we ∧ t.regs = s.regs ∧ SharedFrame s t ∧ t.out = []) ∧
  ((∀ (s : State) (p : PortNo) (kinds : BitVec 5), s.rep.recs[p] = ⟨0, 0⟩ →
     (s.handOver p kinds).rep.recs = s.rep.recs.set p (⟨kinds, 1⟩ : ReportRec) ∧
     (s.handOver p kinds).rep.queue = s.rep.queue ++ [p]) ∧
   (∀ (s : State) (p : PortNo) (kinds : BitVec 5), s.rep.recs[p].count ≠ 0 →
     (s.handOver p kinds).rep.recs =
       s.rep.recs.set p (⟨s.rep.recs[p].kinds ||| kinds, min (s.rep.recs[p].count + 1) 255⟩ : ReportRec) ∧
     (s.handOver p kinds).rep.queue = s.rep.queue) ∧
   (∀ (s : State) (p : PortNo) (kinds : BitVec 5),
     (s.rep.phase = .reading → (s.handOver p kinds).rep.reread = true ∧ (s.handOver p kinds).mm = s.mm) ∧
     (s.rep.phase ≠ .reading → s.we.st.working = true → (s.handOver p kinds).rep.queue ≠ [] →
       (s.handOver p kinds).rep.phase = .reading ∧ (s.handOver p kinds).mm.ops =
         s.mm.ops ++ [⟨.reportRead (s.we.anchor.reportBase + 32 * s.rep.cursor), false⟩]) ∧
     (s.rep.phase ≠ .reading → s.we.st.working = false →
       (s.handOver p kinds).rep.phase = s.rep.phase ∧ (s.handOver p kinds).mm = s.mm)) ∧
   ∀ (s : State) (p : PortNo), s.hold = .released → (s.port p).present = true → (s.port p).st = .active →
     ∃ t, exec (.presenceLost p) s = .next t ∧ t.rep.recs = s.rep.recs.set p
       (⟨s.rep.recs[p].kinds ||| 3, min (s.rep.recs[p].count + 1) 255⟩ : ReportRec))

/-- R4, R9, R10, R11, R128, R132, R141, R144, R147: presence raised is recorded and reported, and in EMPTY the port
enters IDENTIFY; presence lost is recorded and reported, and outside OFF and EMPTY the port enters EMPTY, PRESENCE and
MILESTONE being one change. It ends a running LANE_TEST: the running lanes get LOST, the job completes with PORT_LOST.
That the branch-stuck flag is cleared in OFF too is the model's reading (log 15); a level that is there already is no
event (log 2); that the completion comes before the report's read is log 8. -/
def Obligations.PresenceChangesAreRecorded : Prop :=
  (∀ (p : PortNo) (s : State), s.hold = .released →
     ((s.port p).present = true → ∃ t, exec (.presenceRaised p) s = .next t ∧ Unchanged s t) ∧
     ((s.port p).present = false → (s.port p).st ≠ .empty → ∃ t, exec (.presenceRaised p) s = .next t ∧
       t.port p = { s.port p with present := true } ∧ Reported p 1 s t ∧ PortEventFrame p s t ∧ t.we = s.we ∧
       t.regs = s.regs ∧ t.out = []) ∧
     ((s.port p).present = false → (s.port p).st = .empty → ∃ t, exec (.presenceRaised p) s = .next t ∧
       IsIdentify false { s.port p with present := true } (t.port p) ∧ Reported p 1 s t ∧ PortEventFrame p s t ∧
       t.we = s.we ∧ t.regs = s.regs)) ∧
  (∀ (p : PortNo) (s : State), s.hold = .released →
     ((s.port p).present = false → ∃ t, exec (.presenceLost p) s = .next t ∧ Unchanged s t) ∧
     ((s.port p).present = true → ((s.port p).st = .off ∨ (s.port p).st = .empty) →
       ∃ t, exec (.presenceLost p) s = .next t ∧ t.port p = { s.port p with present := false } ∧ Reported p 1 s t ∧
         BusMarked p Txn.afterLoss s t ∧ t.arb = s.arb ∧ t.cache = s.cache ∧ SameOtherPorts p s t ∧ SameBase s t ∧
         t.we = s.we ∧ t.regs = s.regs ∧ t.out = []) ∧
     ((s.port p).present = true → (s.port p).st ≠ .off → (s.port p).st ≠ .empty →
       ∃ t, exec (.presenceLost p) s = .next t ∧ IsEmpty { s.port p with present := false } (t.port p) ∧
         LaneTestEnded p (s.port p) (fun _ _ _ => .lost) .portLost s.mm.ops s t ∧ Reported p 3 s t ∧
         BusMarked p Txn.afterLoss s t ∧ RequestsDropped p s t ∧ SameOtherPorts p s t ∧ SameBase s t ∧ SameWindow s t ∧
         SameEngine s t ∧ ListGrows s t))

/-! ## Lane indications -/

/-- R34, R102, R104, R114: lock gained acts on a TRAINING lane alone; the last set lane to lock takes a port in TRAIN
to QUALIFY, where a test runs on the LOCKED set lanes. -/
def Obligations.LockGainedLocksALane : Prop :=
  ∀ (p : PortNo) (i : LaneNo) (s : State), s.hold = .released →
    let c := s.port p
    (((c.lane i).st ≠ .training) → ∃ t, exec (.lockGained p i) s = .next t ∧ Unchanged s t) ∧
    ((c.lane i).st = .training → (c.st ≠ .train ∨ ∃ j, j ≠ i ∧ hasLane c.laneSet j = true ∧ (c.lane j).st = .training) →
      ∃ t, exec (.lockGained p i) s = .next t ∧ t.port p = c.setLane i { c.lane i with st := .locked } ∧
        OnlyPort p s t ∧ t.out = []) ∧
    ((c.lane i).st = .training → c.st = .train → hasLane c.laneSet i = true →
      (∀ j, j ≠ i → hasLane c.laneSet j = true → (c.lane j).st ≠ .training) → ∀ g, c.agreed = some g →
      ∃ t, exec (.lockGained p i) s = .next t ∧ (t.port p).st = .qualify ∧ AtWork { t.port p with dwellTimer := none } ∧
        (t.port p).qualReached = true ∧ (t.port p).phase = .training ∧ (t.port p).phaseTimer = none ∧
        (∃ T : PortTest, (t.port p).test = some T ∧ T.kind = .bringUp ∧ T.grade = g ∧ T.elapsed = 0 ∧
          T.ended = false ∧ T.dropOnFail = false ∧ (t.port p).dwellTimer = T.dwell ∧
          ∀ j, hasLane T.lanes j = true ↔ hasLane c.laneSet j = true ∧ (j = i ∨ (c.lane j).st = .locked)) ∧
        (∀ j, ((t.port p).lane j).st = (if j = i then .locked else (c.lane j).st) ∧
          ((t.port p).lane j).test = if hasLane c.laneSet j = true ∧ (j = i ∨ (c.lane j).st = .locked)
            then some ⟨0, none⟩ else none) ∧
        KeepsSettings c (t.port p) ∧ KeepsModule c (t.port p) ∧ (t.port p).laneSet = c.laneSet ∧
        (t.port p).attempt = c.attempt ∧ OnlyPort p s t ∧ t.out = [])

/-- R22, R25, R35, R128: lock lost on a set lane of an ACTIVE port is a drop: counted, and the port goes to HELD or
begins again from SIGNAL. It ends a running LANE_TEST: that lane gets LOST, the other running lanes what a stop gives,
and the job completes with PORT_LOST (its completion before the report's read: log 8). Lock lost in the other lane
states than LOCKED, and on a DATA lane that is not a set lane of an ACTIVE port, has no effect. -/
def Obligations.LockLostOnAnActivePortIsADrop : Prop :=
  ∀ (p : PortNo) (i : LaneNo) (s : State), s.hold = .released →
    let c := s.port p
    let d := { c with drops := min (c.drops + 1) 255 }
    let testEnded := LaneTestEnded p c (fun T j e => if j = i then .lost else stopGives T j e) .portLost s.mm.ops s
    (((c.lane i).st = .quiet ∨ (c.lane i).st = .beacon ∨ (c.lane i).st = .training ∨ (c.lane i).st = .failed ∨
        ((c.lane i).st = .data ∧ (c.st ≠ .active ∨ hasLane c.laneSet i = false))) →
      ∃ t, exec (.lockLost p i) s = .next t ∧ Unchanged s t) ∧
    ((c.lane i).st = .data → c.st = .active → hasLane c.laneSet i = true → c.holdOnDrop = true →
      ∃ t, exec (.lockLost p i) s = .next t ∧ IsHeld .linkDropped d (t.port p) ∧ testEnded t ∧
        Reported p 2 s t ∧ PortEventFrame p s t) ∧
    ((c.lane i).st = .data → c.st = .active → hasLane c.laneSet i = true → c.holdOnDrop = false →
      s.we.cfg.dropLimit ≠ 0 → s.we.cfg.dropLimit ≤ d.drops →
      ∃ t, exec (.lockLost p i) s = .next t ∧ IsHeld .flapping d (t.port p) ∧ testEnded t ∧
        Reported p 2 s t ∧ PortEventFrame p s t) ∧
    ((c.lane i).st = .data → c.st = .active → hasLane c.laneSet i = true → c.holdOnDrop = false →
      (s.we.cfg.dropLimit = 0 ∨ d.drops < s.we.cfg.dropLimit) →
      ∃ t, exec (.lockLost p i) s = .next t ∧ IsSignal s.we.cfg d (t.port p) ∧ (t.port p).drops = d.drops ∧
        testEnded t ∧ Reported p 2 s t ∧ PortEventFrame p s t)

/-- R35, R97, R102, R105, R109, R110, R114, R121, R124: a LOCKED lane that loses lock is FAILED and its front end
QUIET, and no more happens while the port waits for another lane: in TRAIN a set lane still TRAINING, in CONFIRM a
LOCKED one, in QUALIFY a lane that runs. In TRAIN with another set lane LOCKED and none TRAINING it enters QUALIFY. In
QUALIFY the lane's running test ends with LOST; when it was the last to run and another set lane is LOCKED, the port
enters CONFIRM. With no set lane left a follower begins again from SIGNAL, and a lead or SELF port closes the failed
attempt and enters AGREE; when its decision has closed it already, the loss acts as the end of the RETRY or HELD
burst. -/
def Obligations.LockLostInAnAttemptFailsTheLane : Prop :=
  ∀ (p : PortNo) (i : LaneNo) (s : State), s.hold = .released → ((s.port p).lane i).st = .locked →
    let c := s.port p
    let l := c.lane i
    (∀ T r, c.st = .qualify → c.test = some T → T.ended = false → hasLane T.lanes i = true → l.test = some r →
      r.given = none →
      (∃ j e, j ≠ i ∧ hasLane c.laneSet j = true ∧ (c.lane j).st = .locked ∧ hasLane T.lanes j = true ∧
        (c.lane j).test = some ⟨e, none⟩) →
      ∃ t, exec (.lockLost p i) s = .next t ∧
        t.port p = c.setLane i { l with
          st := .failed, rx := .hunt,
          test := some { r with given := some ⟨.lost, T.grade.bitsPerMs * T.elapsed,
            demonstrated r.e (T.grade.bitsPerMs * T.elapsed), false⟩ } } ∧
        OnlyPort p s t ∧ t.out = [.frontEnd p i .quiet]) ∧
    (∀ T e, c.st = .qualify → c.test = some T → T.ended = false → hasLane T.lanes i = true → hasLane c.laneSet i = true →
      l.test = some ⟨e, none⟩ → (∀ j, j ≠ i → hasLane T.lanes j = true → ∀ e₂, (c.lane j).test ≠ some ⟨e₂, none⟩) →
      (∃ j, j ≠ i ∧ hasLane c.laneSet j = true ∧ (c.lane j).st = .locked) → WaitsForResult c →
      ∃ t, exec (.lockLost p i) s = .next t ∧ IsConfirm s.we.cfg c (t.port p) ∧
        (t.port p).test = some { T with ended := true } ∧
        (t.port p).lane i = { l with
          st := .failed, rx := .hunt,
          test := some ⟨e, some ⟨.lost, T.grade.bitsPerMs * T.elapsed,
            demonstrated e (T.grade.bitsPerMs * T.elapsed), false⟩⟩ } ∧
        (∀ j, j ≠ i → (t.port p).lane j = c.lane j) ∧ OnlyPort p s t ∧ t.out = [.frontEnd p i .quiet]) ∧
    ((∀ T e, c.test = some T → T.ended = false → hasLane T.lanes i = true → l.test ≠ some ⟨e, none⟩) →
      let attempting := c.st = .train ∨ c.st = .qualify ∨ c.st = .confirm
      ((¬ attempting ∨ hasLane c.laneSet i = false ∨
          (∃ j, j ≠ i ∧ hasLane c.laneSet j = true ∧ (c.st = .train ∧ (c.lane j).st = .training ∨
            c.st = .confirm ∧ (c.lane j).st = .locked ∨ c.st = .qualify ∧ (c.lane j).st = .locked ∧
              ∃ T e, c.test = some T ∧ T.ended = false ∧ hasLane T.lanes j = true ∧ (c.lane j).test = some ⟨e, none⟩))) →
        ∃ t, exec (.lockLost p i) s = .next t ∧ t.port p = c.setLane i { l with st := .failed, rx := .hunt } ∧
          OnlyPort p s t ∧ t.out = [.frontEnd p i .quiet]) ∧
      (∀ g, c.st = .train → hasLane c.laneSet i = true → c.agreed = some g →
        (∀ j, j ≠ i → hasLane c.laneSet j = true → (c.lane j).st ≠ .training) →
        (∃ j, j ≠ i ∧ hasLane c.laneSet j = true ∧ (c.lane j).st = .locked) →
        ∃ t, exec (.lockLost p i) s = .next t ∧
          IsQualify g c (t.port p) (fun j => hasLane c.laneSet j && j ≠ i && (c.lane j).st = .locked) ∧
          (∀ j, ((t.port p).lane j).st = if j = i then .failed else (c.lane j).st) ∧ OnlyPort p s t ∧
          t.out = [.frontEnd p i .quiet])) ∧
    ((c.st = .train ∨ c.st = .qualify ∨ c.st = .confirm) → hasLane c.laneSet i = true →
      (∀ j, j ≠ i → hasLane c.laneSet j = true → (c.lane j).st ≠ .locked ∧ (c.lane j).st ≠ .training) →
      let decided := c.st = .confirm ∧ (c.phase = .retry ∨ c.phase = .heldWord)
      (c.role = .follow → ∃ t, exec (.lockLost p i) s = .next t ∧ IsSignal s.we.cfg c (t.port p) ∧ t.rep = s.rep ∧
        PortEventFrame p s t) ∧
      (c.role = .lead → ¬ decided →
        ∃ t, exec (.lockLost p i) s = .next t ∧ LeadEntersAgree p (c.closeFailed 0) s t) ∧
      (c.role = .self → ¬ decided →
        ∃ t, exec (.lockLost p i) s = .next t ∧ SelfEntersAgree p (c.closeFailed 0) s t) ∧
      (c.role = .lead → decided → c.phase = .retry → ∃ t, exec (.lockLost p i) s = .next t ∧ LeadEntersAgree p c s t) ∧
      (c.role = .self → decided → c.phase = .retry → ∃ t, exec (.lockLost p i) s = .next t ∧ SelfEntersAgree p c s t) ∧
      ((c.role = .lead ∨ c.role = .self) → decided → c.phase = .heldWord →
        ∃ t, exec (.lockLost p i) s = .next t ∧ IsHeld c.phaseReason c (t.port p) ∧ Reported p 2 s t ∧
          PortEventFrame p s t))

/-- R37, R42, R43, R44, R51, R53: a delimiter in BEACON sets the polarity and starts collecting; a beacon in COLLECT,
or a training word in LOCKED, whose check fails is counted and dropped; neither is taken in another lane state. -/
def Obligations.DelimitersAndFailedChecks : Prop :=
  ∀ (p : PortNo) (i : LaneNo) (s : State), s.hold = .released →
    let c := s.port p
    let l := c.lane i
    (∀ sense, l.st = .beacon → ∃ t, exec (.delimiterFound p i sense) s = .next t ∧
      t.port p = c.setLane i { l with polarity := sense, rx := .collect } ∧ OnlyPort p s t ∧ t.out = []) ∧
    (∀ sense, l.st ≠ .beacon → ∃ t, exec (.delimiterFound p i sense) s = .next t ∧ Unchanged s t) ∧
    (∀ bytes : Vector Byte 18, l.st = .beacon → l.rx = .collect →
      checkOk 16 (if l.polarity = .inverted then bytes.toList.map (fun b => ~~~b) else bytes.toList) = false →
      ∃ t, exec (.beaconFrame p i bytes) s = .next t ∧
        t.port p = c.setLane i { l with rx := .hunt, beaconErrs := min (l.beaconErrs + 1) 65535 } ∧ OnlyPort p s t ∧
        t.out = []) ∧
    (∀ bytes : Vector Byte 18, (l.st ≠ .beacon ∨ l.rx = .hunt) →
      ∃ t, exec (.beaconFrame p i bytes) s = .next t ∧ Unchanged s t) ∧
    (∀ bytes : Vector Byte 8, l.st = .locked → checkOk 6 bytes.toList = false →
      ∃ t, exec (.trainingWord p i bytes) s = .next t ∧
        t.port p = c.setLane i { l with beaconErrs := min (l.beaconErrs + 1) 65535 } ∧ OnlyPort p s t ∧ t.out = []) ∧
    ∀ bytes : Vector Byte 8, l.st ≠ .locked → ∃ t, exec (.trainingWord p i bytes) s = .next t ∧ Unchanged s t

/-- R18, R20, R25, R45 to R49, R54, R85, R86: a beacon dropped for its content leaves all but the receiver; a valid
one makes the candidate, the repeat count, the far identity and the negotiation record. It does no more on a lane that
is not present, in a state that waits for no beacon, at a port HELD for a reason that the beacon does not lift, in
SIGNAL while the test of R18 is not met, nor, without a mark, in DARK, in the EPOCH_WAIT wait or HELD for a cabling
reason. In SIGNAL a REJECT, or a HELD without a cabling reason, holds the port with FAR_HELD (before any test of R18:
log 14), and a HELD with a cabling reason is taken as any other beacon (log 14). A lane newly identified takes a port
in DARK back to SIGNAL with a fresh window; a HELLO of attempt 0, and no other beacon, lifts FAR_HELD and
FAR_REJECTED. -/
def Obligations.ValidBeaconsMakeTheLaneRecord : Prop :=
  ∀ (p : PortNo) (i : LaneNo) (bytes : Vector Byte 18) (s : State), s.hold = .released →
    let c := s.port p
    let l := c.lane i
    let frame := if l.polarity = .inverted then bytes.toList.map (fun b => ~~~b) else bytes.toList
    l.st = .beacon → l.rx = .collect → checkOk 16 frame = true →
    (beaconOf frame = none → ∃ t, exec (.beaconFrame p i bytes) s = .next t ∧
      t.port p = c.setLane i { l with rx := .hunt } ∧ OnlyPort p s t ∧ t.out = []) ∧
    (∀ r b, beaconOf frame = some r → r.beacon = some b →
      let n := if l.cand = some b.sender then min (l.rep + 1) 2 else 1
      let d := c.setLane i { l with
        rx := .hunt, cand := some b.sender, rep := n, far := if n = 2 then some b.sender else l.far, neg := some r }
      let noMark := n ≠ 2 ∨ l.far = some b.sender
      let lifts := (c.holdReason = .farHeld ∨ c.holdReason = .farRejected) ∧ r.phase = .hello ∧ r.attempt = 0
      let holds := r.phase = .reject ∨ HoldsFarEnd r
      ((c.isPresent i = false ∨ c.st ≠ .signal ∧ c.st ≠ .dark ∧ c.st ≠ .agree ∧ c.st ≠ .held ∨
          c.st = .held ∧ c.holdReason.cabling = false ∧ ¬ lifts ∨ c.st = .held ∧ c.holdReason.cabling = true ∧ noMark ∨
          c.st = .dark ∧ (n ≠ 2 ∨ l.far ≠ none) ∨ c.st = .signal ∧ ¬ holds ∧
            if c.verdict = .epochWait then noMark else ¬ FarEndSeesUs (s.env p) d) →
        ∃ t, exec (.beaconFrame p i bytes) s = .next t ∧ t.port p = d ∧ OnlyPort p s t ∧ t.out = []) ∧
      (c.st = .signal → c.isPresent i = true → holds →
        ∃ t, exec (.beaconFrame p i bytes) s = .next t ∧ IsHeld .farHeld c (t.port p) ∧ Reported p 2 s t ∧
          PortEventFrame p s t) ∧
      (c.st = .dark → c.isPresent i = true → n = 2 → l.far = none → ¬ FarEndSeesUs (s.env p) d →
        ∃ t, exec (.beaconFrame p i bytes) s = .next t ∧
          t.port p = { d.closeTest with
            st := .signal, sub := none, phaseTimer := some s.we.cfg.signalWindow, burst := none,
            holdReason := .noReason, lowPower := false, modReset := false, phase := .hello, phaseReason := .noReason } ∧
          OnlyPort p s t ∧ t.out = [])) ∧
    ∀ r b, beaconOf frame = some r → r.beacon = some b → c.st = .held → c.isPresent i = true →
      (c.holdReason = .farHeld ∨ c.holdReason = .farRejected) → r.phase = .hello → r.attempt = 0 →
      ∃ t, exec (.beaconFrame p i bytes) s = .next t ∧ IsSignal s.we.cfg c (t.port p) ∧ t.rep = s.rep ∧
        PortEventFrame p s t

/-- R18, R20, R25, R71, R72, R79, R84 to R87, R89: what a beacon that runs verification does. In SIGNAL outside the
wait it is the one that identifies the last present lane and says that the far end hears this port; in DARK the one
that does so on the return to SIGNAL; both run on the present lanes. In the EPOCH_WAIT wait, and in HELD for a cabling
reason, it is each beacon that identifies a lane or changes its far identity, on the lanes then identified. A HELD
beacon with a cabling reason runs it as any other does (log 14). -/
def Obligations.FullIdentificationRunsVerification : Prop :=
  ∀ (p : PortNo) (i : LaneNo) (bytes : Vector Byte 18) (s : State) (r : NegRecord) (b : BeaconPart) (far : CableEnd),
    s.hold = .released →
    let l := (s.port p).lane i
    let frame := if l.polarity = .inverted then bytes.toList.map (fun x => ~~~x) else bytes.toList
    let c := (s.port p).setLane i ({ l with rx := .hunt }.hear b.sender r)
    let identified := l.cand = some b.sender ∧ 1 ≤ l.rep ∧ l.far = none
    let changed := l.cand = some b.sender ∧ 1 ≤ l.rep ∧ l.far ≠ none ∧ l.far ≠ some b.sender
    l.st = .beacon → l.rx = .collect → checkOk 16 frame = true → beaconOf frame = some r → r.beacon = some b →
    c.isPresent i = true →
    let holds := r.phase = .reject ∨ HoldsFarEnd r
    (c.st = .signal → c.verdict ≠ .epochWait → ¬ holds → FarEndSeesUs (s.env p) c →
      c.farIdentity c.presentSet = some far →
      ∃ t, exec (.beaconFrame p i bytes) s = .next t ∧ VerificationRan false p c c.presentSet far s t) ∧
    (c.st = .dark → c.verdict ≠ .epochWait → identified → FarEndSeesUs (s.env p) c →
      c.farIdentity c.presentSet = some far →
      ∃ t, exec (.beaconFrame p i bytes) s = .next t ∧ VerificationRan false p c c.presentSet far s t) ∧
    (c.st = .signal → c.verdict = .epochWait → ¬ holds → (identified ∨ changed) →
      c.farIdentity c.identifiedSet = some far →
      ∃ t, exec (.beaconFrame p i bytes) s = .next t ∧ VerificationRan true p c c.identifiedSet far s t) ∧
    (c.st = .held → c.holdReason.cabling = true → (identified ∨ changed) → c.farIdentity c.identifiedSet = some far →
      ∃ t, exec (.beaconFrame p i bytes) s = .next t ∧ VerifiedInHeld p c c.identifiedSet far s t)

/-- R22, R36, R51, R92, R99, R100, R104, R105, R107, R108: a training word that is not one of the five phases, or not
from the lane's far lane, is dropped; one that is taken renews the record. Of the far end's words of the current
attempt, HELD takes the port to HELD with FAR_HELD; RETRY takes a follower back to AGREE, where it examines the first
proposal that its present lanes hold already; COMMIT takes a follower in CONFIRM to ACTIVE, and through it to a drop
when a set lane has no lock; TRAINING starts the phase wait of CONFIRM again; the others do no more. That the drop
follows the entry into ACTIVE as an event of its own is log 29. -/
def Obligations.TrainingWordsActByPhase : Prop :=
  ∀ (p : PortNo) (i : LaneNo) (bytes : Vector Byte 8) (s : State), s.hold = .released →
    let c := s.port p
    let l := c.lane i
    let w := bytes.toList
    l.st = .locked → checkOk 6 w = true →
    ((Phase.ofWord (byteAt w 0) = none ∨ ∃ f, l.far = some f ∧ (byteAt w 4).toNat ≠ f.lane.toNat) →
      ∃ t, exec (.trainingWord p i bytes) s = .next t ∧ Unchanged s t) ∧
    (∀ ph, Phase.ofWord (byteAt w 0) = some ph → (∀ f, l.far = some f → (byteAt w 4).toNat = f.lane.toNat) →
      let r : NegRecord := ⟨ph, byteAt w 1, (byteAt w 2).extractLsb' 0 4, byteAt w 3, l.neg.bind NegRecord.beacon⟩
      let d := c.setLane i { l with neg := some r }
      let attempting := c.st = .train ∨ c.st = .qualify ∨ c.st = .confirm
      let masked := fun j => hasLane c.laneSet j = true ∧ hasLane c.good j = true ∧
        ∃ f, c.laneMap[j] = some f ∧ r.good.getLsbD f.toNat = true
      ((c.role = .self ∨ c.role = .noRole ∨ r.attempt ≠ c.attempt ∨ ¬ attempting ∨
          (∀ b, r.beacon = some b → c.far ≠ some ⟨b.sender.chassis, b.sender.port⟩) ∨
          (c.role = .lead ∧ (ph = .commit ∨ ph = .retry)) ∨ (c.role = .follow ∧ ph = .result) ∨
          ((c.st ≠ .confirm ∨ c.phase ≠ .result) ∧ (ph = .training ∨ ph = .result)) ∨
          (c.st ≠ .confirm ∧ ph = .commit)) →
        ∃ t, exec (.trainingWord p i bytes) s = .next t ∧ t.port p = d ∧ OnlyPort p s t ∧ t.out = []) ∧
      (∀ b, r.beacon = some b → c.far = some ⟨b.sender.chassis, b.sender.port⟩ → r.attempt = c.attempt →
        c.st = .confirm → c.phase = .result → (c.role = .lead ∨ c.role = .follow) → ph = .training →
        ∃ t, exec (.trainingWord p i bytes) s = .next t ∧
          t.port p = { d with phaseTimer := some s.we.cfg.phaseWait } ∧ OnlyPort p s t ∧ t.out = []) ∧
      (∀ b, r.beacon = some b → c.far = some ⟨b.sender.chassis, b.sender.port⟩ → r.attempt = c.attempt → attempting →
        c.role = .follow → ph = .retry →
        ∃ t, exec (.trainingWord p i bytes) s = .next t ∧ FollowerAgrees s.we.cfg d (t.port p) ∧
          (c.st ≠ .confirm → (t.port p).good = c.good) ∧
          (c.st = .confirm → ∀ j, hasLane (t.port p).good j = true ↔ masked j) ∧ OnlyPort p s t) ∧
      (∀ b, r.beacon = some b → c.far = some ⟨b.sender.chassis, b.sender.port⟩ → r.attempt = c.attempt →
        attempting → (c.role = .lead ∨ c.role = .follow) → ph = .heldWord →
        ∃ t, exec (.trainingWord p i bytes) s = .next t ∧ IsHeld .farHeld c (t.port p) ∧ Reported p 2 s t ∧
          PortEventFrame p s t) ∧
      (∀ b, r.beacon = some b → c.far = some ⟨b.sender.chassis, b.sender.port⟩ → r.attempt = c.attempt →
        c.st = .confirm → c.role = .follow → ph = .commit →
        (SetLocked c → ∃ t, exec (.trainingWord p i bytes) s = .next t ∧ IsActive s.we.cfg c (t.port p) ∧
          (∀ j, hasLane (t.port p).good j = true ↔ masked j) ∧ Reported p 2 s t ∧ PortEventFrame p s t) ∧
        (¬ SetLocked c → ∃ t, exec (.trainingWord p i bytes) s = .next t ∧ ActiveThenDropped p c s t)))

/-- R52, R105, R120, R124, R125, R127, R130: line errors are counted in every lane state, and on a running lane in its
E; past E_allow the lane fails at once with EARLY, and a drop-on-fail LANE_TEST ends: its other running lanes get what
a stop gives, its job completes with OK (before the report's read: log 8), and the port enters HELD with TEST_FAILED.
When no lane runs on, a bring-up test takes its port to CONFIRM, and a LANE_TEST ends. That errors after a test has
ended do not add to the E of a lane without a verdict is log 20. -/
def Obligations.LineErrorsAreCounted : Prop :=
  ∀ (p : PortNo) (i : LaneNo) (n : Nat) (s : State), s.hold = .released → 1 ≤ n →
    let c := s.port p
    let l := c.lane i
    let errs := min (l.lineErrs + n) 4294967295
    ((c.test = none ∨ (∃ T, c.test = some T ∧ (T.ended = true ∨ hasLane T.lanes i = false)) ∨ l.test = none ∨
        ∃ r v, l.test = some r ∧ r.given = some v) →
      ∃ t, exec (.lineErrorIncrement p i n) s = .next t ∧ t.port p = c.setLane i { l with lineErrs := errs } ∧
        OnlyPort p s t ∧ t.out = []) ∧
    (∀ T e, c.test = some T → T.ended = false → hasLane T.lanes i = true → l.test = some ⟨e, none⟩ →
      let e' := min (e + n) 4294967295
      ((T.eAllow = none ∨ ∃ a, T.eAllow = some a ∧ e' ≤ a) →
        ∃ t, exec (.lineErrorIncrement p i n) s = .next t ∧
          t.port p = c.setLane i { l with lineErrs := errs, test := some ⟨e', none⟩ } ∧ OnlyPort p s t ∧
          t.out = []) ∧
      (∀ a, T.eAllow = some a → a < e' → T.dropOnFail = false →
        (∃ j e₂, j ≠ i ∧ hasLane T.lanes j = true ∧ (c.lane j).test = some ⟨e₂, none⟩) →
        ∃ t, exec (.lineErrorIncrement p i n) s = .next t ∧
          t.port p = c.setLane i { l with
            lineErrs := errs,
            test := some ⟨e', some ⟨.fail, T.grade.bitsPerMs * T.elapsed,
              demonstrated e' (T.grade.bitsPerMs * T.elapsed), true⟩⟩ } ∧
          OnlyPort p s t ∧ t.out = []) ∧
      (∀ a, T.eAllow = some a → a < e' → T.kind = .bringUp → c.st = .qualify → WaitsForResult c →
        (∀ j e₂, j ≠ i → hasLane T.lanes j = true → (c.lane j).test ≠ some ⟨e₂, none⟩) →
        ∃ t, exec (.lineErrorIncrement p i n) s = .next t ∧ IsConfirm s.we.cfg c (t.port p) ∧
          (t.port p).test = some { T with ended := true } ∧
          (t.port p).lane i = { l with
            lineErrs := errs,
            test := some ⟨e', some ⟨.fail, T.grade.bitsPerMs * T.elapsed,
              demonstrated e' (T.grade.bitsPerMs * T.elapsed), true⟩⟩ } ∧
          (∀ j, j ≠ i → (t.port p).lane j = c.lane j) ∧ OnlyPort p s t ∧ t.out = []) ∧
      (∀ (a : Nat) (k : Fin 16) (tag : JobTag), T.eAllow = some a → a < e' → T.dropOnFail = false →
        (∀ j e₂, j ≠ i → hasLane T.lanes j = true → (c.lane j).test ≠ some ⟨e₂, none⟩) →
        TestRuns s p T k tag →
        ∃ t, exec (.lineErrorIncrement p i n) s = .next t ∧ (t.port p).st = c.st ∧
          (t.port p).test = some { T with ended := true } ∧ (t.port p).testTimer = none ∧
          ((t.port p).lane i).test = some ⟨e', some ⟨.fail, T.grade.bitsPerMs * T.elapsed,
            demonstrated e' (T.grade.bitsPerMs * T.elapsed), true⟩⟩ ∧
          (∀ j, j ≠ i → (t.port p).lane j = c.lane j) ∧
          JobCompleted s t s.mm.ops tag (bufferOp tag.bufAddr (t.port p).results) .ok (laneCount T.lanes) ∧
          t.we.slots = s.we.slots.set k none ∧ t.rep = s.rep ∧ PortEventFrame p s t) ∧
      (∀ a, T.eAllow = some a → a < e' → T.kind = .laneTest → T.dropOnFail = true →
        ∃ t, exec (.lineErrorIncrement p i n) s = .next t ∧ IsHeld .testFailed c (t.port p) ∧ Reported p 2 s t ∧
          ((t.port p).lane i).lineErrs = errs ∧
          ((t.port p).lane i).test = some ⟨e', some ⟨.fail, T.grade.bitsPerMs * T.elapsed,
            demonstrated e' (T.grade.bitsPerMs * T.elapsed), true⟩⟩ ∧
          LaneTestEnded p (c.setLane i { l with
            lineErrs := errs,
            test := some ⟨e', some ⟨.fail, T.grade.bitsPerMs * T.elapsed,
              demonstrated e' (T.grade.bitsPerMs * T.elapsed), true⟩⟩ }) stopGives .ok s.mm.ops s t ∧
          PortEventFrame p s t))

/-! ## Agreement and confirmation on what a lane hears -/

/-- R92, R98, R100, R101, R110: in AGREE, a record that R92 sets aside changes nothing but the lane's record: one
whose sender is not the far end, any at a SELF port, a HELD with a cabling reason, an attempt or a phase that the role
does not take, an ACCEPT of another grade, a GO before an ACCEPT, a PROPOSE during a REJECT burst. HELD and REJECT
hold the port; a lead answers the ACCEPT of its proposal with GO; a follower answers a proposal with ACCEPT or REJECT
and enters TRAIN on GO. That a rejected proposal leaves no earlier agreed grade and lane set is log 35. -/
def Obligations.AgreementRecordsActByPhase : Prop :=
  ∀ (p : PortNo) (i : LaneNo) (bytes : Vector Byte 18) (s : State) (r : NegRecord) (b : BeaconPart),
    s.hold = .released →
    let l := (s.port p).lane i
    let frame := if l.polarity = .inverted then bytes.toList.map (fun x => ~~~x) else bytes.toList
    let c := (s.port p).setLane i ({ l with rx := .hunt }.hear b.sender r)
    let far : CableEnd := ⟨b.sender.chassis, b.sender.port⟩
    let M := c.mappedInto 0b1111 b.propSet
    let fits := fun g => hasGrade c.capGrades g = true ∧ laneCount M = laneCount b.propSet ∧
      subset M c.usable = true ∧ hasWidth c.capWidths (laneCount b.propSet) = true
    l.st = .beacon → l.rx = .collect → checkOk 16 frame = true → beaconOf frame = some r → r.beacon = some b →
    c.st = .agree → c.isPresent i = true →
    let takenByLead := HoldsFarEnd r ∨ r.attempt = c.attempt ∧ (r.phase = .reject ∨ r.phase = .accept ∧
      c.phase = .propose ∧ ∃ g, c.agreed = some g ∧ b.propGrade.toNat = g.num)
    let takenByFollower := HoldsFarEnd r ∨ r.phase = .propose ∧ c.attempt < r.attempt ∧ c.phase ≠ .reject ∨
      r.phase = .go ∧ r.attempt = c.attempt ∧ c.phase = .accept
    ((c.far ≠ some far ∨ c.role = .self ∨ c.role = .noRole ∨ (c.role = .lead ∧ ¬ takenByLead) ∨
        (c.role = .follow ∧ ¬ takenByFollower)) →
      ∃ t, exec (.beaconFrame p i bytes) s = .next t ∧ t.port p = c ∧ OnlyPort p s t ∧ t.out = []) ∧
    (c.far = some far → (c.role = .lead ∨ c.role = .follow) → HoldsFarEnd r →
      ∃ t, exec (.beaconFrame p i bytes) s = .next t ∧ IsHeld .farHeld c (t.port p) ∧ Reported p 2 s t ∧
        PortEventFrame p s t) ∧
    (c.far = some far → c.role = .lead → r.phase = .reject → r.attempt = c.attempt →
      ∃ t, exec (.beaconFrame p i bytes) s = .next t ∧ IsHeld .farRejected c (t.port p) ∧ Reported p 2 s t ∧
        PortEventFrame p s t) ∧
    (∀ g, c.far = some far → c.role = .lead → r.phase = .accept → r.attempt = c.attempt → c.phase = .propose →
      c.agreed = some g → b.propGrade.toNat = g.num →
      ∃ t, exec (.beaconFrame p i bytes) s = .next t ∧
        t.port p = { c with
          phase := .go, phaseReason := .noReason, burst := some 4, phaseTimer := some s.we.cfg.phaseWait } ∧
        OnlyPort p s t ∧ t.out = []) ∧
    (∀ g, c.far = some far → c.role = .follow → r.phase = .propose → c.attempt < r.attempt → c.phase ≠ .reject →
      b.propGrade.toNat = g.num → fits g →
      ∃ t, exec (.beaconFrame p i bytes) s = .next t ∧
        t.port p = { c with
          attempt := r.attempt, agreed := some g, laneSet := M, phase := .accept, phaseReason := .noReason,
          burst := none, phaseTimer := some s.we.cfg.phaseWait } ∧
        OnlyPort p s t ∧ t.out = []) ∧
    (c.far = some far → c.role = .follow → r.phase = .propose → c.attempt < r.attempt → c.phase ≠ .reject →
      (∀ g : Grade, b.propGrade.toNat = g.num → ¬ fits g) →
      ∃ t, exec (.beaconFrame p i bytes) s = .next t ∧
        t.port p = { c with
          attempt := r.attempt, agreed := none, laneSet := 0, phase := .reject, phaseReason := .agreeConflict,
          burst := some 4, phaseTimer := some s.we.cfg.phaseWait } ∧
        OnlyPort p s t ∧ t.out = []) ∧
    (∀ g, c.far = some far → c.role = .follow → r.phase = .go → r.attempt = c.attempt → c.phase = .accept →
      c.agreed = some g →
      ∃ t, exec (.beaconFrame p i bytes) s = .next t ∧ IsTrain s.we.cfg c (t.port p) ∧ OnlyPort p s t)

/-- R92, R96, R105, R106: in CONFIRM a lead decides on the far end's RESULT: COMMIT when every set lane is good both
ways, and else it closes the attempt and answers HELD or RETRY. -/
def Obligations.TheLeadDecidesOnTheResult : Prop :=
  ∀ (p : PortNo) (i : LaneNo) (bytes : Vector Byte 8) (s : State) (b : BeaconPart), s.hold = .released →
    let l := (s.port p).lane i
    let w := bytes.toList
    let F : LaneSet := (byteAt w 2).extractLsb' 0 4
    let c := (s.port p).setLane i { l with neg := some ⟨.result, byteAt w 1, F, byteAt w 3, some b⟩ }
    l.st = .locked → checkOk 6 w = true → byteAt w 0 = 0x12 → (∀ f, l.far = some f → (byteAt w 4).toNat = f.lane.toNat) →
    l.neg.bind NegRecord.beacon = some b → c.far = some ⟨b.sender.chassis, b.sender.port⟩ → byteAt w 1 = c.attempt →
    c.st = .confirm → c.role = .lead → c.phase = .result →
    ∃ t, exec (.trainingWord p i bytes) s = .next t ∧ OnlyPort p s t ∧ t.out = [] ∧ Decided s.we.cfg c F (t.port p)

/-! ## Sending and bursts -/

/-- R38 to R40, R50: at a send instant the clock starts again, each BEACON lane sends a beacon and each LOCKED lane a
training word, and a burst counter goes down by one when a lane has sent. The row acts when the clock is due (log 1).
-/
def Obligations.SendInstantsSendFrames : Prop :=
  ∀ (p : PortNo) (s : State), s.hold = .released →
    let c := s.port p
    (c.sendClock ≠ some 0 → ∃ t, exec (.sendInstant p) s = .next t ∧ Unchanged s t) ∧
    (c.sendClock = some 0 → ∃ t, exec (.sendInstant p) s = .next t ∧
      t.port p = { c with
        sendClock := some s.we.cfg.beaconInterval
        burst := if ∃ i, (c.lane i).st = .beacon ∨ (c.lane i).st = .locked then c.burst.map (· - 1) else c.burst } ∧
      OnlyPort p s t ∧
      t.out = [0, 1, 2, 3].flatMap fun i : LaneNo =>
        if (c.lane i).st = .beacon then [Out.beacon p i (c.beaconBytes (s.env p) i)]
        else if (c.lane i).st = .locked then [Out.word p i (c.wordBytes i)]
        else [])

/-- R22, R36, R40, R98, R101, R106, R110: the end of a burst by its phase: GO leads to TRAIN, REJECT to HELD, COMMIT
to ACTIVE, and through it to a drop when a set lane has no lock, RETRY to a new attempt, HELD to HELD with its reason.
A BURST_SENT with no burst at its end changes nothing (log 1); that the drop follows the entry into ACTIVE as an event
of its own is log 29. -/
def Obligations.BurstsEndByTheirPhase : Prop :=
  ∀ (p : PortNo) (s : State), s.hold = .released →
    let c := s.port p
    (c.burst ≠ some 0 → ∃ t, exec (.burstSent p) s = .next t ∧ Unchanged s t) ∧
    (∀ g, c.burst = some 0 → c.st = .agree → c.phase = .go → c.agreed = some g →
      ∃ t, exec (.burstSent p) s = .next t ∧ IsTrain s.we.cfg c (t.port p) ∧ OnlyPort p s t) ∧
    (c.burst = some 0 → c.st = .agree → c.phase = .reject →
      ∃ t, exec (.burstSent p) s = .next t ∧ IsHeld .agreeConflict c (t.port p) ∧ Reported p 2 s t ∧
        PortEventFrame p s t) ∧
    (c.burst = some 0 → c.st = .confirm → c.phase = .commit → SetLocked c →
      ∃ t, exec (.burstSent p) s = .next t ∧ IsActive s.we.cfg c (t.port p) ∧ Reported p 2 s t ∧
        PortEventFrame p s t) ∧
    (c.burst = some 0 → c.st = .confirm → c.phase = .commit → ¬ SetLocked c →
      ∃ t, exec (.burstSent p) s = .next t ∧ ActiveThenDropped p c s t) ∧
    (c.burst = some 0 → c.st = .confirm → c.phase = .retry → c.role = .lead →
      ∃ t, exec (.burstSent p) s = .next t ∧ LeadEntersAgree p c s t) ∧
    (c.burst = some 0 → c.st = .confirm → c.phase = .retry → c.role = .self →
      ∃ t, exec (.burstSent p) s = .next t ∧ SelfEntersAgree p c s t) ∧
    (c.burst = some 0 → c.st = .confirm → c.phase = .heldWord →
      ∃ t, exec (.burstSent p) s = .next t ∧ IsHeld c.phaseReason c (t.port p) ∧ Reported p 2 s t ∧
        PortEventFrame p s t)

/-! ## Timers of a port -/

/-- R11, R12, R133, R134, R135, R141: the reset pulse is followed by the settle time, and that by the identity read:
it waits while the bus is busy, begins at an idle bus, and fails at once on a stuck branch. The rows act when the
timer is due (log 1); the layout of the device address byte is log 41, the form in which a try shows log 31. -/
def Obligations.ResetAndSettleLeadToTheIdentityRead : Prop :=
  ∀ (p : PortNo) (s : State), s.hold = .released →
    let c := s.port p
    let d := { c with sub := some .reading, phaseTimer := none }
    (c.st = .identify → c.sub = some .resetting → c.phaseTimer = some 0 → exec (.resetPulseExpiry p) s =
      .next { s.setPort p { c with modReset := false, sub := some .settling, phaseTimer := some s.we.cfg.settle } with
        out := [] }) ∧
    ((c.st ≠ .identify ∨ c.sub ≠ some .resetting ∨ c.phaseTimer ≠ some 0) →
      ∃ t, exec (.resetPulseExpiry p) s = .next t ∧ Unchanged s t) ∧
    ((c.st ≠ .identify ∨ c.sub ≠ some .settling ∨ c.phaseTimer ≠ some 0) →
      ∃ t, exec (.settleExpiry p) s = .next t ∧ Unchanged s t) ∧
    (c.st = .identify → c.sub = some .settling → c.phaseTimer = some 0 →
      (s.bus.st ≠ .idle → exec (.settleExpiry p) s = .next { s.setPort p d with
        arb := { s.arb with requests := s.arb.requests.set p true }, out := [] }) ∧
      (s.bus.st = .idle → NothingWaits s → s.bus.stuck[p] = false →
        exec (.settleExpiry p) s = .next { s.setPort p d with
          bus := BusGranted s .port p ⟨false, 0x56, 0, 0, 32, []⟩
          arb := { s.arb with rotation := p, since := min (s.arb.since + 1) 255 }
          out := [.busTry ([.start, .send 0xAC, .send 0, .send 0, .restart, .send 0xAD] ++
            (List.replicate 31 [BusAct.receive, .ack]).flatten ++ [.receive, .nack, .stop])] }) ∧
      (s.bus.st = .idle → NothingWaits s → s.bus.stuck[p] = true →
        ∃ t, exec (.settleExpiry p) s = .next t ∧ IsHeld .moduleUnreadable c (t.port p) ∧ Reported p 2 s t ∧
          t.bus = s.bus ∧ t.arb = { s.arb with rotation := p, since := min (s.arb.since + 1) 255 } ∧
          t.cache = s.cache ∧ SameOtherPorts p s t ∧ SameBase s t ∧ SameWindow s t ∧ SameEngine s t ∧
          ListGrows s t))

/-- R19, R20, R72, R83: at the end of the signal window a port that has identified no present lane goes DARK, one that
hears but is not seen is held with ONE_WAY, and one that is seen runs verification on what it hears. The row acts when
the window is due (log 1). -/
def Obligations.TheSignalWindowDecides : Prop :=
  ∀ (p : PortNo) (s : State), s.hold = .released →
    let c := s.port p
    ((c.st ≠ .signal ∨ c.phaseTimer ≠ some 0) →
      ∃ t, exec (.signalWindowExpiry p) s = .next t ∧ Unchanged s t) ∧
    (c.st = .signal → c.phaseTimer = some 0 → (∀ i, c.isPresent i = true → (c.lane i).far = none) →
      ∃ t, exec (.signalWindowExpiry p) s = .next t ∧
        t.port p = { c.closeTest with
          st := .dark, sub := none, phaseTimer := none, burst := none, holdReason := .noReason, lowPower := false,
          modReset := false, phase := .hello, phaseReason := .noReason } ∧
        Reported p 2 s t ∧ PortEventFrame p s t ∧ t.we = s.we ∧ t.out = []) ∧
    (c.st = .signal → c.phaseTimer = some 0 → (∃ i, c.isPresent i = true ∧ (c.lane i).far ≠ none) →
      (∀ i b, c.isPresent i = true → (c.lane i).far ≠ none → (c.lane i).beaconPart = some b → b.seenPort = 0xFF) →
      ∃ t, exec (.signalWindowExpiry p) s = .next t ∧ IsHeld .oneWay c (t.port p) ∧ (t.port p).verdict = .oneWay ∧
        (t.port p).far = c.farIdentity c.heardSet ∧ (t.port p).usable = 0 ∧ (t.port p).role = .noRole ∧
        (t.port p).laneMap = c.observe c.heardSet ∧ Reported p 6 s t ∧ PortEventFrame p s t) ∧
    ∀ far i b, c.st = .signal → c.verdict ≠ .epochWait → c.phaseTimer = some 0 →
      c.farIdentity c.heardSet = some far → c.isPresent i = true → (c.lane i).far ≠ none →
      (c.lane i).beaconPart = some b → b.seenPort ≠ 0xFF →
      ∃ t, exec (.signalWindowExpiry p) s = .next t ∧ VerificationRan false p c c.heardSet far s t

/-- R96, R98 to R101, R107, R110: the phase wait over, a follower in AGREE begins again from SIGNAL, or is held when
it has answered REJECT; a follower in CONFIRM goes back to AGREE, where it examines the first proposal that its
present lanes hold, or waits for one; a lead or SELF port makes its next attempt, or in CONFIRM, before its decision
or during a COMMIT burst, closes the attempt with no lane good. The row acts when the timer is due (log 1); that the
good mask is then empty is log 36. -/
def Obligations.PhaseWaitsExpire : Prop :=
  ∀ (p : PortNo) (s : State), s.hold = .released →
    let c := s.port p
    ((c.phaseTimer ≠ some 0 ∨ (c.st ≠ .agree ∧ c.st ≠ .confirm)) →
      ∃ t, exec (.phaseWaitExpiry p) s = .next t ∧ Unchanged s t) ∧
    (c.phaseTimer = some 0 → c.st = .agree → c.role = .follow → c.phase ≠ .reject →
      ∃ t, exec (.phaseWaitExpiry p) s = .next t ∧ IsSignal s.we.cfg c (t.port p) ∧ OnlyPort p s t) ∧
    (c.phaseTimer = some 0 → c.st = .agree → c.role = .follow → c.phase = .reject →
      ∃ t, exec (.phaseWaitExpiry p) s = .next t ∧ IsHeld .agreeConflict c (t.port p) ∧ Reported p 2 s t ∧
        PortEventFrame p s t) ∧
    (c.phaseTimer = some 0 → (c.st = .agree ∨ (c.st = .confirm ∧ c.phase = .retry)) → c.role = .lead →
      ∃ t, exec (.phaseWaitExpiry p) s = .next t ∧ LeadEntersAgree p c s t) ∧
    (c.phaseTimer = some 0 → (c.st = .agree ∨ (c.st = .confirm ∧ c.phase = .retry)) → c.role = .self →
      ∃ t, exec (.phaseWaitExpiry p) s = .next t ∧ SelfEntersAgree p c s t) ∧
    (c.phaseTimer = some 0 → c.st = .confirm → c.role = .follow →
      ∃ t, exec (.phaseWaitExpiry p) s = .next t ∧ FollowerAgrees s.we.cfg c (t.port p) ∧
        (t.port p).good = c.good ∧ OnlyPort p s t) ∧
    (c.phaseTimer = some 0 → c.st = .confirm → (c.role = .lead ∨ c.role = .self) → c.phase = .heldWord →
      ∃ t, exec (.phaseWaitExpiry p) s = .next t ∧ IsHeld c.phaseReason c (t.port p) ∧ Reported p 2 s t ∧
        PortEventFrame p s t) ∧
    (c.phaseTimer = some 0 → c.st = .confirm → (c.role = .lead ∨ c.role = .self) →
      (c.phase = .result ∨ c.phase = .commit) →
      ∃ t, exec (.phaseWaitExpiry p) s = .next t ∧ OnlyPort p s t ∧ t.out = [] ∧
        AttemptClosed s.we.cfg c 0 (t.port p))

/-- R96, R102 to R104, R110, R114: the train timeout fails the set lanes still TRAINING; with a set lane LOCKED the
port enters QUALIFY at its plan's target and dwell or the defaults, and with none the attempt has failed. The row acts
when the timer is due (log 1). -/
def Obligations.TheTrainTimeoutFailsTrainingLanes : Prop :=
  ∀ (p : PortNo) (s : State), s.hold = .released →
    let c := s.port p
    let locked := fun j => hasLane c.laneSet j && (c.lane j).st = .locked
    ((c.st ≠ .train ∨ c.phaseTimer ≠ some 0) → ∃ t, exec (.trainTimeout p) s = .next t ∧ Unchanged s t) ∧
    (∀ g, c.st = .train → c.phaseTimer = some 0 → c.agreed = some g → (∃ j, locked j = true) →
      ∃ t, exec (.trainTimeout p) s = .next t ∧ IsQualify g c (t.port p) locked ∧
        (∀ j, ((t.port p).lane j).st =
          if hasLane c.laneSet j = true ∧ (c.lane j).st = .training then .failed else (c.lane j).st) ∧
        (c.plan = .unplanned → (t.port p).test = some
          (timedTest .bringUp (lanesWhere locked) g s.we.cfg.defaultTarget s.we.cfg.defaultDwell false)) ∧
        (∀ pc, c.plan = .planned pc → (t.port p).test = some (timedTest .bringUp (lanesWhere locked) g
          (if pc.target = 0 then s.we.cfg.defaultTarget else pc.target.toNat)
          (if pc.dwell = 0 then s.we.cfg.defaultDwell else pc.dwell.toNat) false)) ∧
        OnlyPort p s t) ∧
    (c.st = .train → c.phaseTimer = some 0 → (∀ j, locked j = false) → c.role = .follow →
      ∃ t, exec (.trainTimeout p) s = .next t ∧ IsSignal s.we.cfg c (t.port p) ∧ OnlyPort p s t) ∧
    (c.st = .train → c.phaseTimer = some 0 → (∀ j, locked j = false) → c.role = .lead →
      ∃ t, exec (.trainTimeout p) s = .next t ∧ LeadEntersAgree p (c.closeFailed 0) s t) ∧
    (c.st = .train → c.phaseTimer = some 0 → (∀ j, locked j = false) → c.role = .self →
      ∃ t, exec (.trainTimeout p) s = .next t ∧ SelfEntersAgree p (c.closeFailed 0) s t)

/-! ## Tests -/

/-- R105, R106, R110, R113, R122, R123: at the end of the dwell every lane still running passes, the test ends, and
the port enters CONFIRM with the good set of R105. A port that holds no far RESULT sends its own; a SELF port decides
at once on its own good set, and a lead on the first RESULT of the attempt that a LOCKED set lane holds. The row acts
when the timer is due (log 1). -/
def Obligations.TheDwellEndsTheBringUpTest : Prop :=
  ∀ (p : PortNo) (s : State), s.hold = .released →
    let c := s.port p
    ((c.st ≠ .qualify ∨ c.dwellTimer ≠ some 0) → ∃ t, exec (.dwellExpiry p) s = .next t ∧ Unchanged s t) ∧
    ∀ T, c.st = .qualify → c.dwellTimer = some 0 → c.test = some T → T.ended = false →
      (WaitsForResult c → ∃ t, exec (.dwellExpiry p) s = .next t ∧ IsConfirm s.we.cfg c (t.port p) ∧
        TestClosed c (t.port p) T (fun _ _ => .pass) ∧ OnlyPort p s t ∧ t.out = []) ∧
      (c.role = .self → ∃ t c', exec (.dwellExpiry p) s = .next t ∧ IsConfirm s.we.cfg c c' ∧
        TestClosed c c' T (fun _ _ => .pass) ∧ Decided s.we.cfg c' c'.good (t.port p) ∧ OnlyPort p s t ∧ t.out = []) ∧
      (∀ i r, let heard := fun (j : LaneNo) (q : NegRecord) => hasLane c.laneSet j = true ∧ (c.lane j).st = .locked ∧
          (c.lane j).neg = some q ∧ q.phase = .result ∧ q.attempt = c.attempt ∧
          ∃ b, q.beacon = some b ∧ c.far = some ⟨b.sender.chassis, b.sender.port⟩
        c.role = .lead → heard i r → (∀ j q, j < i → ¬ heard j q) →
        ∃ t c', exec (.dwellExpiry p) s = .next t ∧ IsConfirm s.we.cfg c c' ∧ TestClosed c c' T (fun _ _ => .pass) ∧
          Decided s.we.cfg c' r.good (t.port p) ∧ OnlyPort p s t ∧ t.out = [])

/-- R122, R123, R125, R126, R130, R162, R166: the expiry of its timer ends a LANE_TEST with PASS on the lanes still
running, and saturation ends a continuous one as a stop does, with SATURATED; its job completes with OK, the results
in its buffer and their number, and its slot is free; the results hold one part per lane, in increasing order, laid
out as Formats gives. A row with nothing due changes nothing (log 1, log 2). -/
def Obligations.LaneTestsEndAndComplete : Prop :=
  ((∀ (T : PortTest) (i : LaneNo) (e : Nat) (v : TestVerdict),
     let b := laneResult T i ⟨e, some v⟩
     let code : LaneVerdict → Byte := fun v => match v with
       | .pass => 1 | .fail => 2 | .stopped => 3 | .below => 4 | .lost => 5
     b.length = 24 ∧ (byteAt b 0).toNat = i.val ∧ byteAt b 1 = code v.verdict ∧ (byteAt b 2).toNat = v.q % 256 ∧
     (byteAt b 3).getLsbD 0 = T.extended ∧ (byteAt b 3).getLsbD 1 = T.lowered ∧ (byteAt b 3).getLsbD 2 = T.clamped ∧
     (byteAt b 3).getLsbD 3 = v.early ∧ (byteAt b 3).getLsbD 4 = T.saturated ∧ (byteAt b 3).extractLsb' 5 3 = 0 ∧
     (byteAt b 4).toNat = T.target % 256 ∧ byteAt b 5 = 0 ∧ leField b 6 2 = T.dwell.getD 0 % 2 ^ 16 ∧
     leField b 8 6 = v.n % 2 ^ 48 ∧ leField b 14 4 = e % 2 ^ 32 ∧ leField b 18 6 = 0) ∧
   ∀ (c : Port) (T : PortTest), c.test = some T → c.results = [0, 1, 2, 3].flatMap fun i : LaneNo =>
     if hasLane T.lanes i = true then ((c.lane i).test.map (laneResult T i)).getD [] else []) ∧
  ∀ (p : PortNo) (s : State), s.hold = .released →
    let c := s.port p
    (c.testTimer ≠ some 0 → ∃ t, exec (.testTimerExpiry p) s = .next t ∧ Unchanged s t) ∧
    (∀ (T : PortTest) (k : Fin 16) (tag : JobTag), c.testTimer = some 0 → TestRuns s p T k tag →
      ∃ t, exec (.testTimerExpiry p) s = .next t ∧ TestClosed c (t.port p) T (fun _ _ => .pass) ∧
        (t.port p).st = c.st ∧ SameOtherPorts p s t ∧
        JobCompleted s t s.mm.ops tag (bufferOp tag.bufAddr (t.port p).results) .ok (laneCount T.lanes) ∧
        t.we.slots = s.we.slots.set k none ∧ t.rep = s.rep ∧ SharedFrame s t) ∧
    ((∀ T, c.test = some T → T.kind = .bringUp ∨ T.ended = true ∨ T.dwell ≠ none ∨
        T.elapsed < 281474976710655 / T.grade.bitsPerMs) →
      ∃ t, exec (.testSaturated p) s = .next t ∧ Unchanged s t) ∧
    ∀ (T : PortTest) (k : Fin 16) (tag : JobTag), TestRuns s p T k tag → T.dwell = none →
      281474976710655 / T.grade.bitsPerMs ≤ T.elapsed →
      ∃ t, exec (.testSaturated p) s = .next t ∧
        TestClosed c (t.port p) { T with saturated := true }
          (stopGives T) ∧
        (t.port p).st = c.st ∧ SameOtherPorts p s t ∧
        JobCompleted s t s.mm.ops tag (bufferOp tag.bufAddr (t.port p).results) .ok (laneCount T.lanes) ∧
        t.we.slots = s.we.slots.set k none ∧ t.rep = s.rep ∧ SharedFrame s t

/-! ## Module bus -/

/-- R132, R138 to R140, R168: a watchdog expiry aborts the try and the recovery sequence runs; when it ends, the data
line decides between BUS_TIMEOUT and BUS_STUCK, and the stuck flag is set unless the port-event mark is. A cut
transaction has no outcome. The rows act in their bus state alone (log 2), the first when the watchdog is due (log 1);
bytes done are never above the length (log 22). -/
def Obligations.AbortedTriesAreRecovered : Prop :=
  ∀ s : State, s.hold = .released →
    (∀ n x, s.bus.st = .transfer → s.bus.current = some x → s.bus.watchdog = some 0 →
      exec (.watchdogExpiry n) s = .next { s with
        bus := { s.bus with
          st := .recovery, watchdog := none, current := some { x with bytesDone := min n x.xfer.len } }
        out := [.busRecovery] }) ∧
    (∀ n, (s.bus.st ≠ .transfer ∨ s.bus.current = none ∨ s.bus.watchdog ≠ some 0) →
      ∃ t, exec (.watchdogExpiry n) s = .next t ∧ Unchanged s t) ∧
    (∀ high, (s.bus.st ≠ .recovery ∨ s.bus.current = none) →
      ∃ t, exec (.recoveryEnd high) s = .next t ∧ Unchanged s t) ∧
    ∀ high x, s.bus.st = .recovery → s.bus.current = some x → NothingWaits s →
      let stuck := if high = false ∧ x.portEvent = false then s.bus.stuck.set x.port true else s.bus.stuck
      let st := if high then Status.busTimeout else Status.busStuck
      (x.cut = true → exec (.recoveryEnd high) s =
        .next { s with bus := { BusReleased s with stuck := stuck }, out := [] }) ∧
      (∀ tag, x.cut = false → x.requester = .job tag →
        ∃ t, exec (.recoveryEnd high) s = .next t ∧ JobEnded s t x tag [] st x.bytesDone ∧
          t.bus = { BusReleased s with stuck := stuck }) ∧
      (x.cut = false → x.requester = .port → (s.port x.port).st = .identify →
        (s.port x.port).sub = some .reading →
        ∃ t, exec (.recoveryEnd high) s = .next t ∧ IsHeld .moduleUnreadable (s.port x.port) (t.port x.port) ∧
          Reported x.port 2 s t ∧ t.bus = { BusReleased s with stuck := stuck } ∧ t.cache = s.cache ∧
          ReadEndFrame x.port s t)

/-- R135, R136, R137, R138, R168: what a try is on the bus; an address NACK starts a new try while tries are left, and
else ends the transaction with NO_ACK; a byte NACK ends it with NO_ACK at once, its bytes done the data bytes
acknowledged; a completed try ends it with OK. A job's descriptor gets the outcome, NO_MODULE when presence was lost,
and an OK read its bytes. The layout of the device address byte is log 41, the form in which a try shows log 31; that
the rows change nothing outside TRANSFER is log 2, and that a count stays below the length log 22. -/
def Obligations.JobsAtTheBusEndWithTheirOutcome : Prop :=
  (∀ x : Transfer,
    let device := fun read : Bool => BusAct.send (x.device ++ BitVec.ofBool read : BitVec 8)
    (x.isWrite = true → x.tryActs =
      [.start, device false, .send x.page, .send x.offset] ++ x.data.map BusAct.send ++ [.stop]) ∧
    ∀ n, x.isWrite = false → x.len = n + 1 → x.tryActs =
      [.start, device false, .send x.page, .send x.offset, .restart, device true] ++
        (List.replicate n [BusAct.receive, .ack]).flatten ++ [.receive, .nack, .stop]) ∧
  ∀ s : State, s.hold = .released →
    ((s.bus.st ≠ .transfer ∨ s.bus.current = none) → ∀ n data,
      (∃ t, exec .addressNack s = .next t ∧ Unchanged s t) ∧ (∃ t, exec (.byteNack n) s = .next t ∧ Unchanged s t) ∧
      ∃ t, exec (.tryComplete data) s = .next t ∧ Unchanged s t) ∧
    (∀ x, s.bus.st = .transfer → s.bus.current = some x → x.tries ≤ x.retries →
      exec .addressNack s = .next { s with
        bus := { s.bus with current := some { x with tries := x.tries + 1, bytesDone := 0 } }
        out := [.busStop, .busTry x.xfer.tryActs] }) ∧
    (∀ x tag, s.bus.st = .transfer → s.bus.current = some x → x.requester = .job tag → x.cut = false →
      NothingWaits s →
      (x.retries < x.tries → ∃ t, exec .addressNack s = .next t ∧ JobEnded s t x tag [] .noAck 0 ∧
        t.bus = BusReleased s) ∧
      (∀ n, ∃ t, exec (.byteNack n) s = .next t ∧
        JobEnded s t x tag [] .noAck (if x.xfer.isWrite then min n (x.xfer.len - 1) else 0) ∧ t.bus = BusReleased s) ∧
      (∀ data, x.xfer.isWrite = true → ∃ t, exec (.tryComplete data) s = .next t ∧
        JobEnded s t x tag [] .ok x.xfer.len ∧ t.bus = BusReleased s) ∧
      (∀ data, x.xfer.isWrite = false → 1 ≤ x.xfer.len → data.length = x.xfer.len →
        ∃ t, exec (.tryComplete data) s = .next t ∧
          JobEnded s t x tag [.bufferWrite tag.bufAddr.toNat data] .ok x.xfer.len ∧ t.bus = BusReleased s)) ∧
    ∀ x, s.bus.st = .transfer → s.bus.current = some x → x.cut = true → NothingWaits s →
      (x.retries < x.tries → exec .addressNack s = .next { s with bus := BusReleased s, out := [.busStop] }) ∧
      (∀ n, exec (.byteNack n) s = .next { s with bus := BusReleased s, out := [.busStop] }) ∧
      ∀ data, x.xfer.isWrite = true ∨ data.length = x.xfer.len →
        exec (.tryComplete data) s = .next { s with bus := BusReleased s, out := [] }

/-- R13, R14, R15, R17, R133, R146: what a port in READING does with the outcome of its identity read, of the 32 bytes
at device 0x56, page 0, offset 0: HELD when it failed, when the sum of the bytes is not 0 modulo 256, or when the
format, the kind or the lane count is not supported; and else the module identity is recorded and the plan looked up,
by engine state, plan count and cache. -/
def Obligations.IdentityReadsAreJudged : Prop :=
  ∀ (x : Txn) (s : State), s.hold = .released → s.bus.st = .transfer → s.bus.current = some x →
    x.requester = .port → x.cut = false → NothingWaits s →
    let p := x.port
    let c := s.port p
    c.st = .identify → c.sub = some .reading → x.xfer = ⟨false, 0x56, 0, 0, 32, []⟩ →
    (x.retries < x.tries → ∃ t, exec .addressNack s = .next t ∧ IsHeld .moduleUnreadable c (t.port p) ∧
      Reported p 2 s t ∧ t.bus = BusReleased s ∧ t.cache = s.cache ∧ ReadEndFrame p s t) ∧
    (∀ n, ∃ t, exec (.byteNack n) s = .next t ∧ IsHeld .moduleUnreadable c (t.port p) ∧ Reported p 2 s t ∧
      t.bus = BusReleased s ∧ t.cache = s.cache ∧ ReadEndFrame p s t) ∧
    ∀ b : List Byte, b.length = 32 →
      let sum := (b.map BitVec.toNat).sum
      let known := byteAt b 0 = 1 ∧ 1 ≤ (byteAt b 1).toNat ∧ (byteAt b 1).toNat ≤ 4 ∧ byteAt b 2 ≠ 0
      (sum % 256 ≠ 0 → ∃ t, exec (.tryComplete b) s = .next t ∧ IsHeld .moduleCorrupt c (t.port p) ∧
        Reported p 2 s t ∧ t.bus = BusReleased s ∧ t.cache = s.cache ∧ ReadEndFrame p s t) ∧
      (sum % 256 = 0 → ¬ known → ∃ t, exec (.tryComplete b) s = .next t ∧
        IsHeld .moduleUnsupported c (t.port p) ∧ Reported p 2 s t ∧ t.bus = BusReleased s ∧ t.cache = s.cache ∧
        ReadEndFrame p s t) ∧
      ∀ m : ModuleId, sum % 256 = 0 → known → m.kind.code = byteAt b 1 → m.lanes = min (byteAt b 2).toNat 4 →
        m.grade = byteAt b 3 → m.length.toNat = 256 * (byteAt b 4).toNat + (byteAt b 5).toNat →
        (∀ i : Fin 4, m.maker[i] = byteAt b (6 + i.val)) → (∀ i : Fin 12, m.serial[i] = byteAt b (10 + i.val)) →
        let d := { c with ident := some m }
        (s.we.st.working = false → ∃ t, exec (.tryComplete b) s = .next t ∧
          IsHeld .planUnavailable d (t.port p) ∧ Reported p 2 s t ∧ t.bus = BusReleased s ∧ t.cache = s.cache ∧
          ReadEndFrame p s t) ∧
        (s.we.st.working = true → s.we.anchor.planCount ≤ p.val → s.we.cfg.admitUnplanned = false →
          ∃ t, exec (.tryComplete b) s = .next t ∧ IsHeld .unplanned { d with plan := .unplanned } (t.port p) ∧
            Reported p 2 s t ∧ t.bus = BusReleased s ∧ t.cache = s.cache ∧ ReadEndFrame p s t) ∧
        (s.we.st.working = true → s.we.anchor.planCount ≤ p.val → s.we.cfg.admitUnplanned = true →
          ∃ t, exec (.tryComplete b) s = .next t ∧
            IsSignal s.we.cfg { d with plan := .unplanned }.computeCaps (t.port p) ∧ t.rep = s.rep ∧
            t.bus = BusReleased s ∧ t.cache = s.cache ∧ ReadEndFrame p s t) ∧
        (∀ e, s.we.st.working = true → p.val < s.we.anchor.planCount → s.cache.find p = some e →
          planValid e.bytes.toList = true →
          ∃ t, exec (.tryComplete b) s = .next t ∧
            IsSignal s.we.cfg { d with plan := .planned (planCopyOf e.bytes.toList) }.computeCaps (t.port p) ∧
            t.rep = s.rep ∧ t.bus = BusReleased s ∧ t.cache.entries.head? = some e ∧
            t.cache.gen = s.cache.gen ∧ t.cache.epoch = s.cache.epoch ∧ ReadEndFrame p s t) ∧
        (s.we.st.working = true → p.val < s.we.anchor.planCount → s.cache.find p = none →
          exec (.tryComplete b) s = .next { s.setPort p { d with sub := some .planning } with
            bus := BusReleased s
            cache := { s.cache with fillPending := s.cache.fillPending.set p true }
            mm := { s.mm with ops := s.mm.ops ++ if s.outstandingFill p = none
              then [⟨.fill (s.we.anchor.planBase + 16 * p.val) p s.cache.gen, false⟩] else [] }
            out := [] })

/-- R133, R134, R138, R142, R143: the grant decision: the queue's turn when the port grants since turn have reached a
turn ratio other than 0; else the waiting port nearest after the rotation pointer, wrapping; else the queue. It is
made at the end of a transaction (here of a cut one, whose outcome is discarded): a port's grant moves the rotation
pointer and counts, a job's frees its place and sets the count to 0. A job whose port has no module, or a stuck
branch, ends at once with NO_MODULE or BUS_STUCK, and the next decision follows at that end. -/
def Obligations.TheArbiterChoosesInTurn : Prop :=
  (∀ (a : Arbiter) (ratio : Nat),
    (∀ j rest, a.queue = j :: rest → ratio ≠ 0 → ratio ≤ a.since → a.choose ratio = some (.job j)) ∧
    (∀ p : PortNo, (a.queue = [] ∨ ratio = 0 ∨ a.since < ratio) → a.requests[p] = true →
      (∀ q : PortNo, a.requests[q] = true → (p - a.rotation - 1).val ≤ (q - a.rotation - 1).val) →
      a.choose ratio = some (.port p)) ∧
    (∀ j rest, a.queue = j :: rest → (∀ q : PortNo, a.requests[q] = false) → a.choose ratio = some (.job j)) ∧
    (a.queue = [] → (∀ q : PortNo, a.requests[q] = false) → a.choose ratio = none)) ∧
  ∀ (x : Txn) (data : List Byte) (s : State), s.hold = .released → s.bus.st = .transfer → s.bus.current = some x →
    x.cut = true → (x.xfer.isWrite = true ∨ data.length = x.xfer.len) →
    let ratio := s.we.cfg.turnRatio
    let identity : Transfer := ⟨false, 0x56, 0, 0, 32, []⟩
    let begun := fun (u t : State) => SameBase s t ∧ SameEngine s t ∧ ListGrows s t ∧ t.ports = s.ports ∧
      t.cache = s.cache ∧ t.rep = s.rep ∧ t.regs = u.regs
    (∀ q : PortNo, s.arb.choose ratio = some (.port q) → s.bus.stuck[q] = false →
      exec (.tryComplete data) s = .next { s with
        bus := BusGranted s .port q identity
        arb := { s.arb with requests := s.arb.requests.set q false, rotation := q, since := min (s.arb.since + 1) 255 }
        out := [.busTry identity.tryActs] }) ∧
    (∀ j : PassJob, s.arb.choose ratio = some (.job j) → (s.port j.port).present = true → s.bus.stuck[j.port] = false →
      ∃ t, exec (.tryComplete data) s = .next t ∧ t.bus = BusGranted s (.job j.tag) j.port j.xfer ∧
        t.arb = { s.arb with queue := s.arb.queue.tail, since := 0 } ∧ begun s t ∧ t.out = [.busTry j.xfer.tryActs]) ∧
    ∀ j : PassJob, s.arb.choose ratio = some (.job j) →
      ((s.port j.port).present = false ∨ s.bus.stuck[j.port] = true) →
      let a := { s.arb with queue := s.arb.queue.tail, since := 0 }
      let st := if (s.port j.port).present then Status.busStuck else .noModule
      let ended := completionOps s j.tag.index j.tag.iFlag [] st 0
      (a.choose ratio = none → ∃ t, exec (.tryComplete data) s = .next t ∧ t.bus = BusReleased s ∧ t.arb = a ∧
        begun t t ∧ WorkRaised s t j.tag.iFlag ∧ ended <:+: t.mm.ops ∧ [Out.busStop] <+: t.out) ∧
      ∀ q : PortNo, a.choose ratio = some (.port q) → s.bus.stuck[q] = false →
        ∃ t, exec (.tryComplete data) s = .next t ∧ t.bus = BusGranted s .port q identity ∧
          t.arb = { a with requests := a.requests.set q false, rotation := q, since := 1 } ∧
          begun t t ∧ WorkRaised s t j.tag.iFlag ∧ ended <:+: t.mm.ops ∧
          [Out.busStop, .busTry identity.tryActs] <+: t.out

/-! ## Memory master: reads of the work engine -/

/-- R66, R68, R150 to R152, R155, R182: the return of the anchor read: STOPPED when RUN was cleared, HALTED on an
anchor that fails a check, and else RUNNING with the anchor's fields, the configuration and the chassis ID when
admissible, the cache flushed, the budget applied and a scan started; a new epoch takes ports in SIGNAL, DARK and
AGREE back to IDENTIFY, and makes one in the EPOCH_WAIT wait verify again. An abandoned read delivers nothing (R184).
That the row outside an anchor read changes nothing is log 2, that the budget lowers attempts left at a start too log
17, and the order of the entry's triggers and epoch changes log 43 and log 44. -/
def Obligations.TheAnchorReadDecidesTheStart : Prop :=
  ∀ (b : Vector Byte 64) (a : Nat) (s : State), s.hold = .released →
    ((∀ x y, ¬ InProgress s (.anchorRead x) y) → ∃ t, exec (.anchorReadDone b) s = .next t ∧ Unchanged s t) ∧
    (InProgress s (.anchorRead a) true → exec (.anchorReadDone b) s = .next (Popped s)) ∧
    (InProgress s (.anchorRead a) false → s.we.st = .starting → s.we.run = false →
      ∃ t, exec (.anchorReadDone b) s = .next t ∧ t.we.st = .stopped ∧ t.we.run = false ∧ t.we.scanTimer = none ∧
        t.we.anchor = s.we.anchor ∧ t.we.cfg = s.we.cfg ∧ t.we.chassis = s.we.chassis ∧
        FillsFailed s t (fun _ c => c) ∧ t.cache.entries = s.cache.entries ∧ t.cache.gen = s.cache.gen ∧
        t.cache.epoch = s.cache.epoch ∧ SameBase s t ∧ SameBus s t) ∧
    (InProgress s (.anchorRead a) false → s.we.st = .starting → s.we.run = true → anchorValid b.toList = false →
      ∃ t, exec (.anchorReadDone b) s = .next t ∧ t.we.st = .halted ∧ t.we.run = false ∧
        t.we.haltCause = .anchorInvalid ∧ t.we.anchor = s.we.anchor ∧ t.we.cfg = s.we.cfg ∧
        t.we.chassis = s.we.chassis ∧ t.we.cursor = s.we.cursor ∧ t.rep.cursor = s.rep.cursor ∧
        t.regs = { s.regs with events := s.regs.events ||| evHalt } ∧ WorkAbandoned s t ∧
        (FillsFailed s t fun p c =>
          if ∃ k : Fin 16, ∃ j, s.we.slots[k] = some j ∧ j.port = p ∧ j.kind = .laneTest then c.closeTest else c) ∧
        t.cache.entries = s.cache.entries ∧ t.cache.gen = s.cache.gen ∧ t.cache.epoch = s.cache.epoch ∧
        SameBase s t) ∧
    (InProgress s (.anchorRead a) false → s.we.st = .starting → s.we.run = true → anchorValid b.toList = true →
      let cfg := configOf b.toList
      let id := s.newChassis cfg
      let lower := fun c : Port => { c with left := min c.left cfg.attemptBudget }
      ∃ t, exec (.anchorReadDone b) s = .next t ∧ t.we.st = .running ∧ t.we.run = true ∧
        t.we.anchor = anchorOf b.toList ∧ t.we.cfg = cfg ∧
        t.we.chassis = (if s.admissible id then id else s.we.chassis) ∧ t.we.cursor = 0 ∧ t.rep.cursor = 0 ∧
        t.we.scanTimer = (if cfg.scanEnable then some ((cfg.scanValue + 1) * 4) else none) ∧
        (s.we.scan = .noScan → t.we.scan = .reading ∧ t.we.stall = .noStall ∧
          t.mm.ops.getLast? = some ⟨.descRead (leField b.toList 4 8), false⟩) ∧
        t.cache.entries = [] ∧ t.cache.gen = s.cache.gen + 1 ∧ t.cache.epoch = anchorEpoch b.toList ∧
        SameBase s t ∧ SameBus s t ∧ t.regs.anchorReg = s.regs.anchorReg ∧ t.regs.mask = s.regs.mask ∧
        ∀ p, (anchorEpoch b.toList = s.cache.epoch → t.port p = lower (s.port p)) ∧
          ((s.port p).st ≠ .signal → (s.port p).st ≠ .dark → (s.port p).st ≠ .agree →
            t.port p = lower (s.port p)) ∧
          (anchorEpoch b.toList ≠ s.cache.epoch → ((s.port p).st = .dark ∨ (s.port p).st = .agree ∨
              ((s.port p).st = .signal ∧ (s.port p).verdict ≠ .epochWait)) →
            IsIdentify false (s.port p) (t.port p)) ∧
          ∀ far, anchorEpoch b.toList ≠ s.cache.epoch → (s.port p).st = .signal → (s.port p).verdict = .epochWait →
            (s.port p).farIdentity (s.port p).identifiedSet = some far →
            VerdictActed (t.env p) (lower (s.port p)) (s.port p).identifiedSet far (t.port p))

/-- R66, R150, R151, R152: the structural checks of an anchor block; the addresses and counts taken from it, and its
plan epoch; and the configuration: each field from its bytes, least significant first, a value of 0 standing for its
default and one above its range clamped. -/
def Obligations.AnchorFieldsAreReadAndChecked : Prop :=
  (∀ (b : List Byte) (i n : Nat),
    leField b i 0 = 0 ∧ leField b i (n + 1) = (byteAt b i).toNat + 256 * leField b (i + 1) n) ∧
  (∀ b : List Byte, anchorValid b = true ↔
    b.take 4 = [0x4C, 0x42, 0x33, 0x32] ∧
    (1 ≤ leField b 12 1 ∧ leField b 12 1 ≤ 64) ∧ (1 ≤ leField b 13 1 ∧ leField b 13 1 ≤ 64) ∧
    (leField b 14 1 = 0 ∨ ∃ k, k ≤ 5 ∧ leField b 14 1 = 2 ^ k) ∧
    leField b 4 8 % 32 = 0 ∧ leField b 16 8 % 32 = 0 ∧
    (leField b 14 1 ≠ 0 → leField b 24 8 % (16 * leField b 14 1) = 0)) ∧
  (∀ b : List Byte, anchorOf b =
      { workBase := leField b 4 8, workCount := leField b 12 1, reportBase := leField b 16 8,
        reportCount := leField b 13 1, planBase := leField b 24 8, planCount := leField b 14 1 } ∧
    (anchorEpoch b).toNat = leField b 34 2) ∧
  ∀ b : List Byte, let c := configOf b
    let orElse := fun v d : Nat => if v = 0 then d else v
    (1 ≤ c.settle ∧ c.settle ≤ 65535 ∧ 1 ≤ c.signalWindow ∧ c.signalWindow ≤ 65535 ∧ 1 ≤ c.phaseWait ∧
      c.phaseWait ≤ 65535 ∧ 1 ≤ c.trainTimeout ∧ c.trainTimeout ≤ 65535 ∧ 1 ≤ c.beaconInterval ∧
      c.beaconInterval ≤ 255 ∧ 1 ≤ c.attemptBudget ∧ c.attemptBudget ≤ 8 ∧ c.dropLimit ≤ 255 ∧ 1 ≤ c.watchdog ∧
      c.watchdog ≤ 255 ∧ c.nackRetries ≤ 7 ∧ c.turnRatio ≤ 3 ∧ c.scanValue ≤ 255 ∧ 6 ≤ c.defaultTarget ∧
      c.defaultTarget ≤ 15 ∧ 1 ≤ c.defaultDwell ∧ c.defaultDwell ≤ 65535) ∧
    c.settle = orElse (leField b 36 2) 200 ∧ c.signalWindow = orElse (leField b 38 2) 3000 ∧
    c.phaseWait = orElse (leField b 40 2) 1000 ∧ c.trainTimeout = orElse (leField b 42 2) 500 ∧
    c.beaconInterval = orElse (leField b 44 1) 10 ∧ c.attemptBudget = min 8 (orElse (leField b 45 1) 4) ∧
    c.dropLimit = leField b 46 1 ∧ c.watchdog = orElse (leField b 47 1) 25 ∧ c.nackRetries = min 7 (leField b 48 1) ∧
    c.turnRatio = min 3 (leField b 49 1) ∧ c.scanValue = leField b 50 1 ∧
    (leField b 51 1 = 0 → c.defaultTarget = 12) ∧
    (leField b 51 1 ≠ 0 → c.defaultTarget = max 6 (min 15 (leField b 51 1))) ∧
    c.defaultDwell = orElse (leField b 52 2) 1000 ∧ c.admitUnplanned = (byteAt b 15).getLsbD 0 ∧
    c.chassisOverride = (byteAt b 15).getLsbD 1 ∧ c.scanEnable = (byteAt b 15).getLsbD 2 ∧
    c.overrideId.toNat = leField b 32 2

/-- R29, R152, R156, R158, R162, R170: the return of a SET_CONFIG's anchor read: an admissible chassis ID takes effect
with the configuration and the request completes with OK; an inadmissible one leaves all and gives WRONG_STATE. A scan
that waited for the read goes on. That the row outside such a read changes nothing is log 2, that a running scan timer
goes on log 30. -/
def Obligations.TheConfigReadAppliesTheConfiguration : Prop :=
  ∀ (b : Vector Byte 64) (a : Nat) (r : Request) (s : State), s.hold = .released →
    let cfg := configOf b.toList
    let id := s.newChassis cfg
    let next := fun s' : State => if s.we.st = .running ∧ s.we.scan = .starting then [descReadAt s' s.we.cursor] else []
    let scan := if s.we.st = .running ∧ s.we.scan = .starting then ScanPhase.reading else s.we.scan
    ((∀ x q y, ¬ InProgress s (.configRead x q) y) → ∃ t, exec (.configReadDone b) s = .next t ∧ Unchanged s t) ∧
    (InProgress s (.configRead a r) true → exec (.configReadDone b) s = .next (Popped s)) ∧
    (InProgress s (.configRead a r) false → s.admissible id = true →
      ∃ t, exec (.configReadDone b) s = .next t ∧
        t.we = { s.we with
          cfg := cfg, chassis := id, scan := scan
          scanTimer := if cfg.scanEnable = true ∧ s.we.st.working = true
            then some (s.we.scanTimer.getD ((cfg.scanValue + 1) * 4)) else none } ∧
        (∀ p, t.port p = { s.port p with left := min (s.port p).left cfg.attemptBudget }) ∧
        t.mm.ops = s.mm.ops.tail ++ completionOps s r.index r.iFlag [] .ok id.toNat ++ next s ∧
        WorkRaised s t r.iFlag ∧ t.cache = s.cache ∧ t.rep = s.rep ∧ SameBase s t ∧ SameBus s t ∧ OnlyInterrupt s t) ∧
    (InProgress s (.configRead a r) false → s.admissible id = false →
      ∃ t, exec (.configReadDone b) s = .next t ∧ t.we = { s.we with scan := scan } ∧ t.ports = s.ports ∧
        t.mm.ops = s.mm.ops.tail ++ completionOps s r.index r.iFlag [] .wrongState s.we.chassis.toNat ++ next s ∧
        WorkRaised s t r.iFlag ∧ t.cache = s.cache ∧ t.rep = s.rep ∧ SameBase s t ∧ SameBus s t ∧ OnlyInterrupt s t)

/-- R154, R157 to R159, R163: the descriptor read of a scan: a descriptor that is not READY ends the scan, and so does
one whose needs are missing, with the stall; a READY one is taken: TAKEN is written with the I flag, the cursor moves
on, the request acts as its row does, and the scan reads the next descriptor or waits for the start read. That the row
outside a descriptor read changes nothing is log 2, that an abandoned read delivers nothing log 12. -/
def Obligations.TheDescriptorReadTakesARequest : Prop :=
  ∀ (d : Vector Byte 32) (a : Nat) (s : State), s.hold = .released →
    let r := requestOf s.we.cursor d.toList
    let owner := (byteAt d.toList 0).extractLsb' 0 2
    let own : Byte := if (byteAt d.toList 0).getLsbD 2 then 6 else 2
    let stops := fun st : Stall => { s with
      we := { s.we with
        scan := if s.we.scanPending then .reading else .noScan
        stall := if s.we.scanPending then .noStall else st
        scanPending := false }
      mm := ⟨s.mm.ops.tail ++ if s.we.scanPending then [descReadAt s s.we.cursor] else [], 0⟩
      out := [] }
    let cursor := (s.we.cursor + 1) % s.we.anchor.workCount
    let u : State := { s with
      we := { s.we with cursor := cursor }
      mm := ⟨s.mm.ops.tail ++ [⟨.takenWrite (s.we.anchor.workBase + 32 * s.we.cursor) own, false⟩], 0⟩ }
    ((∀ x y, ¬ InProgress s (.descRead x) y) → ∃ t, exec (.descriptorReadDone d) s = .next t ∧ Unchanged s t) ∧
    (InProgress s (.descRead a) true → exec (.descriptorReadDone d) s = .next (Popped s)) ∧
    (InProgress s (.descRead a) false → s.we.st = .running → s.we.scan = .reading →
      (owner ≠ 1 → exec (.descriptorReadDone d) s = .next (stops .noStall)) ∧
      (∀ st, owner = 1 → s.takeStall (Kind.ofByte (byteAt d.toList 1)) r = st → st ≠ .noStall →
        exec (.descriptorReadDone d) s = .next (stops st)) ∧
      (owner = 1 → (byteAt d.toList 1 = 0 ∨ 12 < (byteAt d.toList 1).toNat) → s.heldIndex s.we.cursor = false →
        (∀ e ∈ s.mm.ops.tail, e.op.isStartRead = true → e.abandoned = true) →
        ∃ t, exec (.descriptorReadDone d) s = .next t ∧ t.we = { s.we with cursor := cursor } ∧
          t.mm.ops = u.mm.ops ++ completionOps s s.we.cursor r.iFlag [] .badKind 0 ++ [descReadAt s cursor] ∧
          WorkRaised s t r.iFlag ∧ t.ports = s.ports ∧ t.cache = s.cache ∧ t.rep = s.rep ∧ SameBase s t ∧
          SameBus s t ∧ OnlyInterrupt s t) ∧
      (∀ k : Kind, owner = 1 → byteAt d.toList 1 = k.code → s.takeStall (some k) r = .noStall →
        ∃ v t, exec (k.row r) u = .next v ∧ exec (.descriptorReadDone d) s = .next t ∧
          t = { v with we := { v.we with scan := t.we.scan }, mm := { v.mm with ops := t.mm.ops } } ∧
          ((∃ e ∈ v.mm.ops, e.op.isStartRead = true ∧ e.abandoned = false) →
            t.we.scan = .starting ∧ t.mm.ops = v.mm.ops) ∧
          (¬ (∃ e ∈ v.mm.ops, e.op.isStartRead = true ∧ e.abandoned = false) →
            t.we.scan = .reading ∧ t.mm.ops = v.mm.ops ++ [descReadAt v v.we.cursor])))

/-- R134, R142, R158, R162, R168: the write data of a MODULE_WRITE join its job, and the job the queue; at an idle bus
where nothing waits it is granted at once, and ends at that grant with NO_MODULE or BUS_STUCK when its port has no
module or a stuck branch. A scan that waited for the read goes on. That the row outside a buffer read changes nothing
is log 2, that an abandoned read delivers nothing log 12, that data of another length are not taken log 22. -/
def Obligations.TheBufferReadQueuesTheWrite : Prop :=
  ∀ (data : List Byte) (a : Nat) (j : PassJob) (s : State), s.hold = .released →
    ((∀ x i y, ¬ InProgress s (.bufferRead x i) y) → ∃ t, exec (.bufferReadDone data) s = .next t ∧ Unchanged s t) ∧
    (data.length = j.xfer.len → InProgress s (.bufferRead a j) true →
      exec (.bufferReadDone data) s = .next (Popped s)) ∧
    (data.length = j.xfer.len → InProgress s (.bufferRead a j) false → s.bus.st ≠ .idle → ScanWaits s →
      exec (.bufferReadDone data) s = .next { s with
        we := { s.we with scan := .reading }
        arb := { s.arb with queue := s.arb.queue ++ [{ j with xfer := { j.xfer with data := data } }] }
        mm := ⟨s.mm.ops.tail ++ [descReadAt s s.we.cursor], 0⟩
        out := [] }) ∧
    (data.length = j.xfer.len → InProgress s (.bufferRead a j) false → s.bus.st ≠ .idle → ¬ ScanWaits s →
      exec (.bufferReadDone data) s = .next { s with
        arb := { s.arb with queue := s.arb.queue ++ [{ j with xfer := { j.xfer with data := data } }] }
        mm := ⟨s.mm.ops.tail, 0⟩
        out := [] }) ∧
    (data.length = j.xfer.len → InProgress s (.bufferRead a j) false → s.bus.st = .idle → NothingWaits s →
      (s.port j.port).present = true → s.bus.stuck[j.port] = false →
      ∃ t, exec (.bufferReadDone data) s = .next t ∧
        t.bus = BusGranted s (.job j.tag) j.port { j.xfer with data := data } ∧
        t.arb = { s.arb with since := 0 } ∧ t.ports = s.ports ∧ t.cache = s.cache ∧ t.rep = s.rep ∧
        t.regs = s.regs ∧ SameBase s t ∧ SameEngine s t ∧ s.mm.ops.tail <+: t.mm.ops ∧
        t.out = [.busTry { j.xfer with data := data }.tryActs]) ∧
    (data.length = j.xfer.len → InProgress s (.bufferRead a j) false → s.bus.st = .idle → NothingWaits s →
      ((s.port j.port).present = false ∨ s.bus.stuck[j.port] = true) →
      let st := if (s.port j.port).present then Status.busStuck else .noModule
      ∃ t, exec (.bufferReadDone data) s = .next t ∧ t.bus = s.bus ∧ t.arb = { s.arb with since := 0 } ∧
        t.ports = s.ports ∧ t.cache = s.cache ∧ t.rep = s.rep ∧ WorkRaised s t j.tag.iFlag ∧ SameBase s t ∧
        SameEngine s t ∧ s.mm.ops.tail <+: t.mm.ops ∧
        completionOps s j.tag.index j.tag.iFlag [] st 0 <:+: t.mm.ops ∧ [Out.busStop] <+: t.out)

/-! ## Memory master: fills, reports, writes, faults -/

/-- R14, R17, R57, R60 to R62: a fill under the generation in force gives its port the plan: a valid entry is placed
in the cache as the most recent, the ninth dropping out, and the port goes to SIGNAL; an invalid one leaves it
UNPLANNED, admitted or held. A fill under an older generation is made again, and one for a port that waits no longer
delivers nothing. That the row outside a fill changes nothing is log 2. -/
def Obligations.TheFillGivesThePlan : Prop :=
  ∀ (e : Vector Byte 16) (a : Nat) (p : PortNo) (g : BitVec 32) (x : Bool) (s : State), s.hold = .released →
    let c := s.port p
    let cleared := s.cache.fillPending.set p false
    let planned := { c with plan := .planned (planCopyOf e.toList) }.computeCaps
    let unplanned := { c with plan := .unplanned }
    ((∀ a' q g' y, ¬ InProgress s (.fill a' q g') y) → ∃ t, exec (.fillComplete e) s = .next t ∧ Unchanged s t) ∧
    (InProgress s (.fill a p g) x → s.cache.fillPending[p] = false →
      exec (.fillComplete e) s = .next (Popped s)) ∧
    (InProgress s (.fill a p g) x → s.cache.fillPending[p] = true → g ≠ s.cache.gen →
      exec (.fillComplete e) s = .next { s with
        mm := ⟨s.mm.ops.tail ++ [⟨.fill (s.we.anchor.planBase + 16 * p.val) p s.cache.gen, false⟩], 0⟩, out := [] }) ∧
    (InProgress s (.fill a p g) x → s.cache.fillPending[p] = true → g = s.cache.gen → c.st = .identify →
      (planValid e.toList = true → ∃ t, exec (.fillComplete e) s = .next t ∧ IsSignal s.we.cfg planned (t.port p) ∧
        t.cache = { s.cache with
          fillPending := cleared
          entries := (⟨p, e⟩ :: s.cache.entries.filter fun d => d.port ≠ p).take 8 } ∧
        t.mm = ⟨s.mm.ops.tail, 0⟩ ∧ t.rep = s.rep ∧ t.we = s.we ∧ t.regs = s.regs ∧ SameOtherPorts p s t ∧
        SameBase s t ∧ SameBus s t) ∧
      (planValid e.toList = false → s.we.cfg.admitUnplanned = true → ∃ t, exec (.fillComplete e) s = .next t ∧
        IsSignal s.we.cfg unplanned.computeCaps (t.port p) ∧ t.cache = { s.cache with fillPending := cleared } ∧
        t.mm = ⟨s.mm.ops.tail, 0⟩ ∧ t.rep = s.rep ∧ t.we = s.we ∧ t.regs = s.regs ∧ SameOtherPorts p s t ∧
        SameBase s t ∧ SameBus s t) ∧
      (planValid e.toList = false → s.we.cfg.admitUnplanned = false → ∃ t, exec (.fillComplete e) s = .next t ∧
        IsHeld .unplanned unplanned (t.port p) ∧ t.cache = { s.cache with fillPending := cleared } ∧
        Reported p 2 s t ∧ SameOtherPorts p s t ∧ SameBase s t ∧ SameBus s t ∧ SameWindow s t ∧ SameEngine s t ∧
        s.mm.ops.tail <+: t.mm.ops))

/-- R175 to R177, R179, R188: a report read that finds EMPTY writes the report of the port at the head of the queue:
31 bytes, laid out as Formats gives, and then FILLED, with REPORT set; one that finds another byte reads again when
asked to, and else stalls, with STALL set at the start of the episode. That the row outside a report read changes
nothing is log 2, that an abandoned read delivers nothing log 12. -/
def Obligations.TheReportReadWritesAReport : Prop :=
  (∀ (p : PortNo) (kinds : BitVec 5) (count : Nat) (c : Port) (ms : BitVec 32),
    let e := (2 : Byte) :: reportBytes p kinds count c ms
    e.length = 32 ∧ (byteAt e 1).toNat = p.val ∧ byteAt e 2 = kinds.zeroExtend 8 ∧ (byteAt e 3).toNat = count % 256 ∧
    byteAt e 4 = c.st.code ∧ byteAt e 5 = c.holdReason.code ∧ byteAt e 6 = c.verdict.code ∧
    (byteAt e 7).toNat = (c.agreed.map Grade.num).getD 0 ∧ (byteAt e 8).extractLsb' 0 4 = c.laneSet ∧
    (byteAt e 8).getLsbD 4 = c.present ∧ (byteAt e 8).extractLsb' 5 2 = c.role.code.extractLsb' 0 2 ∧
    (byteAt e 8).getLsbD 7 = false ∧ byteAt e 9 = c.attempt ∧ (byteAt e 10).toNat = c.drops % 256 ∧ byteAt e 11 = 0 ∧
    leField e 12 4 = ms.toNat ∧ leField e 16 2 = (c.far.map fun f => f.chassis.toNat).getD 0 ∧
    (byteAt e 18).toNat = (c.far.map fun f => f.port.toNat).getD 255 ∧ ∀ k, 19 ≤ k → byteAt e k = 0) ∧
  ∀ (owner : Byte) (a : Nat) (s : State), s.hold = .released →
    let addr := s.we.anchor.reportBase + 32 * s.rep.cursor
    let cursor := (s.rep.cursor + 1) % s.we.anchor.reportCount
    ((∀ x y, ¬ InProgress s (.reportRead x) y) → ∃ t, exec (.reportReadDone owner) s = .next t ∧ Unchanged s t) ∧
    (InProgress s (.reportRead a) true → exec (.reportReadDone owner) s = .next (Popped s)) ∧
    (InProgress s (.reportRead a) false →
      (s.we.st.working = false → exec (.reportReadDone owner) s = .next { s with
        rep := { s.rep with phase := .idle, reread := false }, mm := ⟨s.mm.ops.tail, 0⟩, out := [] }) ∧
      (∀ p rest, s.we.st.working = true → owner = 1 → s.rep.queue = p :: rest →
        let r := s.rep.recs[p]
        ∃ t, exec (.reportReadDone owner) s = .next t ∧
          t.rep = { s.rep with
            recs := s.rep.recs.set p (⟨0, 0⟩ : ReportRec)
            queue := rest
            inflight := s.rep.inflight ++ [(⟨p, r.kinds, r.count, s.rep.cursor⟩ : InFlight)]
            cursor := cursor
            phase := if rest = [] then .idle else .reading
            reread := false
            stallFlag := false } ∧
          t.mm = ⟨s.mm.ops.tail ++ [⟨.reportBody (addr + 1) (reportBytes p r.kinds r.count (s.port p) s.ms), false⟩,
            ⟨.reportFilled addr 2, false⟩] ++
            (if rest = [] then [] else [⟨.reportRead (s.we.anchor.reportBase + 32 * cursor), false⟩]), 0⟩ ∧
          t.regs = { s.regs with events := s.regs.events ||| evReport } ∧ t.we = s.we ∧ t.ports = s.ports ∧
          t.cache = s.cache ∧ SameBase s t ∧ SameBus s t ∧ OnlyInterrupt s t) ∧
      (s.we.st.working = true → owner ≠ 1 → s.rep.reread = true → exec (.reportReadDone owner) s = .next { s with
        rep := { s.rep with phase := .reading, reread := false }
        mm := ⟨s.mm.ops.tail ++ [⟨.reportRead addr, false⟩], 0⟩
        out := [] }) ∧
      (s.we.st.working = true → owner ≠ 1 → s.rep.reread = false → s.rep.stallFlag = true →
        exec (.reportReadDone owner) s = .next { s with
          rep := { s.rep with phase := .stalled }, mm := ⟨s.mm.ops.tail, 0⟩, out := [] }) ∧
      (s.we.st.working = true → owner ≠ 1 → s.rep.reread = false → s.rep.stallFlag = false →
        ∃ t, exec (.reportReadDone owner) s = .next t ∧
          t.rep = { s.rep with phase := .stalled, stallFlag := true } ∧ t.mm = ⟨s.mm.ops.tail, 0⟩ ∧
          t.regs = { s.regs with events := s.regs.events ||| evStall } ∧ t.we = s.we ∧ t.ports = s.ports ∧
          t.cache = s.cache ∧ SameBase s t ∧ SameBus s t ∧ OnlyInterrupt s t))

/-- R158, R162, R171, R175, R176: a write at the head of the list is carried out and leaves it, and the next is taken;
the FILLED write ends its report's flight and triggers the report engine. That the TAKEN write ends by
COMPLETION_WRITE_DONE, and the first write of a report by REPORT_WRITE_DONE, is the model's reading (log 9); that the
rows with no such write at the head change nothing is log 2. -/
def Obligations.WritesAreCarriedOutInOrder : Prop :=
  ∀ (a : Nat) (x : Bool) (s : State), s.hold = .released →
    let wrote := fun d : List Byte => { s with mm := ⟨s.mm.ops.tail, 0⟩, out := [.hostWrite a d] }
    (∀ b, (InProgress s (.takenWrite a b) x ∨ InProgress s (.statusWrite a b) x ∨ InProgress s (.doneWrite a b) x) →
      exec .completionWriteDone s = .next (wrote [b])) ∧
    (∀ d, (InProgress s (.bufferWrite a d) x ∨ InProgress s (.resultWrite a d) x) →
      exec .completionWriteDone s = .next (wrote d)) ∧
    ((∀ e, s.mm.ops.head? = some e → e.op.engineWrite = none) →
      ∃ t, exec .completionWriteDone s = .next t ∧ Unchanged s t) ∧
    (∀ d, InProgress s (.reportBody a d) x → exec .reportWriteDone s = .next (wrote d)) ∧
    (∀ b, InProgress s (.reportFilled a b) x → ∃ t, exec .reportWriteDone s = .next t ∧ t.out = [.hostWrite a [b]] ∧
      t.rep = { s.rep with
        inflight := s.rep.inflight.tail
        reread := s.rep.reread || s.rep.phase = .reading
        phase := if s.we.st.working = true ∧ s.rep.queue ≠ [] then .reading else s.rep.phase } ∧
      t.mm = ⟨s.mm.ops.tail ++ if s.rep.phase ≠ .reading ∧ s.we.st.working = true ∧ s.rep.queue ≠ []
        then [⟨.reportRead (s.we.anchor.reportBase + 32 * s.rep.cursor), false⟩] else [], 0⟩ ∧
      t.we = s.we ∧ t.ports = s.ports ∧ t.cache = s.cache ∧ t.regs = s.regs ∧ SameBase s t ∧ SameBus s t) ∧
    ((∀ a' d b y, ¬ InProgress s (.reportBody a' d) y ∧ ¬ InProgress s (.reportFilled a' b) y) →
      ∃ t, exec .reportWriteDone s = .next t ∧ Unchanged s t)

/-- R65, R129, R145, R153, R171, R172, R177, R178, R182: a memory fault empties the list and takes the engine to
HALTED with MEMORY_FAULT: HALT is set, jobs are abandoned, reports in flight go back to their ports, ports that wait
on a fill are held; a report read in the list is gone, and leaves the report engine IDLE with its re-read flag clear;
the tables' addresses and the cache are kept. An error status or missing data can only end a read, the latter after 50
ms (log 26); the order of several restored reports is log 28. -/
def Obligations.MemoryFaultsHaltTheEngine : Prop :=
  ∀ (cause : MemFaultCause) (s : State), s.hold = .released →
    let can := ∃ e, s.mm.ops.head? = some e ∧ (cause = .busMasterOff ∨ (cause = .errorStatus ∧ e.op.isRead = true) ∨
      (cause = .noData ∧ e.op.isRead = true ∧ 50 ≤ s.mm.age))
    (¬ can → ∃ t, exec (.memoryFault cause) s = .next t ∧ Unchanged s t) ∧
    (can → ∃ t, exec (.memoryFault cause) s = .next t ∧ t.we.st = .halted ∧ t.we.run = false ∧
      t.we.haltCause = .memoryFault ∧ t.we.anchor = s.we.anchor ∧ t.we.cfg = s.we.cfg ∧ t.we.chassis = s.we.chassis ∧
      t.we.cursor = s.we.cursor ∧ WorkAbandoned s t ∧ t.mm = ⟨[], 0⟩ ∧ t.rep.inflight = [] ∧
      t.rep.cursor = s.rep.cursor ∧ t.rep.stallFlag = s.rep.stallFlag ∧
      ((∃ a, (⟨.reportRead a, false⟩ : MemEntry) ∈ s.mm.ops) → t.rep.phase = .idle ∧ t.rep.reread = false) ∧
      ((∀ a, (⟨.reportRead a, false⟩ : MemEntry) ∉ s.mm.ops) → t.rep.phase = s.rep.phase) ∧ t.regs = { s.regs with events := s.regs.events ||| evHalt } ∧
      (FillsFailed s t fun p c =>
        if ∃ k : Fin 16, ∃ j, s.we.slots[k] = some j ∧ j.port = p ∧ j.kind = .laneTest then c.closeTest else c) ∧
      t.cache.entries = s.cache.entries ∧ t.cache.gen = s.cache.gen ∧ t.cache.epoch = s.cache.epoch ∧
      SameBase s t ∧
      ((∀ p : PortNo, s.cache.fillPending[p] = false) → (∀ f ∈ s.rep.inflight, 1 ≤ f.count) →
        ReportsRestored s.rep.inflight s.rep t.rep))

/-! ## Requests -/

/-- R142, R157, R158, R161, R163: a request on a port whose port number is 32 to 255 completes with BAD_PORT and a
result of 0; a request row acts only when the engine is RUNNING and no stall holds it back (log 7), and what it needs
by its kind: no job in a slot, in the queue, at the bus or with its buffer still being read holds its index, and a
slot or a queue place is free. -/
def Obligations.RequestsAreCheckedAtTheirTake : Prop :=
  (∀ (k : Kind) (r : Request) (s : State), s.hold = .released → CanTake s k r → k ≠ .planFlush → k ≠ .setConfig →
     32 ≤ r.port.toNat →
     ∃ t, exec (k.row r) s = .next t ∧ Completed s t r [] .badPort 0 ∧ t.ports = s.ports ∧ RequestFrame s t ∧
       OnlyInterrupt s t) ∧
  ((∀ (k : Kind) (r : Request) (s : State), s.hold = .released → ¬ CanTake s k r →
     ∃ t, exec (k.row r) s = .next t ∧ Unchanged s t) ∧
   ∀ (k : Kind) (r : Request) (s : State), s.we.st = .running →
     (CanTake s k r ↔
       (∀ (i : Fin 16) (j : Job), s.we.slots[i] = some j → j.tag.index ≠ r.index) ∧
       (∀ j ∈ s.arb.queue, j.tag.index ≠ r.index) ∧
       (∀ a (j : PassJob), (⟨.bufferRead a j, false⟩ : MemEntry) ∈ s.mm.ops → j.tag.index ≠ r.index) ∧
       (∀ x tag, s.bus.current = some x → x.cut = false → x.requester = .job tag → tag.index ≠ r.index) ∧
       ((k = .laneTest ∨ k = .portAwait) → r.port.toNat < 32 → ∃ i : Fin 16, s.we.slots[i] = none) ∧
       ((k = .moduleRead ∨ k = .moduleWrite) → r.port.toNat < 32 →
         s.arb.queue.length + s.pendingWrites.length < 4)))

/-- R5, R7, R11, R38, R162, R164: PORT_ENABLE by chassis ID, port state and presence. That its
completion writes follow the report read that the entry into EMPTY issues is log 42. -/
def Obligations.EnableOpensAPort : Prop :=
  ∀ (p : PortNo) (r : Request) (s : State), s.hold = .released → CanTake s .portEnable r → Names r p →
    let c := s.port p
    let d := { c with holdOnDrop := r.argA.getLsbD 0, sendClock := some s.we.cfg.beaconInterval }
    (s.we.chassis = 0 → ∃ t, exec (.portEnable r) s = .next t ∧ Completed s t r [] .noIdentity c.st.code.toNat ∧
      t.ports = s.ports ∧ RequestFrame s t ∧ OnlyInterrupt s t) ∧
    (s.we.chassis ≠ 0 → c.st = .off → c.present = true → ∃ t, exec (.portEnable r) s = .next t ∧
      IsIdentify false d (t.port p) ∧ Completed s t r [] .ok 2 ∧ SameOtherPorts p s t ∧ RequestFrame s t) ∧
    (s.we.chassis ≠ 0 → c.st = .off → c.present = false → ∃ t, exec (.portEnable r) s = .next t ∧
      IsEmpty d (t.port p) ∧ CompletedLast s t r .ok 1 ∧ Reported p 2 s t ∧ PortEventFrame p s t) ∧
    (s.we.chassis ≠ 0 → c.st ≠ .off → ∃ t, exec (.portEnable r) s = .next t ∧
      t.port p = { c with holdOnDrop := r.argA.getLsbD 0 } ∧ Completed s t r [] .already c.st.code.toNat ∧
      SameOtherPorts p s t ∧ RequestFrame s t ∧ OnlyInterrupt s t)

/-- R2, R8, R26, R128, R132, R141, R144, R147, R164: PORT_DISABLE takes a port to OFF, and PORT_RESTART one with a
module back to IDENTIFY; both clear the branch-stuck flag, mark the port's transaction and drop its requests, and end
its running LANE_TEST with the verdicts of a stop: the test's job completes first, with PORT_DISABLED or
PORT_RESTARTED (log 8). That the request's own completion writes follow the report read of the port's change is log 42. -/
def Obligations.DisableAndRestartLeaveTheBus : Prop :=
  ∀ (p : PortNo) (r : Request) (s : State), s.hold = .released → Names r p →
    let c := s.port p
    (CanTake s .portDisable r → c.st = .off → ∃ t, exec (.portDisable r) s = .next t ∧
      Completed s t r [] .ok 0 ∧ t.ports = s.ports ∧ BusMarked p Txn.afterPortRequest s t ∧ t.arb = s.arb ∧
      t.cache = s.cache ∧ t.we = s.we ∧ t.rep = s.rep ∧ SameBase s t ∧ OnlyInterrupt s t) ∧
    (CanTake s .portDisable r → c.st ≠ .off → ∃ t, exec (.portDisable r) s = .next t ∧ IsOff c (t.port p) ∧
      CompletedLast s t r .ok 0 ∧ LaneTestEnded p c stopGives .portDisabled s.mm.ops s t ∧ Reported p 2 s t ∧
      BusMarked p Txn.afterPortRequest s t ∧ RequestsDropped p s t ∧ SameOtherPorts p s t ∧ SameBase s t ∧
      SameWindow s t ∧ SameEngine s t) ∧
    (CanTake s .portRestart r → c.st = .off → ∃ t, exec (.portRestart r) s = .next t ∧
      Completed s t r [] .wrongState 0 ∧ t.ports = s.ports ∧ RequestFrame s t ∧ OnlyInterrupt s t) ∧
    (CanTake s .portRestart r → c.st = .empty → ∃ t, exec (.portRestart r) s = .next t ∧
      Completed s t r [] .noModule 1 ∧ t.ports = s.ports ∧ RequestFrame s t ∧ OnlyInterrupt s t) ∧
    (CanTake s .portRestart r → c.st ≠ .off → c.st ≠ .empty → ∃ t, exec (.portRestart r) s = .next t ∧
      IsIdentify true c (t.port p) ∧ CompletedLast s t r .ok 2 ∧
      LaneTestEnded p c stopGives .portRestarted s.mm.ops s t ∧ (c.st = .active → Reported p 2 s t) ∧
      (c.st ≠ .active → t.rep = s.rep) ∧ BusMarked p Txn.afterPortRequest s t ∧ RequestsDropped p s t ∧
      SameOtherPorts p s t ∧ SameBase s t ∧ SameWindow s t ∧ SameEngine s t)

/-- R162, R165, R188: PORT_QUERY writes the 128-byte snapshot, laid out as Formats gives, into a buffer that holds it.
-/
def Obligations.QueryWritesTheSnapshot : Prop :=
  ∀ (p : PortNo) (r : Request) (s : State), s.hold = .released → CanTake s .portQuery r → Names r p →
    let snap := snapshot (s.port p) s.bus.stuck[p] s.cache.epoch
    SnapshotLaidOut snap (s.port p) s.bus.stuck[p] s.cache.epoch ∧
    (r.bufLen.toNat < 128 → ∃ t, exec (.portQuery r) s = .next t ∧ Completed s t r [] .shortBuffer 0 ∧
      t.ports = s.ports ∧ RequestFrame s t ∧ OnlyInterrupt s t) ∧
    (128 ≤ r.bufLen.toNat → ∃ t, exec (.portQuery r) s = .next t ∧
      Completed s t r [.bufferWrite r.bufAddr.toNat snap] .ok 128 ∧ t.ports = s.ports ∧ RequestFrame s t ∧
      OnlyInterrupt s t)

/-- R112, R113, R115, R116, R161, R166: LANE_TEST: its checks in order, and its start: a new test on the named lanes
at the agreed grade, timed or continuous, in the lowest free slot (log 24). -/
def Obligations.LaneTestsAreCheckedAndStarted : Prop :=
  ∀ (p : PortNo) (r : Request) (s : State), s.hold = .released → CanTake s .laneTest r → Names r p →
    let c := s.port p
    let mask : LaneSet := r.argA.extractLsb' 0 4
    let dwell := (r.argB.extractLsb' 16 16).toNat
    let target := (r.argB.extractLsb' 0 8).toNat
    let refused := fun st : Status => ∃ t, exec (.laneTest r) s = .next t ∧ Completed s t r [] st 0 ∧
      t.ports = s.ports ∧ RequestFrame s t ∧ OnlyInterrupt s t
    let busy := ∃ k : Fin 16, ∃ j, s.we.slots[k] = some j ∧ j.port = p ∧ j.kind = .laneTest
    (c.st ≠ .active → refused .wrongState) ∧
    (c.st = .active → busy → refused .busy) ∧
    (c.st = .active → ¬ busy → mask &&& ~~~c.laneSet ≠ 0 → refused .badArg) ∧
    (c.st = .active → ¬ busy → mask &&& ~~~c.laneSet = 0 → r.bufLen.toNat < 96 → refused .shortBuffer) ∧
    (∀ g, c.st = .active → ¬ busy → mask &&& ~~~c.laneSet = 0 → 96 ≤ r.bufLen.toNat → c.agreed = some g →
      let lanes := if mask = 0 then c.laneSet else mask
      let asked := if target = 0 then s.we.cfg.defaultTarget else target
      ∃ t T k, exec (.laneTest r) s = .next t ∧
        (dwell ≠ 0 → T = timedTest .laneTest lanes g asked dwell (r.argA.getLsbD 8)) ∧
        (dwell = 0 → T = ⟨.laneTest, lanes, g, max 6 (min asked 15), none, none, 0, false, false,
          max 6 (min asked 15) ≠ asked, false, r.argA.getLsbD 8, false⟩) ∧
        t.port p = { c with
          test := some T, testTimer := T.dwell
          lanes := Vector.ofFn fun i =>
            { c.lane i with test := if hasLane lanes i = true then some ⟨0, none⟩ else none } } ∧
        s.we.slots[k] = none ∧ (∀ k' : Fin 16, k' < k → s.we.slots[k'] ≠ none) ∧
        t = { s.setPort p (t.port p) with
          we := { s.we with slots := s.we.slots.set k (some ⟨⟨r.index, r.iFlag, r.bufAddr⟩, p, .laneTest⟩) }
          out := [] })

/-- R122, R125, R162, R166: LANE_TEST_STOP ends the port's running LANE_TEST: a lane passes when its exponent has
reached the target, and is else STOPPED, or BELOW in a continuous test. The test's job completes, and the stop with
the number of lanes it ended; with no running LANE_TEST it completes with NO_TEST. -/
def Obligations.TestStopsEndTheLaneTest : Prop :=
  ∀ (p : PortNo) (r : Request) (s : State), s.hold = .released → CanTake s .laneTestStop r → Names r p →
    let c := s.port p
    ((∀ T, c.test = some T → T.kind = .bringUp ∨ T.ended = true) → ∃ t, exec (.laneTestStop r) s = .next t ∧
      Completed s t r [] .noTest 0 ∧ t.ports = s.ports ∧ RequestFrame s t ∧ OnlyInterrupt s t) ∧
    (∀ (T : PortTest) (k : Fin 16) (tag : JobTag), TestRuns s p T k tag →
      ∃ t, exec (.laneTestStop r) s = .next t ∧
        TestClosed c (t.port p) T (stopGives T) ∧
        JobCompleted s t s.mm.ops tag (bufferOp tag.bufAddr (t.port p).results) .ok (laneCount T.lanes) ∧
        CompletedLast s t r .ok (laneCount c.runningLanes) ∧ t.we.slots = s.we.slots.set k none ∧
        SameOtherPorts p s t ∧ t.rep = s.rep ∧ SharedFrame s t)

/-- R161, R162, R167: PORT_AWAIT completes at once in an awaited state and else takes the lowest free slot (log 24)
with its timeout; the timeout completes it with TIMED_OUT, and the port's entry into ACTIVE, HELD or EMPTY with OK,
into OFF with PORT_DISABLED, each with the port's word as it enters: an entry into ACTIVE by the COMMIT burst sent or
a COMMIT word, one into HELD by any event of the port, of its identity read or of its fill. AWAIT_TIMEOUT with no
timeout due changes nothing (log 1); that other blocks' writes may stand before an await's is log 8. -/
def Obligations.AwaitsAreAnsweredByStateOrTimeout : Prop :=
  ∀ (p : PortNo) (s : State), s.hold = .released →
    let word := fun c : Port => c.st.code.toNat + 256 * c.holdReason.code.toNat + 65536 * c.verdict.code.toNat +
      16777216 * c.attempt.toNat
    let settled := fun c : Port => c.st = .active ∨ c.st = .held ∨ c.st = .empty ∨ c.st = .off
    (∀ r, CanTake s .portAwait r → Names r p → settled (s.port p) → ∃ t, exec (.portAwait r) s = .next t ∧
      Completed s t r [] .ok (word (s.port p)) ∧ t.ports = s.ports ∧ RequestFrame s t ∧ OnlyInterrupt s t) ∧
    (∀ r, CanTake s .portAwait r → Names r p → ¬ settled (s.port p) → ∃ k : Fin 16, s.we.slots[k] = none ∧
      (∀ k' : Fin 16, k' < k → s.we.slots[k'] ≠ none) ∧
      exec (.portAwait r) s = .next { s with
        we := { s.we with slots := s.we.slots.set k (some ⟨⟨r.index, r.iFlag, r.bufAddr⟩, p,
          .await (if r.argA = 0 then none else some r.argA.toNat)⟩) }
        out := [] }) ∧
    (∀ (k : Fin 16) (tag : JobTag), s.we.slots[k] = some ⟨tag, p, .await (some 0)⟩ →
      ∃ t, exec (.awaitTimeout k) s = .next t ∧ JobCompleted s t s.mm.ops tag [] .timedOut (word (s.port p)) ∧
        t.we.slots = s.we.slots.set k none ∧ t.ports = s.ports ∧ t.rep = s.rep ∧ SharedFrame s t) ∧
    (∀ k : Fin 16, (∀ tag q, s.we.slots[k] ≠ some ⟨tag, q, .await (some 0)⟩) →
      ∃ t, exec (.awaitTimeout k) s = .next t ∧ Unchanged s t) ∧
    ∀ (k : Fin 16) (tag : JobTag) timer, s.we.slots[k] = some ⟨tag, p, .await timer⟩ → ¬ settled (s.port p) →
      let c := s.port p
      let ended := fun (st : Status) (result : Nat) (t : State) => t.we.slots[k] = none ∧
        completionOps s tag.index tag.iFlag [] st result <:+: t.mm.ops
      let active := { c with st := .active, holdReason := .noReason }
      (c.present = true → ∃ t, exec (.presenceLost p) s = .next t ∧ ended .ok (word (t.port p)) t) ∧
      (∀ r, CanTake s .portDisable r → Names r p →
        ∃ t, exec (.portDisable r) s = .next t ∧ ended .portDisabled (word (t.port p)) t) ∧
      (c.burst = some 0 → c.st = .confirm → c.phase = .commit →
        ∃ t, exec (.burstSent p) s = .next t ∧ ended .ok (word active) t) ∧
      (∀ (i : LaneNo) (w : Vector Byte 8) (b : BeaconPart), (c.lane i).st = .locked → checkOk 6 w.toList = true →
        byteAt w.toList 0 = 0x13 → (∀ f, (c.lane i).far = some f → (byteAt w.toList 4).toNat = f.lane.toNat) →
        (c.lane i).beaconPart = some b → c.far = some ⟨b.sender.chassis, b.sender.port⟩ →
        byteAt w.toList 1 = c.attempt → c.st = .confirm → c.role = .follow →
        ∃ t, exec (.trainingWord p i w) s = .next t ∧ ended .ok (word active) t) ∧
      ∀ cmd : Instr, (cmd ∈ [.settleExpiry p, .signalWindowExpiry p, .phaseWaitExpiry p, .trainTimeout p, .addressNack] ∨
          (cmd = .burstSent p ∧ c.phase ≠ .commit) ∨ (∃ i, cmd = .lockLost p i) ∨ (∃ i b, cmd = .beaconFrame p i b) ∨
          (∃ i b, cmd = .trainingWord p i b ∧ byteAt b.toList 0 ≠ 0x13) ∨ (∃ i n, cmd = .lineErrorIncrement p i n) ∨
          (∃ n, cmd = .byteNack n) ∨ (∃ b, cmd = .tryComplete b) ∨ (∃ h, cmd = .recoveryEnd h) ∨
          ∃ e, cmd = .fillComplete e) →
        ∃ t, exec cmd s = .next t ∧ ((t.port p).st = .held → ended .ok (word (t.port p)) t)

/-- R133, R134, R142, R158, R162, R168: MODULE_READ and MODULE_WRITE: their checks in order; a read joins the queue,
or is granted at once at an idle bus where nothing waits, where it ends with BUS_STUCK on a stuck branch, and a write
reads its buffer first. -/
def Obligations.ModuleTransfersAreCheckedAndQueued : Prop :=
  ∀ (p : PortNo) (r : Request) (s : State), s.hold = .released → Names r p →
    let len := (r.argA.extractLsb' 24 8).toNat
    let xfer := fun w : Bool => (⟨w, r.argA.extractLsb' 0 7, r.argA.extractLsb' 8 8, r.argA.extractLsb' 16 8, len,
      []⟩ : Transfer)
    let tag : JobTag := ⟨r.index, r.iFlag, r.bufAddr⟩
    (∀ k : Kind, (k = .moduleRead ∨ k = .moduleWrite) → CanTake s k r →
      let refused := fun st : Status => ∃ t, exec (k.row r) s = .next t ∧ Completed s t r [] st 0 ∧
        t.ports = s.ports ∧ RequestFrame s t ∧ OnlyInterrupt s t
      ((len = 0 ∨ 64 < len) → refused .badArg) ∧
      (1 ≤ len → len ≤ 64 → r.bufLen.toNat < len → refused .shortBuffer) ∧
      (1 ≤ len → len ≤ 64 → len ≤ r.bufLen.toNat → (s.port p).present = false → refused .noModule)) ∧
    (CanTake s .moduleWrite r → 1 ≤ len → len ≤ 64 → len ≤ r.bufLen.toNat → (s.port p).present = true →
      exec (.moduleWrite r) s = .next { s with
        mm := { s.mm with ops := s.mm.ops ++ [⟨.bufferRead r.bufAddr.toNat ⟨tag, p, xfer true⟩, false⟩] }
        out := [] }) ∧
    (CanTake s .moduleRead r → 1 ≤ len → len ≤ 64 → len ≤ r.bufLen.toNat → (s.port p).present = true →
      (s.bus.st ≠ .idle → exec (.moduleRead r) s = .next { s with
        arb := { s.arb with queue := s.arb.queue ++ [⟨tag, p, xfer false⟩] }, out := [] }) ∧
      (s.bus.st = .idle → NothingWaits s → s.bus.stuck[p] = false → ∃ t, exec (.moduleRead r) s = .next t ∧
        t.bus = BusGranted s (.job tag) p (xfer false) ∧ t.arb = { s.arb with since := 0 } ∧ t.ports = s.ports ∧
        t.cache = s.cache ∧ t.rep = s.rep ∧ t.regs = s.regs ∧ SameBase s t ∧ SameEngine s t ∧ ListGrows s t ∧
        t.out = [.busTry (xfer false).tryActs]) ∧
      (s.bus.st = .idle → NothingWaits s → s.bus.stuck[p] = true → ∃ t, exec (.moduleRead r) s = .next t ∧
        t.bus = s.bus ∧ t.arb = { s.arb with since := 0 } ∧ t.ports = s.ports ∧ t.cache = s.cache ∧ t.rep = s.rep ∧
        WorkRaised s t r.iFlag ∧ SameBase s t ∧ SameEngine s t ∧ ListGrows s t ∧
        completionOps s r.index r.iFlag [] .busStuck 0 <:+: t.mm.ops ∧ [Out.busStop] <+: t.out))

/-- R66 to R69, R128, R162, R169: PLAN_FLUSH empties the cache and raises its generation; a new epoch takes ports in
SIGNAL, DARK and AGREE back to IDENTIFY and makes one in the EPOCH_WAIT wait verify again, and reverify takes every
port that is not OFF or EMPTY to IDENTIFY and ends its running LANE_TEST with the verdicts of a stop and
PORT_RESTARTED. That the flush's own completion writes come last, after the LANE_TESTs it ends and after the report
read that a port's change issues, is log 42. -/
def Obligations.PlanFlushEmptiesTheCache : Prop :=
  ∀ (r : Request) (s : State), s.hold = .released → CanTake s .planFlush r →
    let newEpoch := r.argA.getLsbD 0
    let reverify := r.argA.getLsbD 1
    let epoch : BitVec 16 := r.argB.extractLsb' 0 16
    ∃ t, exec (.planFlush r) s = .next t ∧ t.cache.entries = [] ∧ t.cache.gen = s.cache.gen + 1 ∧
      t.cache.epoch = (if newEpoch then epoch else s.cache.epoch) ∧
      CompletedLast s t r .ok (s.cache.gen + 1).toNat ∧ SameBase s t ∧ SameWindow s t ∧ SameEngine s t ∧
      (reverify = false → (newEpoch = false ∨ epoch = s.cache.epoch) → t.ports = s.ports ∧
        Completed s t r [] .ok (s.cache.gen + 1).toNat ∧ t.we = s.we ∧ t.rep = s.rep ∧ OnlyInterrupt s t) ∧
      (reverify = false → SameBus s t ∧ t.cache.fillPending = s.cache.fillPending) ∧
      (reverify = false → newEpoch = true → epoch ≠ s.cache.epoch → ∀ p,
        ((s.port p).st ≠ .signal → (s.port p).st ≠ .dark → (s.port p).st ≠ .agree → t.port p = s.port p) ∧
        (((s.port p).st = .dark ∨ (s.port p).st = .agree ∨
            ((s.port p).st = .signal ∧ (s.port p).verdict ≠ .epochWait)) →
          IsIdentify false (s.port p) (t.port p)) ∧
        ∀ far, (s.port p).st = .signal → (s.port p).verdict = .epochWait →
          (s.port p).farIdentity (s.port p).identifiedSet = some far →
          VerdictActed (t.env p) (s.port p) (s.port p).identifiedSet far (t.port p)) ∧
      (reverify = true → ∀ p : PortNo,
        (((s.port p).st = .off ∨ (s.port p).st = .empty) → t.port p = s.port p) ∧
        (((s.port p).st ≠ .off ∧ (s.port p).st ≠ .empty) →
          IsIdentify false (s.port p) (t.port p) ∧
          (∃ before, s.mm.ops <+: before ∧ LaneTestEnded p (s.port p) stopGives .portRestarted before s t) ∧ t.arb.requests[p] = false ∧ t.cache.fillPending[p] = false ∧
          ∀ x, s.bus.current = some x → x.port = p → x.requester = .port → ∃ y, t.bus.current = some y ∧
            y = { x with cut := true }))

/-- R16, R158, R162, R164, R170: CAPS_LIMIT records its two ceilings, at most 4, and leaves the caps as they are;
SET_CONFIG hands the memory master the read of the anchor block at the latched address. -/
def Obligations.CapsLimitAndSetConfigStart : Prop :=
  (∀ (p : PortNo) (r : Request) (s : State), s.hold = .released → CanTake s .capsLimit r → Names r p →
    let g := min (r.argA.extractLsb' 0 8).toNat 4
    let w := min (r.argA.extractLsb' 8 8).toNat 4
    ∃ t, exec (.capsLimit r) s = .next t ∧ t.port p = { s.port p with gradeCeil := g, widthCeil := w } ∧
      Completed s t r [] .ok (g + 256 * w) ∧ SameOtherPorts p s t ∧ RequestFrame s t ∧ OnlyInterrupt s t) ∧
  ∀ (r : Request) (s : State), s.hold = .released → CanTake s .setConfig r →
    exec (.setConfig r) s = .next { s with
      mm := { s.mm with ops := s.mm.ops ++ [⟨.configRead (64 * s.we.latched.toNat) r, false⟩] }, out := [] }

/-! ## Timebase -/

/-- R27, R28, R38, R119, R156, R167, R171, R186: a tick raises the millisecond counter, wrapping, and moves every
timer of the part by 1 ms, a timer that is due staying at 0 until its row (log 1), an elapsed time up to its limit
(log 23); nothing else changes. -/
def Obligations.TheTickMovesEveryTimer : Prop :=
  ∀ s : State, s.hold = .released → ∃ t, exec .tick s = .next t ∧ t.ms = s.ms + 1 ∧
    (∀ p, t.port p = { s.port p with
      phaseTimer := (s.port p).phaseTimer.map (· - 1)
      dwellTimer := (s.port p).dwellTimer.map (· - 1)
      testTimer := (s.port p).testTimer.map (· - 1)
      sendClock := (s.port p).sendClock.map (· - 1)
      test := (s.port p).test.map fun T => if T.ended then T else { T with
        elapsed := min (T.elapsed + 1) (max (T.dwell.getD (281474976710655 / T.grade.bitsPerMs)) T.elapsed) } }) ∧
    (∀ k : Fin 16, t.we.slots[k] = s.we.slots[k].map fun j =>
      match j.kind with
      | .laneTest => j
      | .await timer => { j with kind := .await (timer.map (· - 1)) }) ∧
    t.we = { s.we with slots := t.we.slots, scanTimer := s.we.scanTimer.map (· - 1) } ∧
    t.bus = { s.bus with watchdog := s.bus.watchdog.map (· - 1) } ∧
    t.mm = { s.mm with age := if s.mm.ops = [] then s.mm.age else min (s.mm.age + 1) 50 } ∧
    t.cache = s.cache ∧ t.arb = s.arb ∧ t.rep = s.rep ∧ t.regs = s.regs ∧ t.hold = s.hold ∧ t.straps = s.straps ∧
    t.pending = s.pending ∧ t.out = []

/-! ## Rules on values -/

/-- R94: the lane-set rule, with the rule's three examples. Beside it, R95: the highest common grade, at or below the
next grade when there is one, and the lowest common grade when none is at or below it; R15: the own caps; R93: the
common sets, from the first record of the usable set that the far end sent, or a SELF port's own caps (R110); R96:
what closing a failed attempt changes. -/
def Obligations.CapsLaneSetGradeAndCloseRules : Prop :=
  ((∀ (W : BitVec 3) (U : LaneSet) (S : LaneSet),
     laneSetRule W U = some S ↔
       (hasWidth W 4 = true ∧ U = 0b1111 ∧ S = 0b1111) ∨
       (¬ (hasWidth W 4 = true ∧ U = 0b1111) ∧ hasWidth W 2 = true ∧ U &&& 0b0011 = 0b0011 ∧ S = 0b0011) ∨
       (¬ (hasWidth W 4 = true ∧ U = 0b1111) ∧ hasWidth W 2 = true ∧ U &&& 0b0011 ≠ 0b0011 ∧ U &&& 0b1100 = 0b1100 ∧
         S = 0b1100) ∨
       (¬ (hasWidth W 4 = true ∧ U = 0b1111) ∧
         ¬ (hasWidth W 2 = true ∧ (U &&& 0b0011 = 0b0011 ∨ U &&& 0b1100 = 0b1100)) ∧ hasWidth W 1 = true ∧
         ∃ i : LaneNo, hasLane U i = true ∧ (∀ j, hasLane U j = true → i ≤ j) ∧ S = 1#4 <<< i.val)) ∧
   laneSetRule 0b111 0b1011 = some 0b0011 ∧ laneSetRule 0b111 0b1010 = some 0b0010 ∧
   laneSetRule 0b110 0b1010 = none) ∧
  (∀ (m : BitVec 4) (next : Option Grade), m ≠ 0 → ∃ g, gradeRule m next = some g ∧ hasGrade m g = true ∧
     (next = none → ∀ h, hasGrade m h = true → h.num ≤ g.num) ∧
     (∀ n, next = some n → (∃ h, hasGrade m h = true ∧ h.num ≤ n.num) →
       g.num ≤ n.num ∧ ∀ h, hasGrade m h = true → h.num ≤ n.num → h.num ≤ g.num) ∧
     (∀ n, next = some n → (∀ h, hasGrade m h = true → n.num < h.num) →
       ∀ h, hasGrade m h = true → g.num ≤ h.num)) ∧
  (∀ c : Port,
    let d := c.computeCaps
    d = { c with capGrades := d.capGrades, capWidths := d.capWidths } ∧
    (c.ident = none → d.capGrades = 0 ∧ d.capWidths = 0) ∧
    ∀ m, c.ident = some m →
      let dm := m.length.toNat
      let reach := if m.kind ≠ .passiveCopper ∨ dm ≤ 20 then 4 else if dm ≤ 30 then 3 else if dm ≤ 50 then 2 else 1
      (∀ g : Grade, hasGrade d.capGrades g = true ↔ g.num ≤ max 1 (min m.grade.toNat 4) ∧ g.num ≤ reach ∧
        (∀ pc, c.plan = .planned pc → pc.grades = 0 ∨ hasGrade pc.grades g = true) ∧
        (c.gradeCeil = 0 ∨ g.num ≤ c.gradeCeil)) ∧
      ∀ w : Nat, hasWidth d.capWidths w = true ↔ (w = 1 ∨ w = 2 ∨ w = 4) ∧ w ≤ m.lanes ∧
        (∀ pc, c.plan = .planned pc → (pc.minWidth = 1 ∨ pc.minWidth = 2 ∨ pc.minWidth = 4) →
          pc.minWidth.toNat ≤ w) ∧
        (c.widthCeil = 0 ∨ w ≤ c.widthCeil)) ∧
  (∀ c : Port,
    let fromFar := fun (i : LaneNo) (b : BeaconPart) => hasLane c.usable i = true ∧ (c.lane i).beaconPart = some b ∧
      c.far = some ⟨b.sender.chassis, b.sender.port⟩
    (c.role = .self → c.commonGrades = c.capGrades ∧ c.commonWidths = c.capWidths) ∧
    (∀ i b, c.role ≠ .self → fromFar i b → (∀ j b', j < i → ¬ fromFar j b') →
      c.commonGrades = c.capGrades &&& b.grades ∧ c.commonWidths = c.capWidths &&& b.widths) ∧
    (c.role ≠ .self → (∀ i b, ¬ fromFar i b) → c.commonGrades = 0 ∧ c.commonWidths = 0)) ∧
  ∀ (c : Port) (G : LaneSet) (g : Grade), c.agreed = some g →
    let below := fun h : Grade => hasGrade c.commonGrades h = true ∧ h.num < g.num
    (∀ h, below h → (∀ h', below h' → h'.num ≤ h.num) → c.closeFailed G = { c with nextGrade := some h }) ∧
    ((∀ h, ¬ below h) →
      c.closeFailed G = { c with nextGrade := none, usable := c.usable &&& ~~~(c.laneSet &&& ~~~G) })

/-- R112, R116, R117, R118, R122: the effective target, dwell and error limit of a timed or bring-up test, with its
flags; and the demonstrated exponent, which is at most 13 for every N the counter can reach. -/
def Obligations.TestLengthsAndExponents : Prop :=
  (∀ (kind : TestKind) (lanes : LaneSet) (g : Grade) (t d : Nat) (drop : Bool), 1 ≤ t → 1 ≤ d → d ≤ 65535 →
     let R := g.bitsPerMs
     let T := max 6 (min t 15)
     let x := timedTest kind lanes g t d drop
     x.clamped = decide (T ≠ t) ∧ x.elapsed = 0 ∧ x.ended = false ∧
     (3 * 10 ^ T ≤ R * d → x.dwell = some d ∧ x.target = T ∧ x.extended = false ∧ x.lowered = false) ∧
     (R * d < 3 * 10 ^ T → 3 * 10 ^ T ≤ R * 65535 → ∃ D, x.dwell = some D ∧ d < D ∧ D ≤ 65535 ∧
       3 * 10 ^ T ≤ R * D ∧ (∀ D' < D, R * D' < 3 * 10 ^ T) ∧ x.target = T ∧ x.extended = true ∧ x.lowered = false) ∧
     (R * 65535 < 3 * 10 ^ T → x.dwell = some 65535 ∧ x.extended = decide (d < 65535) ∧ x.lowered = true ∧
       x.target < T ∧ 3 * 10 ^ x.target ≤ R * 65535 ∧ R * 65535 < 3 * 10 ^ (x.target + 1) ∧ 11 ≤ x.target) ∧
     (13 ≤ T → x.lowered = true ∧ x.target = if g = .g1 ∨ g = .g2 then 11 else 12) ∧
     ∃ D a, x.dwell = some D ∧ x.eAllow = some a ∧ a + 1 = R * D / (3 * 10 ^ x.target) ∧ a ≤ 2184499) ∧
  (∀ e n : Nat, n ≤ 281474976710655 →
     demonstrated e n ≤ 13 ∧
     (e = 4294967295 → demonstrated e n = 0) ∧
     (n < 3 * (e + 1) → demonstrated e n = 0) ∧
     (e ≠ 4294967295 → 3 * (e + 1) ≤ n → 3 * (e + 1) * 10 ^ demonstrated e n ≤ n ∧
       ∀ k, 3 * (e + 1) * 10 ^ k ≤ n → k ≤ demonstrated e n))

/-- R73 to R82, R89: the verdict is that of the first check that fails, in the order of R75, and the role follows from
it and from the two cable ends. The port's far identity is that of the lowest lane of the verified set, the seen
identity the first record of R74, the observed map the far lanes of the verified set. -/
def Obligations.TheVerdictIsTheFirstCheckThatFails : Prop :=
  ∀ (env : Env) (c : Port) (vs : LaneSet) (far : CableEnd),
    let own : CableEnd := ⟨env.chassis, portBits env.self⟩
    let v := c.verdictOf env vs far
    let ends := fun f : Ident => (⟨f.chassis, f.port⟩ : CableEnd)
    let mixed := ∃ i f, hasLane vs i = true ∧ (c.lane i).far = some f ∧ ends f ≠ far
    let stale := ∃ i f, hasLane vs i = true ∧ (c.lane i).far = some f ∧ f.epoch ≠ env.epoch
    let unseen := ∃ b, SeenIdentity c vs b ∧ ¬ (b.seenChassis = env.chassis ∧ b.seenPort.toNat = env.self.val)
    let crossed := ∃ i j f h, i < j ∧ hasLane vs i = true ∧ hasLane vs j = true ∧ (c.lane i).far = some f ∧
      (c.lane j).far = some h ∧ f.lane = h.lane
    let mapped := fun pc : PlanCopy => ∀ i, hasLane vs i = true →
      ∃ f, (c.lane i).far = some f ∧ f.lane = pc.laneMap.extractLsb' (2 * i.val) 2
    (∀ i f, hasLane vs i = true → (∀ j, j < i → hasLane vs j = false) → (c.lane i).far = some f →
      c.farIdentity vs = some (ends f)) ∧
    (∀ i : LaneNo, (hasLane c.identifiedSet i = true ↔ (c.lane i).far ≠ none) ∧
      (hasLane c.presentSet i = true ↔ ∃ m, c.ident = some m ∧ i.val < m.lanes) ∧
      (hasLane c.heardSet i = true ↔ hasLane c.identifiedSet i = true ∧ hasLane c.presentSet i = true) ∧
      (c.observe vs)[i] = if hasLane vs i = true then (c.lane i).far.map Ident.lane else none) ∧
    (far = own → (∀ pc, c.plan = .planned pc → pc.loopback = false) → v = .loopback) ∧
    (∀ pc, far = own → c.plan = .planned pc → pc.loopback = true →
      (mixed → v = .split) ∧ (¬ mixed → crossed → v = .lanesCrossed) ∧ (¬ mixed → ¬ crossed → v = .loopbackOk)) ∧
    (far ≠ own → mixed → v = .split) ∧
    (far ≠ own → ¬ mixed → unseen → v = .halfCrossed) ∧
    (far ≠ own → ¬ mixed → ¬ unseen → stale → v = .epochWait) ∧
    (far ≠ own → ¬ mixed → ¬ unseen → ¬ stale →
      ((c.plan = .unplanned ∨ c.plan = .notLookedUp) → (crossed → v = .lanesCrossed) ∧ (¬ crossed → v = .unplanned)) ∧
      ∀ pc, c.plan = .planned pc →
        let matched := (far.chassis ^^^ pc.farChassis) &&& pc.mask = 0 ∧ (pc.anyPort = true ∨ far.port = pc.farPort)
        ((pc.loopback = true ∨ ¬ matched) → v = .miswired) ∧
        (pc.loopback = false → matched → crossed → v = .lanesCrossed) ∧
        (pc.loopback = false → matched → ¬ crossed → mapped pc → v = .matched) ∧
        (pc.loopback = false → matched → ¬ crossed → ¬ mapped pc →
          v = if pc.remap then .remapped else .lanesCrossed)) ∧
    (v.passes = true ↔ v = .matched ∨ v = .remapped ∨ v = .loopbackOk ∨ v = .unplanned) ∧
    electRole env v far =
      if v = .loopbackOk then .self
      else if v = .matched ∨ v = .remapped ∨ v = .unplanned then
        if env.chassis.toNat * 32 + env.self.val < far.chassis.toNat * 32 + far.port.toNat then .lead else .follow
      else .noRole

/-- R39, R41, R42 to R46, R48, R50, R51, R188: what a port sends reads back as it was meant: a beacon, in either
polarity, gives its sender and the record of R48, and carries the verdict; a training word gives its phase, attempt,
good mask, reason and lane; reserved bytes and bits are 0. The seen identity a port sends is the far end on its lowest
identified lane. -/
def Obligations.FramesReadBackAsSent : Prop :=
  ∀ (env : Env) (c : Port) (i : LaneNo),
    ((∀ j, (c.lane j).far = none) → c.seenSent = (0, 0xFF)) ∧
    (∀ j f, (c.lane j).far = some f → (∀ k, k < j → (c.lane k).far = none) →
      c.seenSent = (f.chassis, BitVec.ofNat 8 f.port.toNat)) ∧
    (c.phase = .hello ∨ c.phase = .propose ∨ c.phase = .accept ∨ c.phase = .reject ∨ c.phase = .go ∨
        c.phase = .heldBeacon → env.chassis ≠ 0 →
      ∃ frame, c.beaconBytes env i = 0xB3 :: 0x8E :: frame ∧ frame.length = 18 ∧ checkOk 16 frame = true ∧
        byteAt frame 11 = c.verdict.code ∧ byteAt frame 15 = 0 ∧ (byteAt frame 3).getLsbD 7 = false ∧
        (byteAt frame 6).getLsbD 7 = false ∧
        (∀ l : Lane, l.polarity = .normal → l.correct frame = frame) ∧
        (∀ l : Lane, l.polarity = .inverted → l.correct (frame.map fun b => ~~~b) = frame) ∧
        beaconOf frame = some
          { phase := c.phase, attempt := c.attempt, good := c.good
            reason := (if c.st = .held then c.holdReason else c.phaseReason).code
            beacon := some
              { sender := ⟨env.chassis, BitVec.ofNat 5 env.self.val, BitVec.ofNat 2 i.val, env.epoch⟩
                propGrade := gradeByte c.agreed, propSet := c.laneSet, grades := c.capGrades, widths := c.capWidths
                seenChassis := c.seenSent.1, seenPort := c.seenSent.2 } }) ∧
    (c.phase = .training ∨ c.phase = .result ∨ c.phase = .commit ∨ c.phase = .retry ∨ c.phase = .heldWord →
      (c.wordBytes i).length = 8 ∧ checkOk 6 (c.wordBytes i) = true ∧
      Phase.ofWord (byteAt (c.wordBytes i) 0) = some c.phase ∧ byteAt (c.wordBytes i) 1 = c.attempt ∧
      (byteAt (c.wordBytes i) 2).extractLsb' 0 4 = c.good ∧
      byteAt (c.wordBytes i) 3 = (if c.st = .held then c.holdReason else c.phaseReason).code ∧
      (byteAt (c.wordBytes i) 4).toNat = i.val ∧ byteAt (c.wordBytes i) 5 = 0 ∧
      (byteAt (c.wordBytes i) 2).extractLsb' 4 4 = 0)

/-! ## Invariants -/

/-- R1, R5, R29, R90, R151: every step keeps the sub-step and the two sideband outputs as the port state gives them,
and the attempt budget within 1 to 8 with attempts left within it. -/
def Obligations.StepsKeepThePortInvariants : Prop :=
  (∀ s t : State, OutputsMatchState s → step s = .next t → OutputsMatchState t) ∧
  (∀ s t : State, AttemptsWithinBudget s → step s = .next t → AttemptsWithinBudget t)

/-- R58, R61, R62, R173, R174, R176, R178: every step keeps the cache at 8 entries or fewer, one for a port, all
valid; and the report queue as the records give it. -/
def Obligations.StepsKeepTheCacheAndTheReportQueue : Prop :=
  (∀ s t : State, CacheWellFormed s → step s = .next t → CacheWellFormed t) ∧
  (∀ s t : State, ReportQueueMatchesRecords s → step s = .next t → ReportQueueMatchesRecords t)
end

