-- ==== Sys2Proof/Laws/State.lean ====
section
/-!
SUPPORT. One lemma per field per update of State that is a plain record update: the fields it leaves alone, and what
it makes of the field it sets. All hold by rfl.
-/

namespace Sys2Proof.Machine

/-! ## setPort -/

@[simp] theorem State.setPort_hold (s : State) (p : PortNo) (c : Port) : (s.setPort p c).hold = s.hold := rfl
@[simp] theorem State.setPort_straps (s : State) (p : PortNo) (c : Port) : (s.setPort p c).straps = s.straps := rfl
@[simp] theorem State.setPort_ms (s : State) (p : PortNo) (c : Port) : (s.setPort p c).ms = s.ms := rfl
@[simp] theorem State.setPort_cache (s : State) (p : PortNo) (c : Port) : (s.setPort p c).cache = s.cache := rfl
@[simp] theorem State.setPort_bus (s : State) (p : PortNo) (c : Port) : (s.setPort p c).bus = s.bus := rfl
@[simp] theorem State.setPort_arb (s : State) (p : PortNo) (c : Port) : (s.setPort p c).arb = s.arb := rfl
@[simp] theorem State.setPort_we (s : State) (p : PortNo) (c : Port) : (s.setPort p c).we = s.we := rfl
@[simp] theorem State.setPort_mm (s : State) (p : PortNo) (c : Port) : (s.setPort p c).mm = s.mm := rfl
@[simp] theorem State.setPort_rep (s : State) (p : PortNo) (c : Port) : (s.setPort p c).rep = s.rep := rfl
@[simp] theorem State.setPort_regs (s : State) (p : PortNo) (c : Port) : (s.setPort p c).regs = s.regs := rfl
@[simp] theorem State.setPort_out (s : State) (p : PortNo) (c : Port) : (s.setPort p c).out = s.out := rfl
@[simp] theorem State.setPort_pending (s : State) (p : PortNo) (c : Port) : (s.setPort p c).pending = s.pending := rfl

/-! ## emit -/

@[simp] theorem State.emit_hold (s : State) (o : List Out) : (s.emit o).hold = s.hold := rfl
@[simp] theorem State.emit_straps (s : State) (o : List Out) : (s.emit o).straps = s.straps := rfl
@[simp] theorem State.emit_ms (s : State) (o : List Out) : (s.emit o).ms = s.ms := rfl
@[simp] theorem State.emit_ports (s : State) (o : List Out) : (s.emit o).ports = s.ports := rfl
@[simp] theorem State.emit_cache (s : State) (o : List Out) : (s.emit o).cache = s.cache := rfl
@[simp] theorem State.emit_bus (s : State) (o : List Out) : (s.emit o).bus = s.bus := rfl
@[simp] theorem State.emit_arb (s : State) (o : List Out) : (s.emit o).arb = s.arb := rfl
@[simp] theorem State.emit_we (s : State) (o : List Out) : (s.emit o).we = s.we := rfl
@[simp] theorem State.emit_mm (s : State) (o : List Out) : (s.emit o).mm = s.mm := rfl
@[simp] theorem State.emit_rep (s : State) (o : List Out) : (s.emit o).rep = s.rep := rfl
@[simp] theorem State.emit_regs (s : State) (o : List Out) : (s.emit o).regs = s.regs := rfl
@[simp] theorem State.emit_pending (s : State) (o : List Out) : (s.emit o).pending = s.pending := rfl

/-! ## raise -/

@[simp] theorem State.raise_hold (s : State) (e : BitVec 5) : (s.raise e).hold = s.hold := rfl
@[simp] theorem State.raise_straps (s : State) (e : BitVec 5) : (s.raise e).straps = s.straps := rfl
@[simp] theorem State.raise_ms (s : State) (e : BitVec 5) : (s.raise e).ms = s.ms := rfl
@[simp] theorem State.raise_ports (s : State) (e : BitVec 5) : (s.raise e).ports = s.ports := rfl
@[simp] theorem State.raise_cache (s : State) (e : BitVec 5) : (s.raise e).cache = s.cache := rfl
@[simp] theorem State.raise_bus (s : State) (e : BitVec 5) : (s.raise e).bus = s.bus := rfl
@[simp] theorem State.raise_arb (s : State) (e : BitVec 5) : (s.raise e).arb = s.arb := rfl
@[simp] theorem State.raise_we (s : State) (e : BitVec 5) : (s.raise e).we = s.we := rfl
@[simp] theorem State.raise_mm (s : State) (e : BitVec 5) : (s.raise e).mm = s.mm := rfl
@[simp] theorem State.raise_rep (s : State) (e : BitVec 5) : (s.raise e).rep = s.rep := rfl
@[simp] theorem State.raise_out (s : State) (e : BitVec 5) : (s.raise e).out = s.out := rfl
@[simp] theorem State.raise_pending (s : State) (e : BitVec 5) : (s.raise e).pending = s.pending := rfl

/-! ## push -/

@[simp] theorem State.push_hold (s : State) (op : MemOp) : (s.push op).hold = s.hold := rfl
@[simp] theorem State.push_straps (s : State) (op : MemOp) : (s.push op).straps = s.straps := rfl
@[simp] theorem State.push_ms (s : State) (op : MemOp) : (s.push op).ms = s.ms := rfl
@[simp] theorem State.push_ports (s : State) (op : MemOp) : (s.push op).ports = s.ports := rfl
@[simp] theorem State.push_cache (s : State) (op : MemOp) : (s.push op).cache = s.cache := rfl
@[simp] theorem State.push_bus (s : State) (op : MemOp) : (s.push op).bus = s.bus := rfl
@[simp] theorem State.push_arb (s : State) (op : MemOp) : (s.push op).arb = s.arb := rfl
@[simp] theorem State.push_we (s : State) (op : MemOp) : (s.push op).we = s.we := rfl
@[simp] theorem State.push_rep (s : State) (op : MemOp) : (s.push op).rep = s.rep := rfl
@[simp] theorem State.push_regs (s : State) (op : MemOp) : (s.push op).regs = s.regs := rfl
@[simp] theorem State.push_out (s : State) (op : MemOp) : (s.push op).out = s.out := rfl
@[simp] theorem State.push_pending (s : State) (op : MemOp) : (s.push op).pending = s.pending := rfl

/-! ## popMem -/

@[simp] theorem State.popMem_hold (s : State) : (s.popMem).hold = s.hold := rfl
@[simp] theorem State.popMem_straps (s : State) : (s.popMem).straps = s.straps := rfl
@[simp] theorem State.popMem_ms (s : State) : (s.popMem).ms = s.ms := rfl
@[simp] theorem State.popMem_ports (s : State) : (s.popMem).ports = s.ports := rfl
@[simp] theorem State.popMem_cache (s : State) : (s.popMem).cache = s.cache := rfl
@[simp] theorem State.popMem_bus (s : State) : (s.popMem).bus = s.bus := rfl
@[simp] theorem State.popMem_arb (s : State) : (s.popMem).arb = s.arb := rfl
@[simp] theorem State.popMem_we (s : State) : (s.popMem).we = s.we := rfl
@[simp] theorem State.popMem_rep (s : State) : (s.popMem).rep = s.rep := rfl
@[simp] theorem State.popMem_regs (s : State) : (s.popMem).regs = s.regs := rfl
@[simp] theorem State.popMem_out (s : State) : (s.popMem).out = s.out := rfl
@[simp] theorem State.popMem_pending (s : State) : (s.popMem).pending = s.pending := rfl

/-! ## abandonReads -/

@[simp] theorem State.abandonReads_hold (s : State) (f : MemOp → Bool) : (s.abandonReads f).hold = s.hold := rfl
@[simp] theorem State.abandonReads_straps (s : State) (f : MemOp → Bool) : (s.abandonReads f).straps = s.straps := rfl
@[simp] theorem State.abandonReads_ms (s : State) (f : MemOp → Bool) : (s.abandonReads f).ms = s.ms := rfl
@[simp] theorem State.abandonReads_ports (s : State) (f : MemOp → Bool) : (s.abandonReads f).ports = s.ports := rfl
@[simp] theorem State.abandonReads_cache (s : State) (f : MemOp → Bool) : (s.abandonReads f).cache = s.cache := rfl
@[simp] theorem State.abandonReads_bus (s : State) (f : MemOp → Bool) : (s.abandonReads f).bus = s.bus := rfl
@[simp] theorem State.abandonReads_arb (s : State) (f : MemOp → Bool) : (s.abandonReads f).arb = s.arb := rfl
@[simp] theorem State.abandonReads_we (s : State) (f : MemOp → Bool) : (s.abandonReads f).we = s.we := rfl
@[simp] theorem State.abandonReads_rep (s : State) (f : MemOp → Bool) : (s.abandonReads f).rep = s.rep := rfl
@[simp] theorem State.abandonReads_regs (s : State) (f : MemOp → Bool) : (s.abandonReads f).regs = s.regs := rfl
@[simp] theorem State.abandonReads_out (s : State) (f : MemOp → Bool) : (s.abandonReads f).out = s.out := rfl
@[simp] theorem State.abandonReads_pending (s : State) (f : MemOp → Bool) : (s.abandonReads f).pending = s.pending := rfl

/-! ## scanRead -/

@[simp] theorem State.scanRead_hold (s : State) : (s.scanRead).hold = s.hold := rfl
@[simp] theorem State.scanRead_straps (s : State) : (s.scanRead).straps = s.straps := rfl
@[simp] theorem State.scanRead_ms (s : State) : (s.scanRead).ms = s.ms := rfl
@[simp] theorem State.scanRead_ports (s : State) : (s.scanRead).ports = s.ports := rfl
@[simp] theorem State.scanRead_cache (s : State) : (s.scanRead).cache = s.cache := rfl
@[simp] theorem State.scanRead_bus (s : State) : (s.scanRead).bus = s.bus := rfl
@[simp] theorem State.scanRead_arb (s : State) : (s.scanRead).arb = s.arb := rfl
@[simp] theorem State.scanRead_rep (s : State) : (s.scanRead).rep = s.rep := rfl
@[simp] theorem State.scanRead_regs (s : State) : (s.scanRead).regs = s.regs := rfl
@[simp] theorem State.scanRead_out (s : State) : (s.scanRead).out = s.out := rfl
@[simp] theorem State.scanRead_pending (s : State) : (s.scanRead).pending = s.pending := rfl

/-! ## startScan -/

@[simp] theorem State.startScan_hold (s : State) : (s.startScan).hold = s.hold := rfl
@[simp] theorem State.startScan_straps (s : State) : (s.startScan).straps = s.straps := rfl
@[simp] theorem State.startScan_ms (s : State) : (s.startScan).ms = s.ms := rfl
@[simp] theorem State.startScan_ports (s : State) : (s.startScan).ports = s.ports := rfl
@[simp] theorem State.startScan_cache (s : State) : (s.startScan).cache = s.cache := rfl
@[simp] theorem State.startScan_bus (s : State) : (s.startScan).bus = s.bus := rfl
@[simp] theorem State.startScan_arb (s : State) : (s.startScan).arb = s.arb := rfl
@[simp] theorem State.startScan_rep (s : State) : (s.startScan).rep = s.rep := rfl
@[simp] theorem State.startScan_regs (s : State) : (s.startScan).regs = s.regs := rfl
@[simp] theorem State.startScan_out (s : State) : (s.startScan).out = s.out := rfl
@[simp] theorem State.startScan_pending (s : State) : (s.startScan).pending = s.pending := rfl

/-! ## reportRead -/

@[simp] theorem State.reportRead_hold (s : State) : (s.reportRead).hold = s.hold := rfl
@[simp] theorem State.reportRead_straps (s : State) : (s.reportRead).straps = s.straps := rfl
@[simp] theorem State.reportRead_ms (s : State) : (s.reportRead).ms = s.ms := rfl
@[simp] theorem State.reportRead_ports (s : State) : (s.reportRead).ports = s.ports := rfl
@[simp] theorem State.reportRead_cache (s : State) : (s.reportRead).cache = s.cache := rfl
@[simp] theorem State.reportRead_bus (s : State) : (s.reportRead).bus = s.bus := rfl
@[simp] theorem State.reportRead_arb (s : State) : (s.reportRead).arb = s.arb := rfl
@[simp] theorem State.reportRead_we (s : State) : (s.reportRead).we = s.we := rfl
@[simp] theorem State.reportRead_regs (s : State) : (s.reportRead).regs = s.regs := rfl
@[simp] theorem State.reportRead_out (s : State) : (s.reportRead).out = s.out := rfl
@[simp] theorem State.reportRead_pending (s : State) : (s.reportRead).pending = s.pending := rfl

/-! ## writerIdle -/

@[simp] theorem State.writerIdle_hold (s : State) : (s.writerIdle).hold = s.hold := rfl
@[simp] theorem State.writerIdle_straps (s : State) : (s.writerIdle).straps = s.straps := rfl
@[simp] theorem State.writerIdle_ms (s : State) : (s.writerIdle).ms = s.ms := rfl
@[simp] theorem State.writerIdle_ports (s : State) : (s.writerIdle).ports = s.ports := rfl
@[simp] theorem State.writerIdle_cache (s : State) : (s.writerIdle).cache = s.cache := rfl
@[simp] theorem State.writerIdle_bus (s : State) : (s.writerIdle).bus = s.bus := rfl
@[simp] theorem State.writerIdle_arb (s : State) : (s.writerIdle).arb = s.arb := rfl
@[simp] theorem State.writerIdle_we (s : State) : (s.writerIdle).we = s.we := rfl
@[simp] theorem State.writerIdle_mm (s : State) : (s.writerIdle).mm = s.mm := rfl
@[simp] theorem State.writerIdle_regs (s : State) : (s.writerIdle).regs = s.regs := rfl
@[simp] theorem State.writerIdle_out (s : State) : (s.writerIdle).out = s.out := rfl
@[simp] theorem State.writerIdle_pending (s : State) : (s.writerIdle).pending = s.pending := rfl

/-! ## setFillPending -/

@[simp] theorem State.setFillPending_hold (s : State) (p : PortNo) (b : Bool) : (s.setFillPending p b).hold = s.hold := rfl
@[simp] theorem State.setFillPending_straps (s : State) (p : PortNo) (b : Bool) : (s.setFillPending p b).straps = s.straps := rfl
@[simp] theorem State.setFillPending_ms (s : State) (p : PortNo) (b : Bool) : (s.setFillPending p b).ms = s.ms := rfl
@[simp] theorem State.setFillPending_ports (s : State) (p : PortNo) (b : Bool) : (s.setFillPending p b).ports = s.ports := rfl
@[simp] theorem State.setFillPending_bus (s : State) (p : PortNo) (b : Bool) : (s.setFillPending p b).bus = s.bus := rfl
@[simp] theorem State.setFillPending_arb (s : State) (p : PortNo) (b : Bool) : (s.setFillPending p b).arb = s.arb := rfl
@[simp] theorem State.setFillPending_we (s : State) (p : PortNo) (b : Bool) : (s.setFillPending p b).we = s.we := rfl
@[simp] theorem State.setFillPending_mm (s : State) (p : PortNo) (b : Bool) : (s.setFillPending p b).mm = s.mm := rfl
@[simp] theorem State.setFillPending_rep (s : State) (p : PortNo) (b : Bool) : (s.setFillPending p b).rep = s.rep := rfl
@[simp] theorem State.setFillPending_regs (s : State) (p : PortNo) (b : Bool) : (s.setFillPending p b).regs = s.regs := rfl
@[simp] theorem State.setFillPending_out (s : State) (p : PortNo) (b : Bool) : (s.setFillPending p b).out = s.out := rfl
@[simp] theorem State.setFillPending_pending (s : State) (p : PortNo) (b : Bool) : (s.setFillPending p b).pending = s.pending := rfl

/-! ## issueFill -/

@[simp] theorem State.issueFill_hold (s : State) (p : PortNo) : (s.issueFill p).hold = s.hold := rfl
@[simp] theorem State.issueFill_straps (s : State) (p : PortNo) : (s.issueFill p).straps = s.straps := rfl
@[simp] theorem State.issueFill_ms (s : State) (p : PortNo) : (s.issueFill p).ms = s.ms := rfl
@[simp] theorem State.issueFill_ports (s : State) (p : PortNo) : (s.issueFill p).ports = s.ports := rfl
@[simp] theorem State.issueFill_cache (s : State) (p : PortNo) : (s.issueFill p).cache = s.cache := rfl
@[simp] theorem State.issueFill_bus (s : State) (p : PortNo) : (s.issueFill p).bus = s.bus := rfl
@[simp] theorem State.issueFill_arb (s : State) (p : PortNo) : (s.issueFill p).arb = s.arb := rfl
@[simp] theorem State.issueFill_we (s : State) (p : PortNo) : (s.issueFill p).we = s.we := rfl
@[simp] theorem State.issueFill_rep (s : State) (p : PortNo) : (s.issueFill p).rep = s.rep := rfl
@[simp] theorem State.issueFill_regs (s : State) (p : PortNo) : (s.issueFill p).regs = s.regs := rfl
@[simp] theorem State.issueFill_out (s : State) (p : PortNo) : (s.issueFill p).out = s.out := rfl
@[simp] theorem State.issueFill_pending (s : State) (p : PortNo) : (s.issueFill p).pending = s.pending := rfl

/-! ## placePlan -/

@[simp] theorem State.placePlan_hold (s : State) (p : PortNo) (e : Vector Byte 16) : (s.placePlan p e).hold = s.hold := rfl
@[simp] theorem State.placePlan_straps (s : State) (p : PortNo) (e : Vector Byte 16) : (s.placePlan p e).straps = s.straps := rfl
@[simp] theorem State.placePlan_ms (s : State) (p : PortNo) (e : Vector Byte 16) : (s.placePlan p e).ms = s.ms := rfl
@[simp] theorem State.placePlan_ports (s : State) (p : PortNo) (e : Vector Byte 16) : (s.placePlan p e).ports = s.ports := rfl
@[simp] theorem State.placePlan_bus (s : State) (p : PortNo) (e : Vector Byte 16) : (s.placePlan p e).bus = s.bus := rfl
@[simp] theorem State.placePlan_arb (s : State) (p : PortNo) (e : Vector Byte 16) : (s.placePlan p e).arb = s.arb := rfl
@[simp] theorem State.placePlan_we (s : State) (p : PortNo) (e : Vector Byte 16) : (s.placePlan p e).we = s.we := rfl
@[simp] theorem State.placePlan_mm (s : State) (p : PortNo) (e : Vector Byte 16) : (s.placePlan p e).mm = s.mm := rfl
@[simp] theorem State.placePlan_rep (s : State) (p : PortNo) (e : Vector Byte 16) : (s.placePlan p e).rep = s.rep := rfl
@[simp] theorem State.placePlan_regs (s : State) (p : PortNo) (e : Vector Byte 16) : (s.placePlan p e).regs = s.regs := rfl
@[simp] theorem State.placePlan_out (s : State) (p : PortNo) (e : Vector Byte 16) : (s.placePlan p e).out = s.out := rfl
@[simp] theorem State.placePlan_pending (s : State) (p : PortNo) (e : Vector Byte 16) : (s.placePlan p e).pending = s.pending := rfl

/-! ## dropRequest -/

@[simp] theorem State.dropRequest_hold (s : State) (p : PortNo) : (s.dropRequest p).hold = s.hold := rfl
@[simp] theorem State.dropRequest_straps (s : State) (p : PortNo) : (s.dropRequest p).straps = s.straps := rfl
@[simp] theorem State.dropRequest_ms (s : State) (p : PortNo) : (s.dropRequest p).ms = s.ms := rfl
@[simp] theorem State.dropRequest_ports (s : State) (p : PortNo) : (s.dropRequest p).ports = s.ports := rfl
@[simp] theorem State.dropRequest_cache (s : State) (p : PortNo) : (s.dropRequest p).cache = s.cache := rfl
@[simp] theorem State.dropRequest_bus (s : State) (p : PortNo) : (s.dropRequest p).bus = s.bus := rfl
@[simp] theorem State.dropRequest_we (s : State) (p : PortNo) : (s.dropRequest p).we = s.we := rfl
@[simp] theorem State.dropRequest_mm (s : State) (p : PortNo) : (s.dropRequest p).mm = s.mm := rfl
@[simp] theorem State.dropRequest_rep (s : State) (p : PortNo) : (s.dropRequest p).rep = s.rep := rfl
@[simp] theorem State.dropRequest_regs (s : State) (p : PortNo) : (s.dropRequest p).regs = s.regs := rfl
@[simp] theorem State.dropRequest_out (s : State) (p : PortNo) : (s.dropRequest p).out = s.out := rfl
@[simp] theorem State.dropRequest_pending (s : State) (p : PortNo) : (s.dropRequest p).pending = s.pending := rfl

/-! ## clearStuck -/

@[simp] theorem State.clearStuck_hold (s : State) (p : PortNo) : (s.clearStuck p).hold = s.hold := rfl
@[simp] theorem State.clearStuck_straps (s : State) (p : PortNo) : (s.clearStuck p).straps = s.straps := rfl
@[simp] theorem State.clearStuck_ms (s : State) (p : PortNo) : (s.clearStuck p).ms = s.ms := rfl
@[simp] theorem State.clearStuck_ports (s : State) (p : PortNo) : (s.clearStuck p).ports = s.ports := rfl
@[simp] theorem State.clearStuck_cache (s : State) (p : PortNo) : (s.clearStuck p).cache = s.cache := rfl
@[simp] theorem State.clearStuck_arb (s : State) (p : PortNo) : (s.clearStuck p).arb = s.arb := rfl
@[simp] theorem State.clearStuck_we (s : State) (p : PortNo) : (s.clearStuck p).we = s.we := rfl
@[simp] theorem State.clearStuck_mm (s : State) (p : PortNo) : (s.clearStuck p).mm = s.mm := rfl
@[simp] theorem State.clearStuck_rep (s : State) (p : PortNo) : (s.clearStuck p).rep = s.rep := rfl
@[simp] theorem State.clearStuck_regs (s : State) (p : PortNo) : (s.clearStuck p).regs = s.regs := rfl
@[simp] theorem State.clearStuck_out (s : State) (p : PortNo) : (s.clearStuck p).out = s.out := rfl
@[simp] theorem State.clearStuck_pending (s : State) (p : PortNo) : (s.clearStuck p).pending = s.pending := rfl

/-! ## markTxn -/

@[simp] theorem State.markTxn_hold (s : State) (p : PortNo) (f : Txn → Txn) : (s.markTxn p f).hold = s.hold := rfl
@[simp] theorem State.markTxn_straps (s : State) (p : PortNo) (f : Txn → Txn) : (s.markTxn p f).straps = s.straps := rfl
@[simp] theorem State.markTxn_ms (s : State) (p : PortNo) (f : Txn → Txn) : (s.markTxn p f).ms = s.ms := rfl
@[simp] theorem State.markTxn_ports (s : State) (p : PortNo) (f : Txn → Txn) : (s.markTxn p f).ports = s.ports := rfl
@[simp] theorem State.markTxn_cache (s : State) (p : PortNo) (f : Txn → Txn) : (s.markTxn p f).cache = s.cache := rfl
@[simp] theorem State.markTxn_arb (s : State) (p : PortNo) (f : Txn → Txn) : (s.markTxn p f).arb = s.arb := rfl
@[simp] theorem State.markTxn_we (s : State) (p : PortNo) (f : Txn → Txn) : (s.markTxn p f).we = s.we := rfl
@[simp] theorem State.markTxn_mm (s : State) (p : PortNo) (f : Txn → Txn) : (s.markTxn p f).mm = s.mm := rfl
@[simp] theorem State.markTxn_rep (s : State) (p : PortNo) (f : Txn → Txn) : (s.markTxn p f).rep = s.rep := rfl
@[simp] theorem State.markTxn_regs (s : State) (p : PortNo) (f : Txn → Txn) : (s.markTxn p f).regs = s.regs := rfl
@[simp] theorem State.markTxn_out (s : State) (p : PortNo) (f : Txn → Txn) : (s.markTxn p f).out = s.out := rfl
@[simp] theorem State.markTxn_pending (s : State) (p : PortNo) (f : Txn → Txn) : (s.markTxn p f).pending = s.pending := rfl

/-! ## leaveBus -/

@[simp] theorem State.leaveBus_hold (s : State) (p : PortNo) (f : Txn → Txn) : (s.leaveBus p f).hold = s.hold := rfl
@[simp] theorem State.leaveBus_straps (s : State) (p : PortNo) (f : Txn → Txn) : (s.leaveBus p f).straps = s.straps := rfl
@[simp] theorem State.leaveBus_ms (s : State) (p : PortNo) (f : Txn → Txn) : (s.leaveBus p f).ms = s.ms := rfl
@[simp] theorem State.leaveBus_ports (s : State) (p : PortNo) (f : Txn → Txn) : (s.leaveBus p f).ports = s.ports := rfl
@[simp] theorem State.leaveBus_we (s : State) (p : PortNo) (f : Txn → Txn) : (s.leaveBus p f).we = s.we := rfl
@[simp] theorem State.leaveBus_mm (s : State) (p : PortNo) (f : Txn → Txn) : (s.leaveBus p f).mm = s.mm := rfl
@[simp] theorem State.leaveBus_rep (s : State) (p : PortNo) (f : Txn → Txn) : (s.leaveBus p f).rep = s.rep := rfl
@[simp] theorem State.leaveBus_regs (s : State) (p : PortNo) (f : Txn → Txn) : (s.leaveBus p f).regs = s.regs := rfl
@[simp] theorem State.leaveBus_out (s : State) (p : PortNo) (f : Txn → Txn) : (s.leaveBus p f).out = s.out := rfl
@[simp] theorem State.leaveBus_pending (s : State) (p : PortNo) (f : Txn → Txn) : (s.leaveBus p f).pending = s.pending := rfl

/-! ## flushCache -/

@[simp] theorem State.flushCache_hold (s : State) (b : Bool) (e : BitVec 16) : (s.flushCache b e).hold = s.hold := rfl
@[simp] theorem State.flushCache_straps (s : State) (b : Bool) (e : BitVec 16) : (s.flushCache b e).straps = s.straps := rfl
@[simp] theorem State.flushCache_ms (s : State) (b : Bool) (e : BitVec 16) : (s.flushCache b e).ms = s.ms := rfl
@[simp] theorem State.flushCache_ports (s : State) (b : Bool) (e : BitVec 16) : (s.flushCache b e).ports = s.ports := rfl
@[simp] theorem State.flushCache_bus (s : State) (b : Bool) (e : BitVec 16) : (s.flushCache b e).bus = s.bus := rfl
@[simp] theorem State.flushCache_arb (s : State) (b : Bool) (e : BitVec 16) : (s.flushCache b e).arb = s.arb := rfl
@[simp] theorem State.flushCache_we (s : State) (b : Bool) (e : BitVec 16) : (s.flushCache b e).we = s.we := rfl
@[simp] theorem State.flushCache_mm (s : State) (b : Bool) (e : BitVec 16) : (s.flushCache b e).mm = s.mm := rfl
@[simp] theorem State.flushCache_rep (s : State) (b : Bool) (e : BitVec 16) : (s.flushCache b e).rep = s.rep := rfl
@[simp] theorem State.flushCache_regs (s : State) (b : Bool) (e : BitVec 16) : (s.flushCache b e).regs = s.regs := rfl
@[simp] theorem State.flushCache_out (s : State) (b : Bool) (e : BitVec 16) : (s.flushCache b e).out = s.out := rfl
@[simp] theorem State.flushCache_pending (s : State) (b : Bool) (e : BitVec 16) : (s.flushCache b e).pending = s.pending := rfl

/-! ## lowerBudget -/

@[simp] theorem State.lowerBudget_hold (s : State) : (s.lowerBudget).hold = s.hold := rfl
@[simp] theorem State.lowerBudget_straps (s : State) : (s.lowerBudget).straps = s.straps := rfl
@[simp] theorem State.lowerBudget_ms (s : State) : (s.lowerBudget).ms = s.ms := rfl
@[simp] theorem State.lowerBudget_cache (s : State) : (s.lowerBudget).cache = s.cache := rfl
@[simp] theorem State.lowerBudget_bus (s : State) : (s.lowerBudget).bus = s.bus := rfl
@[simp] theorem State.lowerBudget_arb (s : State) : (s.lowerBudget).arb = s.arb := rfl
@[simp] theorem State.lowerBudget_we (s : State) : (s.lowerBudget).we = s.we := rfl
@[simp] theorem State.lowerBudget_mm (s : State) : (s.lowerBudget).mm = s.mm := rfl
@[simp] theorem State.lowerBudget_rep (s : State) : (s.lowerBudget).rep = s.rep := rfl
@[simp] theorem State.lowerBudget_regs (s : State) : (s.lowerBudget).regs = s.regs := rfl
@[simp] theorem State.lowerBudget_out (s : State) : (s.lowerBudget).out = s.out := rfl
@[simp] theorem State.lowerBudget_pending (s : State) : (s.lowerBudget).pending = s.pending := rfl

/-! ## adjustScanTimer -/

@[simp] theorem State.adjustScanTimer_hold (s : State) : (s.adjustScanTimer).hold = s.hold := rfl
@[simp] theorem State.adjustScanTimer_straps (s : State) : (s.adjustScanTimer).straps = s.straps := rfl
@[simp] theorem State.adjustScanTimer_ms (s : State) : (s.adjustScanTimer).ms = s.ms := rfl
@[simp] theorem State.adjustScanTimer_ports (s : State) : (s.adjustScanTimer).ports = s.ports := rfl
@[simp] theorem State.adjustScanTimer_cache (s : State) : (s.adjustScanTimer).cache = s.cache := rfl
@[simp] theorem State.adjustScanTimer_bus (s : State) : (s.adjustScanTimer).bus = s.bus := rfl
@[simp] theorem State.adjustScanTimer_arb (s : State) : (s.adjustScanTimer).arb = s.arb := rfl
@[simp] theorem State.adjustScanTimer_mm (s : State) : (s.adjustScanTimer).mm = s.mm := rfl
@[simp] theorem State.adjustScanTimer_rep (s : State) : (s.adjustScanTimer).rep = s.rep := rfl
@[simp] theorem State.adjustScanTimer_regs (s : State) : (s.adjustScanTimer).regs = s.regs := rfl
@[simp] theorem State.adjustScanTimer_out (s : State) : (s.adjustScanTimer).out = s.out := rfl
@[simp] theorem State.adjustScanTimer_pending (s : State) : (s.adjustScanTimer).pending = s.pending := rfl

/-! ## restartScanTimer -/

@[simp] theorem State.restartScanTimer_hold (s : State) : (s.restartScanTimer).hold = s.hold := rfl
@[simp] theorem State.restartScanTimer_straps (s : State) : (s.restartScanTimer).straps = s.straps := rfl
@[simp] theorem State.restartScanTimer_ms (s : State) : (s.restartScanTimer).ms = s.ms := rfl
@[simp] theorem State.restartScanTimer_ports (s : State) : (s.restartScanTimer).ports = s.ports := rfl
@[simp] theorem State.restartScanTimer_cache (s : State) : (s.restartScanTimer).cache = s.cache := rfl
@[simp] theorem State.restartScanTimer_bus (s : State) : (s.restartScanTimer).bus = s.bus := rfl
@[simp] theorem State.restartScanTimer_arb (s : State) : (s.restartScanTimer).arb = s.arb := rfl
@[simp] theorem State.restartScanTimer_mm (s : State) : (s.restartScanTimer).mm = s.mm := rfl
@[simp] theorem State.restartScanTimer_rep (s : State) : (s.restartScanTimer).rep = s.rep := rfl
@[simp] theorem State.restartScanTimer_regs (s : State) : (s.restartScanTimer).regs = s.regs := rfl
@[simp] theorem State.restartScanTimer_out (s : State) : (s.restartScanTimer).out = s.out := rfl
@[simp] theorem State.restartScanTimer_pending (s : State) : (s.restartScanTimer).pending = s.pending := rfl

/-! ## restoreReports -/

@[simp] theorem State.restoreReports_hold (s : State) (a b : List InFlight) : (s.restoreReports a b).hold = s.hold := rfl
@[simp] theorem State.restoreReports_straps (s : State) (a b : List InFlight) : (s.restoreReports a b).straps = s.straps := rfl
@[simp] theorem State.restoreReports_ms (s : State) (a b : List InFlight) : (s.restoreReports a b).ms = s.ms := rfl
@[simp] theorem State.restoreReports_ports (s : State) (a b : List InFlight) : (s.restoreReports a b).ports = s.ports := rfl
@[simp] theorem State.restoreReports_cache (s : State) (a b : List InFlight) : (s.restoreReports a b).cache = s.cache := rfl
@[simp] theorem State.restoreReports_bus (s : State) (a b : List InFlight) : (s.restoreReports a b).bus = s.bus := rfl
@[simp] theorem State.restoreReports_arb (s : State) (a b : List InFlight) : (s.restoreReports a b).arb = s.arb := rfl
@[simp] theorem State.restoreReports_we (s : State) (a b : List InFlight) : (s.restoreReports a b).we = s.we := rfl
@[simp] theorem State.restoreReports_mm (s : State) (a b : List InFlight) : (s.restoreReports a b).mm = s.mm := rfl
@[simp] theorem State.restoreReports_regs (s : State) (a b : List InFlight) : (s.restoreReports a b).regs = s.regs := rfl
@[simp] theorem State.restoreReports_out (s : State) (a b : List InFlight) : (s.restoreReports a b).out = s.out := rfl
@[simp] theorem State.restoreReports_pending (s : State) (a b : List InFlight) : (s.restoreReports a b).pending = s.pending := rfl

/-! ## enterStarting -/

@[simp] theorem State.enterStarting_hold (s : State) : (s.enterStarting).hold = s.hold := rfl
@[simp] theorem State.enterStarting_straps (s : State) : (s.enterStarting).straps = s.straps := rfl
@[simp] theorem State.enterStarting_ms (s : State) : (s.enterStarting).ms = s.ms := rfl
@[simp] theorem State.enterStarting_ports (s : State) : (s.enterStarting).ports = s.ports := rfl
@[simp] theorem State.enterStarting_cache (s : State) : (s.enterStarting).cache = s.cache := rfl
@[simp] theorem State.enterStarting_bus (s : State) : (s.enterStarting).bus = s.bus := rfl
@[simp] theorem State.enterStarting_arb (s : State) : (s.enterStarting).arb = s.arb := rfl
@[simp] theorem State.enterStarting_rep (s : State) : (s.enterStarting).rep = s.rep := rfl
@[simp] theorem State.enterStarting_regs (s : State) : (s.enterStarting).regs = s.regs := rfl
@[simp] theorem State.enterStarting_out (s : State) : (s.enterStarting).out = s.out := rfl
@[simp] theorem State.enterStarting_pending (s : State) : (s.enterStarting).pending = s.pending := rfl

/-! ## recover -/

@[simp] theorem State.recover_hold (s : State) (t : Txn) : (s.recover t).hold = s.hold := rfl
@[simp] theorem State.recover_straps (s : State) (t : Txn) : (s.recover t).straps = s.straps := rfl
@[simp] theorem State.recover_ms (s : State) (t : Txn) : (s.recover t).ms = s.ms := rfl
@[simp] theorem State.recover_ports (s : State) (t : Txn) : (s.recover t).ports = s.ports := rfl
@[simp] theorem State.recover_cache (s : State) (t : Txn) : (s.recover t).cache = s.cache := rfl
@[simp] theorem State.recover_arb (s : State) (t : Txn) : (s.recover t).arb = s.arb := rfl
@[simp] theorem State.recover_we (s : State) (t : Txn) : (s.recover t).we = s.we := rfl
@[simp] theorem State.recover_mm (s : State) (t : Txn) : (s.recover t).mm = s.mm := rfl
@[simp] theorem State.recover_rep (s : State) (t : Txn) : (s.recover t).rep = s.rep := rfl
@[simp] theorem State.recover_regs (s : State) (t : Txn) : (s.recover t).regs = s.regs := rfl
@[simp] theorem State.recover_pending (s : State) (t : Txn) : (s.recover t).pending = s.pending := rfl

/-! ## retry -/

@[simp] theorem State.retry_hold (s : State) (t : Txn) : (s.retry t).hold = s.hold := rfl
@[simp] theorem State.retry_straps (s : State) (t : Txn) : (s.retry t).straps = s.straps := rfl
@[simp] theorem State.retry_ms (s : State) (t : Txn) : (s.retry t).ms = s.ms := rfl
@[simp] theorem State.retry_ports (s : State) (t : Txn) : (s.retry t).ports = s.ports := rfl
@[simp] theorem State.retry_cache (s : State) (t : Txn) : (s.retry t).cache = s.cache := rfl
@[simp] theorem State.retry_arb (s : State) (t : Txn) : (s.retry t).arb = s.arb := rfl
@[simp] theorem State.retry_we (s : State) (t : Txn) : (s.retry t).we = s.we := rfl
@[simp] theorem State.retry_mm (s : State) (t : Txn) : (s.retry t).mm = s.mm := rfl
@[simp] theorem State.retry_rep (s : State) (t : Txn) : (s.retry t).rep = s.rep := rfl
@[simp] theorem State.retry_regs (s : State) (t : Txn) : (s.retry t).regs = s.regs := rfl
@[simp] theorem State.retry_pending (s : State) (t : Txn) : (s.retry t).pending = s.pending := rfl

/-! ## clearEvents -/

@[simp] theorem State.clearEvents_hold (s : State) (v : Word) : (s.clearEvents v).hold = s.hold := rfl
@[simp] theorem State.clearEvents_straps (s : State) (v : Word) : (s.clearEvents v).straps = s.straps := rfl
@[simp] theorem State.clearEvents_ms (s : State) (v : Word) : (s.clearEvents v).ms = s.ms := rfl
@[simp] theorem State.clearEvents_ports (s : State) (v : Word) : (s.clearEvents v).ports = s.ports := rfl
@[simp] theorem State.clearEvents_cache (s : State) (v : Word) : (s.clearEvents v).cache = s.cache := rfl
@[simp] theorem State.clearEvents_bus (s : State) (v : Word) : (s.clearEvents v).bus = s.bus := rfl
@[simp] theorem State.clearEvents_arb (s : State) (v : Word) : (s.clearEvents v).arb = s.arb := rfl
@[simp] theorem State.clearEvents_we (s : State) (v : Word) : (s.clearEvents v).we = s.we := rfl
@[simp] theorem State.clearEvents_mm (s : State) (v : Word) : (s.clearEvents v).mm = s.mm := rfl
@[simp] theorem State.clearEvents_rep (s : State) (v : Word) : (s.clearEvents v).rep = s.rep := rfl
@[simp] theorem State.clearEvents_out (s : State) (v : Word) : (s.clearEvents v).out = s.out := rfl
@[simp] theorem State.clearEvents_pending (s : State) (v : Word) : (s.clearEvents v).pending = s.pending := rfl

/-! ## writeMask -/

@[simp] theorem State.writeMask_hold (s : State) (v : Word) : (s.writeMask v).hold = s.hold := rfl
@[simp] theorem State.writeMask_straps (s : State) (v : Word) : (s.writeMask v).straps = s.straps := rfl
@[simp] theorem State.writeMask_ms (s : State) (v : Word) : (s.writeMask v).ms = s.ms := rfl
@[simp] theorem State.writeMask_ports (s : State) (v : Word) : (s.writeMask v).ports = s.ports := rfl
@[simp] theorem State.writeMask_cache (s : State) (v : Word) : (s.writeMask v).cache = s.cache := rfl
@[simp] theorem State.writeMask_bus (s : State) (v : Word) : (s.writeMask v).bus = s.bus := rfl
@[simp] theorem State.writeMask_arb (s : State) (v : Word) : (s.writeMask v).arb = s.arb := rfl
@[simp] theorem State.writeMask_we (s : State) (v : Word) : (s.writeMask v).we = s.we := rfl
@[simp] theorem State.writeMask_mm (s : State) (v : Word) : (s.writeMask v).mm = s.mm := rfl
@[simp] theorem State.writeMask_rep (s : State) (v : Word) : (s.writeMask v).rep = s.rep := rfl
@[simp] theorem State.writeMask_out (s : State) (v : Word) : (s.writeMask v).out = s.out := rfl
@[simp] theorem State.writeMask_pending (s : State) (v : Word) : (s.writeMask v).pending = s.pending := rfl

/-! ## tick -/

@[simp] theorem State.tick_hold (s : State) : (s.tick).hold = s.hold := rfl
@[simp] theorem State.tick_straps (s : State) : (s.tick).straps = s.straps := rfl
@[simp] theorem State.tick_cache (s : State) : (s.tick).cache = s.cache := rfl
@[simp] theorem State.tick_arb (s : State) : (s.tick).arb = s.arb := rfl
@[simp] theorem State.tick_rep (s : State) : (s.tick).rep = s.rep := rfl
@[simp] theorem State.tick_regs (s : State) : (s.tick).regs = s.regs := rfl
@[simp] theorem State.tick_out (s : State) : (s.tick).out = s.out := rfl
@[simp] theorem State.tick_pending (s : State) : (s.tick).pending = s.pending := rfl

/-! ## What the updates set -/

@[simp] theorem State.setPort_ports (s : State) (p : PortNo) (c : Port) : (s.setPort p c).ports = s.ports.set p c := rfl
@[simp] theorem State.emit_out (s : State) (o : List Out) : (s.emit o).out = s.out ++ o := rfl
@[simp] theorem State.raise_events (s : State) (e : BitVec 5) : (s.raise e).regs.events = s.regs.events ||| e := rfl
@[simp] theorem State.raise_mask (s : State) (e : BitVec 5) : (s.raise e).regs.mask = s.regs.mask := rfl
@[simp] theorem State.raise_anchorReg (s : State) (e : BitVec 5) : (s.raise e).regs.anchorReg = s.regs.anchorReg := rfl
@[simp] theorem State.push_ops (s : State) (op : MemOp) : (s.push op).mm.ops = s.mm.ops ++ [⟨op, false⟩] := rfl
@[simp] theorem State.push_age (s : State) (op : MemOp) : (s.push op).mm.age = s.mm.age := rfl
@[simp] theorem State.popMem_ops (s : State) : s.popMem.mm.ops = s.mm.ops.tail := rfl
@[simp] theorem State.popMem_age (s : State) : s.popMem.mm.age = 0 := rfl
@[simp] theorem State.dropRequest_requests (s : State) (p : PortNo) :
    (s.dropRequest p).arb.requests = s.arb.requests.set p false := rfl
@[simp] theorem State.clearStuck_stuck (s : State) (p : PortNo) : (s.clearStuck p).bus.stuck = s.bus.stuck.set p false := rfl
@[simp] theorem State.setFillPending_flags (s : State) (p : PortNo) (b : Bool) :
    (s.setFillPending p b).cache.fillPending = s.cache.fillPending.set p b := rfl
@[simp] theorem State.setFillPending_entries (s : State) (p : PortNo) (b : Bool) :
    (s.setFillPending p b).cache.entries = s.cache.entries := rfl

/-! ## Reading a port after an update -/

theorem State.port_def (s : State) (p : PortNo) : s.port p = s.ports[p] := rfl

@[simp] theorem State.port_setPort (s : State) (p : PortNo) (c : Port) : (s.setPort p c).port p = c := by
  simp [State.port]

theorem State.port_setPort_of_ne (s : State) (p q : PortNo) (c : Port) (h : q ≠ p) :
    (s.setPort p c).port q = s.port q := by
  have : (p : Nat) ≠ q := fun e => h (Fin.ext e.symm)
  simp [State.port, this]

/-- A state whose ports are those of another has the same port contexts. -/
theorem State.port_congr {s t : State} (h : t.ports = s.ports) (p : PortNo) : t.port p = s.port p := by
  simp [State.port, h]

@[simp] theorem Port.lane_setLane (c : Port) (i : LaneNo) (l : Lane) : (c.setLane i l).lane i = l := by
  simp [Port.lane, Port.setLane]

theorem Port.lane_setLane_of_ne (c : Port) (i j : LaneNo) (l : Lane) (h : j ≠ i) :
    (c.setLane i l).lane j = c.lane j := by
  have : (i : Nat) ≠ j := fun e => h (Fin.ext e.symm)
  simp [Port.lane, Port.setLane, this]

@[simp] theorem Port.lane_mapLanes (c : Port) (f : LaneNo → Lane → Lane) (i : LaneNo) :
    (c.mapLanes f).lane i = f i (c.lane i) := by
  simp [Port.lane, Port.mapLanes]

end Sys2Proof.Machine
end

