-- ==== Sys2Proof/Laws/Frames.lean ====
section
/-!
SUPPORT. Frames of the shared operations that branch or loop: for each, the fields of State it leaves alone whatever it
does. With Laws/State.lean they make the frame of a command a simp.
-/

namespace Sys2Proof.Machine

/-- A field kept by each step of a fold is kept by the fold. -/
theorem foldl_field {α β γ : Type} (g : α → γ) (f : α → β → α) (h : ∀ a b, g (f a b) = g a) (l : List β) (a : α) :
    g (l.foldl f a) = g a := by
  induction l generalizing a with
  | nil => rfl
  | cons b l ih => rw [List.foldl_cons, ih, h]

/-! ## pushAll -/

@[simp] theorem State.pushAll_hold (s : State) (l : List MemOp) : (s.pushAll l).hold = s.hold := by unfold State.pushAll; exact foldl_field (State.hold) State.push (fun t e => State.push_hold t e) _ _

@[simp] theorem State.pushAll_straps (s : State) (l : List MemOp) : (s.pushAll l).straps = s.straps := by unfold State.pushAll; exact foldl_field (State.straps) State.push (fun t e => State.push_straps t e) _ _

@[simp] theorem State.pushAll_ms (s : State) (l : List MemOp) : (s.pushAll l).ms = s.ms := by unfold State.pushAll; exact foldl_field (State.ms) State.push (fun t e => State.push_ms t e) _ _

@[simp] theorem State.pushAll_ports (s : State) (l : List MemOp) : (s.pushAll l).ports = s.ports := by unfold State.pushAll; exact foldl_field (State.ports) State.push (fun t e => State.push_ports t e) _ _

@[simp] theorem State.pushAll_cache (s : State) (l : List MemOp) : (s.pushAll l).cache = s.cache := by unfold State.pushAll; exact foldl_field (State.cache) State.push (fun t e => State.push_cache t e) _ _

@[simp] theorem State.pushAll_bus (s : State) (l : List MemOp) : (s.pushAll l).bus = s.bus := by unfold State.pushAll; exact foldl_field (State.bus) State.push (fun t e => State.push_bus t e) _ _

@[simp] theorem State.pushAll_arb (s : State) (l : List MemOp) : (s.pushAll l).arb = s.arb := by unfold State.pushAll; exact foldl_field (State.arb) State.push (fun t e => State.push_arb t e) _ _

@[simp] theorem State.pushAll_we (s : State) (l : List MemOp) : (s.pushAll l).we = s.we := by unfold State.pushAll; exact foldl_field (State.we) State.push (fun t e => State.push_we t e) _ _

@[simp] theorem State.pushAll_rep (s : State) (l : List MemOp) : (s.pushAll l).rep = s.rep := by unfold State.pushAll; exact foldl_field (State.rep) State.push (fun t e => State.push_rep t e) _ _

@[simp] theorem State.pushAll_regs (s : State) (l : List MemOp) : (s.pushAll l).regs = s.regs := by unfold State.pushAll; exact foldl_field (State.regs) State.push (fun t e => State.push_regs t e) _ _

@[simp] theorem State.pushAll_out (s : State) (l : List MemOp) : (s.pushAll l).out = s.out := by unfold State.pushAll; exact foldl_field (State.out) State.push (fun t e => State.push_out t e) _ _

@[simp] theorem State.pushAll_pending (s : State) (l : List MemOp) : (s.pushAll l).pending = s.pending := by unfold State.pushAll; exact foldl_field (State.pending) State.push (fun t e => State.push_pending t e) _ _

/-! ## triggerScan -/

@[simp] theorem State.triggerScan_hold (s : State) : (s.triggerScan).hold = s.hold := by unfold State.triggerScan; split_ifs <;> rfl

@[simp] theorem State.triggerScan_straps (s : State) : (s.triggerScan).straps = s.straps := by unfold State.triggerScan; split_ifs <;> rfl

@[simp] theorem State.triggerScan_ms (s : State) : (s.triggerScan).ms = s.ms := by unfold State.triggerScan; split_ifs <;> rfl

@[simp] theorem State.triggerScan_ports (s : State) : (s.triggerScan).ports = s.ports := by unfold State.triggerScan; split_ifs <;> rfl

@[simp] theorem State.triggerScan_cache (s : State) : (s.triggerScan).cache = s.cache := by unfold State.triggerScan; split_ifs <;> rfl

@[simp] theorem State.triggerScan_bus (s : State) : (s.triggerScan).bus = s.bus := by unfold State.triggerScan; split_ifs <;> rfl

@[simp] theorem State.triggerScan_arb (s : State) : (s.triggerScan).arb = s.arb := by unfold State.triggerScan; split_ifs <;> rfl

@[simp] theorem State.triggerScan_rep (s : State) : (s.triggerScan).rep = s.rep := by unfold State.triggerScan; split_ifs <;> rfl

@[simp] theorem State.triggerScan_regs (s : State) : (s.triggerScan).regs = s.regs := by unfold State.triggerScan; split_ifs <;> rfl

@[simp] theorem State.triggerScan_out (s : State) : (s.triggerScan).out = s.out := by unfold State.triggerScan; split_ifs <;> rfl

@[simp] theorem State.triggerScan_pending (s : State) : (s.triggerScan).pending = s.pending := by unfold State.triggerScan; split_ifs <;> rfl

/-! ## endScan -/

@[simp] theorem State.endScan_hold (s : State) (st : Stall) : (s.endScan st).hold = s.hold := by unfold State.endScan; dsimp only; split_ifs <;> rfl

@[simp] theorem State.endScan_straps (s : State) (st : Stall) : (s.endScan st).straps = s.straps := by unfold State.endScan; dsimp only; split_ifs <;> rfl

@[simp] theorem State.endScan_ms (s : State) (st : Stall) : (s.endScan st).ms = s.ms := by unfold State.endScan; dsimp only; split_ifs <;> rfl

@[simp] theorem State.endScan_ports (s : State) (st : Stall) : (s.endScan st).ports = s.ports := by unfold State.endScan; dsimp only; split_ifs <;> rfl

@[simp] theorem State.endScan_cache (s : State) (st : Stall) : (s.endScan st).cache = s.cache := by unfold State.endScan; dsimp only; split_ifs <;> rfl

@[simp] theorem State.endScan_bus (s : State) (st : Stall) : (s.endScan st).bus = s.bus := by unfold State.endScan; dsimp only; split_ifs <;> rfl

@[simp] theorem State.endScan_arb (s : State) (st : Stall) : (s.endScan st).arb = s.arb := by unfold State.endScan; dsimp only; split_ifs <;> rfl

@[simp] theorem State.endScan_rep (s : State) (st : Stall) : (s.endScan st).rep = s.rep := by unfold State.endScan; dsimp only; split_ifs <;> rfl

@[simp] theorem State.endScan_regs (s : State) (st : Stall) : (s.endScan st).regs = s.regs := by unfold State.endScan; dsimp only; split_ifs <;> rfl

@[simp] theorem State.endScan_out (s : State) (st : Stall) : (s.endScan st).out = s.out := by unfold State.endScan; dsimp only; split_ifs <;> rfl

@[simp] theorem State.endScan_pending (s : State) (st : Stall) : (s.endScan st).pending = s.pending := by unfold State.endScan; dsimp only; split_ifs <;> rfl

/-! ## meetStall -/

@[simp] theorem State.meetStall_hold (s : State) (f : Stall → Bool) : (s.meetStall f).hold = s.hold := by unfold State.meetStall; split_ifs <;> simp

@[simp] theorem State.meetStall_straps (s : State) (f : Stall → Bool) : (s.meetStall f).straps = s.straps := by unfold State.meetStall; split_ifs <;> simp

@[simp] theorem State.meetStall_ms (s : State) (f : Stall → Bool) : (s.meetStall f).ms = s.ms := by unfold State.meetStall; split_ifs <;> simp

@[simp] theorem State.meetStall_ports (s : State) (f : Stall → Bool) : (s.meetStall f).ports = s.ports := by unfold State.meetStall; split_ifs <;> simp

@[simp] theorem State.meetStall_cache (s : State) (f : Stall → Bool) : (s.meetStall f).cache = s.cache := by unfold State.meetStall; split_ifs <;> simp

@[simp] theorem State.meetStall_bus (s : State) (f : Stall → Bool) : (s.meetStall f).bus = s.bus := by unfold State.meetStall; split_ifs <;> simp

@[simp] theorem State.meetStall_arb (s : State) (f : Stall → Bool) : (s.meetStall f).arb = s.arb := by unfold State.meetStall; split_ifs <;> simp

@[simp] theorem State.meetStall_rep (s : State) (f : Stall → Bool) : (s.meetStall f).rep = s.rep := by unfold State.meetStall; split_ifs <;> simp

@[simp] theorem State.meetStall_regs (s : State) (f : Stall → Bool) : (s.meetStall f).regs = s.regs := by unfold State.meetStall; split_ifs <;> simp

@[simp] theorem State.meetStall_out (s : State) (f : Stall → Bool) : (s.meetStall f).out = s.out := by unfold State.meetStall; split_ifs <;> simp

@[simp] theorem State.meetStall_pending (s : State) (f : Stall → Bool) : (s.meetStall f).pending = s.pending := by unfold State.meetStall; split_ifs <;> simp

/-! ## complete -/

@[simp] theorem State.complete_hold (s : State) (i : Nat) (b : Bool) (l : List MemOp) (st : Status) (r : Nat) : (s.complete i b l st r).hold = s.hold := by unfold State.complete; dsimp only; split_ifs <;> simp

@[simp] theorem State.complete_straps (s : State) (i : Nat) (b : Bool) (l : List MemOp) (st : Status) (r : Nat) : (s.complete i b l st r).straps = s.straps := by unfold State.complete; dsimp only; split_ifs <;> simp

@[simp] theorem State.complete_ms (s : State) (i : Nat) (b : Bool) (l : List MemOp) (st : Status) (r : Nat) : (s.complete i b l st r).ms = s.ms := by unfold State.complete; dsimp only; split_ifs <;> simp

@[simp] theorem State.complete_ports (s : State) (i : Nat) (b : Bool) (l : List MemOp) (st : Status) (r : Nat) : (s.complete i b l st r).ports = s.ports := by unfold State.complete; dsimp only; split_ifs <;> simp

@[simp] theorem State.complete_cache (s : State) (i : Nat) (b : Bool) (l : List MemOp) (st : Status) (r : Nat) : (s.complete i b l st r).cache = s.cache := by unfold State.complete; dsimp only; split_ifs <;> simp

@[simp] theorem State.complete_bus (s : State) (i : Nat) (b : Bool) (l : List MemOp) (st : Status) (r : Nat) : (s.complete i b l st r).bus = s.bus := by unfold State.complete; dsimp only; split_ifs <;> simp

@[simp] theorem State.complete_arb (s : State) (i : Nat) (b : Bool) (l : List MemOp) (st : Status) (r : Nat) : (s.complete i b l st r).arb = s.arb := by unfold State.complete; dsimp only; split_ifs <;> simp

@[simp] theorem State.complete_we (s : State) (i : Nat) (b : Bool) (l : List MemOp) (st : Status) (r : Nat) : (s.complete i b l st r).we = s.we := by unfold State.complete; dsimp only; split_ifs <;> simp

@[simp] theorem State.complete_rep (s : State) (i : Nat) (b : Bool) (l : List MemOp) (st : Status) (r : Nat) : (s.complete i b l st r).rep = s.rep := by unfold State.complete; dsimp only; split_ifs <;> simp

@[simp] theorem State.complete_out (s : State) (i : Nat) (b : Bool) (l : List MemOp) (st : Status) (r : Nat) : (s.complete i b l st r).out = s.out := by unfold State.complete; dsimp only; split_ifs <;> simp

@[simp] theorem State.complete_pending (s : State) (i : Nat) (b : Bool) (l : List MemOp) (st : Status) (r : Nat) : (s.complete i b l st r).pending = s.pending := by unfold State.complete; dsimp only; split_ifs <;> simp

/-! ## completeSlot -/

@[simp] theorem State.completeSlot_hold (s : State) (k : Fin 16) (j : Job) (l : List MemOp) (st : Status) (r : Nat) : (s.completeSlot k j l st r).hold = s.hold := by unfold State.completeSlot; simp

@[simp] theorem State.completeSlot_straps (s : State) (k : Fin 16) (j : Job) (l : List MemOp) (st : Status) (r : Nat) : (s.completeSlot k j l st r).straps = s.straps := by unfold State.completeSlot; simp

@[simp] theorem State.completeSlot_ms (s : State) (k : Fin 16) (j : Job) (l : List MemOp) (st : Status) (r : Nat) : (s.completeSlot k j l st r).ms = s.ms := by unfold State.completeSlot; simp

@[simp] theorem State.completeSlot_ports (s : State) (k : Fin 16) (j : Job) (l : List MemOp) (st : Status) (r : Nat) : (s.completeSlot k j l st r).ports = s.ports := by unfold State.completeSlot; simp

@[simp] theorem State.completeSlot_cache (s : State) (k : Fin 16) (j : Job) (l : List MemOp) (st : Status) (r : Nat) : (s.completeSlot k j l st r).cache = s.cache := by unfold State.completeSlot; simp

@[simp] theorem State.completeSlot_bus (s : State) (k : Fin 16) (j : Job) (l : List MemOp) (st : Status) (r : Nat) : (s.completeSlot k j l st r).bus = s.bus := by unfold State.completeSlot; simp

@[simp] theorem State.completeSlot_arb (s : State) (k : Fin 16) (j : Job) (l : List MemOp) (st : Status) (r : Nat) : (s.completeSlot k j l st r).arb = s.arb := by unfold State.completeSlot; simp

@[simp] theorem State.completeSlot_rep (s : State) (k : Fin 16) (j : Job) (l : List MemOp) (st : Status) (r : Nat) : (s.completeSlot k j l st r).rep = s.rep := by unfold State.completeSlot; simp

@[simp] theorem State.completeSlot_out (s : State) (k : Fin 16) (j : Job) (l : List MemOp) (st : Status) (r : Nat) : (s.completeSlot k j l st r).out = s.out := by unfold State.completeSlot; simp

@[simp] theorem State.completeSlot_pending (s : State) (k : Fin 16) (j : Job) (l : List MemOp) (st : Status) (r : Nat) : (s.completeSlot k j l st r).pending = s.pending := by unfold State.completeSlot; simp

/-! ## finishAwaits -/

@[simp] theorem State.finishAwaits_hold (s : State) (p : PortNo) : (s.finishAwaits p).hold = s.hold := by
  unfold State.finishAwaits
  refine foldl_field (State.hold) _ (fun t k => ?_) _ _
  split
  · split
    · split_ifs <;> simp
    · rfl
  · rfl

@[simp] theorem State.finishAwaits_straps (s : State) (p : PortNo) : (s.finishAwaits p).straps = s.straps := by
  unfold State.finishAwaits
  refine foldl_field (State.straps) _ (fun t k => ?_) _ _
  split
  · split
    · split_ifs <;> simp
    · rfl
  · rfl

@[simp] theorem State.finishAwaits_ms (s : State) (p : PortNo) : (s.finishAwaits p).ms = s.ms := by
  unfold State.finishAwaits
  refine foldl_field (State.ms) _ (fun t k => ?_) _ _
  split
  · split
    · split_ifs <;> simp
    · rfl
  · rfl

@[simp] theorem State.finishAwaits_ports (s : State) (p : PortNo) : (s.finishAwaits p).ports = s.ports := by
  unfold State.finishAwaits
  refine foldl_field (State.ports) _ (fun t k => ?_) _ _
  split
  · split
    · split_ifs <;> simp
    · rfl
  · rfl

@[simp] theorem State.finishAwaits_cache (s : State) (p : PortNo) : (s.finishAwaits p).cache = s.cache := by
  unfold State.finishAwaits
  refine foldl_field (State.cache) _ (fun t k => ?_) _ _
  split
  · split
    · split_ifs <;> simp
    · rfl
  · rfl

@[simp] theorem State.finishAwaits_bus (s : State) (p : PortNo) : (s.finishAwaits p).bus = s.bus := by
  unfold State.finishAwaits
  refine foldl_field (State.bus) _ (fun t k => ?_) _ _
  split
  · split
    · split_ifs <;> simp
    · rfl
  · rfl

@[simp] theorem State.finishAwaits_arb (s : State) (p : PortNo) : (s.finishAwaits p).arb = s.arb := by
  unfold State.finishAwaits
  refine foldl_field (State.arb) _ (fun t k => ?_) _ _
  split
  · split
    · split_ifs <;> simp
    · rfl
  · rfl

@[simp] theorem State.finishAwaits_rep (s : State) (p : PortNo) : (s.finishAwaits p).rep = s.rep := by
  unfold State.finishAwaits
  refine foldl_field (State.rep) _ (fun t k => ?_) _ _
  split
  · split
    · split_ifs <;> simp
    · rfl
  · rfl

@[simp] theorem State.finishAwaits_out (s : State) (p : PortNo) : (s.finishAwaits p).out = s.out := by
  unfold State.finishAwaits
  refine foldl_field (State.out) _ (fun t k => ?_) _ _
  split
  · split
    · split_ifs <;> simp
    · rfl
  · rfl

@[simp] theorem State.finishAwaits_pending (s : State) (p : PortNo) : (s.finishAwaits p).pending = s.pending := by
  unfold State.finishAwaits
  refine foldl_field (State.pending) _ (fun t k => ?_) _ _
  split
  · split
    · split_ifs <;> simp
    · rfl
  · rfl

/-! ## triggerReport -/

@[simp] theorem State.triggerReport_hold (s : State) : (s.triggerReport).hold = s.hold := by unfold State.triggerReport; split_ifs <;> rfl

@[simp] theorem State.triggerReport_straps (s : State) : (s.triggerReport).straps = s.straps := by unfold State.triggerReport; split_ifs <;> rfl

@[simp] theorem State.triggerReport_ms (s : State) : (s.triggerReport).ms = s.ms := by unfold State.triggerReport; split_ifs <;> rfl

@[simp] theorem State.triggerReport_ports (s : State) : (s.triggerReport).ports = s.ports := by unfold State.triggerReport; split_ifs <;> rfl

@[simp] theorem State.triggerReport_cache (s : State) : (s.triggerReport).cache = s.cache := by unfold State.triggerReport; split_ifs <;> rfl

@[simp] theorem State.triggerReport_bus (s : State) : (s.triggerReport).bus = s.bus := by unfold State.triggerReport; split_ifs <;> rfl

@[simp] theorem State.triggerReport_arb (s : State) : (s.triggerReport).arb = s.arb := by unfold State.triggerReport; split_ifs <;> rfl

@[simp] theorem State.triggerReport_we (s : State) : (s.triggerReport).we = s.we := by unfold State.triggerReport; split_ifs <;> rfl

@[simp] theorem State.triggerReport_regs (s : State) : (s.triggerReport).regs = s.regs := by unfold State.triggerReport; split_ifs <;> rfl

@[simp] theorem State.triggerReport_out (s : State) : (s.triggerReport).out = s.out := by unfold State.triggerReport; split_ifs <;> rfl

@[simp] theorem State.triggerReport_pending (s : State) : (s.triggerReport).pending = s.pending := by unfold State.triggerReport; split_ifs <;> rfl

/-! ## handOver -/

@[simp] theorem State.handOver_hold (s : State) (p : PortNo) (k : BitVec 5) : (s.handOver p k).hold = s.hold := by unfold State.handOver; simp

@[simp] theorem State.handOver_straps (s : State) (p : PortNo) (k : BitVec 5) : (s.handOver p k).straps = s.straps := by unfold State.handOver; simp

@[simp] theorem State.handOver_ms (s : State) (p : PortNo) (k : BitVec 5) : (s.handOver p k).ms = s.ms := by unfold State.handOver; simp

@[simp] theorem State.handOver_ports (s : State) (p : PortNo) (k : BitVec 5) : (s.handOver p k).ports = s.ports := by unfold State.handOver; simp

@[simp] theorem State.handOver_cache (s : State) (p : PortNo) (k : BitVec 5) : (s.handOver p k).cache = s.cache := by unfold State.handOver; simp

@[simp] theorem State.handOver_bus (s : State) (p : PortNo) (k : BitVec 5) : (s.handOver p k).bus = s.bus := by unfold State.handOver; simp

@[simp] theorem State.handOver_arb (s : State) (p : PortNo) (k : BitVec 5) : (s.handOver p k).arb = s.arb := by unfold State.handOver; simp

@[simp] theorem State.handOver_we (s : State) (p : PortNo) (k : BitVec 5) : (s.handOver p k).we = s.we := by unfold State.handOver; simp

@[simp] theorem State.handOver_regs (s : State) (p : PortNo) (k : BitVec 5) : (s.handOver p k).regs = s.regs := by unfold State.handOver; simp

@[simp] theorem State.handOver_out (s : State) (p : PortNo) (k : BitVec 5) : (s.handOver p k).out = s.out := by unfold State.handOver; simp

@[simp] theorem State.handOver_pending (s : State) (p : PortNo) (k : BitVec 5) : (s.handOver p k).pending = s.pending := by unfold State.handOver; simp

/-! ## finishLaneTest -/

@[simp] theorem State.finishLaneTest_hold (s : State) (p : PortNo) (e : TestEnd) : (s.finishLaneTest p e).hold = s.hold := by unfold State.finishLaneTest; split <;> simp

@[simp] theorem State.finishLaneTest_straps (s : State) (p : PortNo) (e : TestEnd) : (s.finishLaneTest p e).straps = s.straps := by unfold State.finishLaneTest; split <;> simp

@[simp] theorem State.finishLaneTest_ms (s : State) (p : PortNo) (e : TestEnd) : (s.finishLaneTest p e).ms = s.ms := by unfold State.finishLaneTest; split <;> simp

@[simp] theorem State.finishLaneTest_ports (s : State) (p : PortNo) (e : TestEnd) : (s.finishLaneTest p e).ports = s.ports := by unfold State.finishLaneTest; split <;> simp

@[simp] theorem State.finishLaneTest_cache (s : State) (p : PortNo) (e : TestEnd) : (s.finishLaneTest p e).cache = s.cache := by unfold State.finishLaneTest; split <;> simp

@[simp] theorem State.finishLaneTest_bus (s : State) (p : PortNo) (e : TestEnd) : (s.finishLaneTest p e).bus = s.bus := by unfold State.finishLaneTest; split <;> simp

@[simp] theorem State.finishLaneTest_arb (s : State) (p : PortNo) (e : TestEnd) : (s.finishLaneTest p e).arb = s.arb := by unfold State.finishLaneTest; split <;> simp

@[simp] theorem State.finishLaneTest_rep (s : State) (p : PortNo) (e : TestEnd) : (s.finishLaneTest p e).rep = s.rep := by unfold State.finishLaneTest; split <;> simp

@[simp] theorem State.finishLaneTest_out (s : State) (p : PortNo) (e : TestEnd) : (s.finishLaneTest p e).out = s.out := by unfold State.finishLaneTest; split <;> simp

@[simp] theorem State.finishLaneTest_pending (s : State) (p : PortNo) (e : TestEnd) : (s.finishLaneTest p e).pending = s.pending := by unfold State.finishLaneTest; split <;> simp

/-! ## settle -/

@[simp] theorem State.settle_hold (s : State) (p : PortNo) (c : Ctl) : (s.settle p c).hold = s.hold := by
  unfold State.settle
  dsimp only
  cases c.ended <;> simp only [] <;> split_ifs <;> simp

@[simp] theorem State.settle_straps (s : State) (p : PortNo) (c : Ctl) : (s.settle p c).straps = s.straps := by
  unfold State.settle
  dsimp only
  cases c.ended <;> simp only [] <;> split_ifs <;> simp

@[simp] theorem State.settle_ms (s : State) (p : PortNo) (c : Ctl) : (s.settle p c).ms = s.ms := by
  unfold State.settle
  dsimp only
  cases c.ended <;> simp only [] <;> split_ifs <;> simp

@[simp] theorem State.settle_cache (s : State) (p : PortNo) (c : Ctl) : (s.settle p c).cache = s.cache := by
  unfold State.settle
  dsimp only
  cases c.ended <;> simp only [] <;> split_ifs <;> simp

@[simp] theorem State.settle_bus (s : State) (p : PortNo) (c : Ctl) : (s.settle p c).bus = s.bus := by
  unfold State.settle
  dsimp only
  cases c.ended <;> simp only [] <;> split_ifs <;> simp

@[simp] theorem State.settle_arb (s : State) (p : PortNo) (c : Ctl) : (s.settle p c).arb = s.arb := by
  unfold State.settle
  dsimp only
  cases c.ended <;> simp only [] <;> split_ifs <;> simp

@[simp] theorem State.settle_pending (s : State) (p : PortNo) (c : Ctl) : (s.settle p c).pending = s.pending := by
  unfold State.settle
  dsimp only
  cases c.ended <;> simp only [] <;> split_ifs <;> simp

/-! ## runPort -/

@[simp] theorem State.runPort_hold (s : State) (p : PortNo) (f : Env → Ctl → Ctl) : (s.runPort p f).hold = s.hold := by
  unfold State.runPort
  dsimp only
  split_ifs
  · rw [foldl_field (State.hold) _ (fun t i => by split_ifs <;> simp)]; simp
  · simp

@[simp] theorem State.runPort_straps (s : State) (p : PortNo) (f : Env → Ctl → Ctl) : (s.runPort p f).straps = s.straps := by
  unfold State.runPort
  dsimp only
  split_ifs
  · rw [foldl_field (State.straps) _ (fun t i => by split_ifs <;> simp)]; simp
  · simp

@[simp] theorem State.runPort_ms (s : State) (p : PortNo) (f : Env → Ctl → Ctl) : (s.runPort p f).ms = s.ms := by
  unfold State.runPort
  dsimp only
  split_ifs
  · rw [foldl_field (State.ms) _ (fun t i => by split_ifs <;> simp)]; simp
  · simp

@[simp] theorem State.runPort_cache (s : State) (p : PortNo) (f : Env → Ctl → Ctl) : (s.runPort p f).cache = s.cache := by
  unfold State.runPort
  dsimp only
  split_ifs
  · rw [foldl_field (State.cache) _ (fun t i => by split_ifs <;> simp)]; simp
  · simp

@[simp] theorem State.runPort_bus (s : State) (p : PortNo) (f : Env → Ctl → Ctl) : (s.runPort p f).bus = s.bus := by
  unfold State.runPort
  dsimp only
  split_ifs
  · rw [foldl_field (State.bus) _ (fun t i => by split_ifs <;> simp)]; simp
  · simp

@[simp] theorem State.runPort_arb (s : State) (p : PortNo) (f : Env → Ctl → Ctl) : (s.runPort p f).arb = s.arb := by
  unfold State.runPort
  dsimp only
  split_ifs
  · rw [foldl_field (State.arb) _ (fun t i => by split_ifs <;> simp)]; simp
  · simp

@[simp] theorem State.runPort_pending (s : State) (p : PortNo) (f : Env → Ctl → Ctl) : (s.runPort p f).pending = s.pending := by
  unfold State.runPort
  dsimp only
  split_ifs
  · rw [foldl_field (State.pending) _ (fun t i => by split_ifs <;> simp)]; simp
  · simp

/-! ## holdPort -/

@[simp] theorem State.holdPort_hold (s : State) (p : PortNo) (w : HoldReason) : (s.holdPort p w).hold = s.hold := State.runPort_hold _ _ _

@[simp] theorem State.holdPort_straps (s : State) (p : PortNo) (w : HoldReason) : (s.holdPort p w).straps = s.straps := State.runPort_straps _ _ _

@[simp] theorem State.holdPort_ms (s : State) (p : PortNo) (w : HoldReason) : (s.holdPort p w).ms = s.ms := State.runPort_ms _ _ _

@[simp] theorem State.holdPort_cache (s : State) (p : PortNo) (w : HoldReason) : (s.holdPort p w).cache = s.cache := State.runPort_cache _ _ _

@[simp] theorem State.holdPort_bus (s : State) (p : PortNo) (w : HoldReason) : (s.holdPort p w).bus = s.bus := State.runPort_bus _ _ _

@[simp] theorem State.holdPort_arb (s : State) (p : PortNo) (w : HoldReason) : (s.holdPort p w).arb = s.arb := State.runPort_arb _ _ _

@[simp] theorem State.holdPort_pending (s : State) (p : PortNo) (w : HoldReason) : (s.holdPort p w).pending = s.pending := State.runPort_pending _ _ _

/-! ## unplannedPort -/

@[simp] theorem State.unplannedPort_hold (s : State) (p : PortNo) : (s.unplannedPort p).hold = s.hold := State.runPort_hold _ _ _

@[simp] theorem State.unplannedPort_straps (s : State) (p : PortNo) : (s.unplannedPort p).straps = s.straps := State.runPort_straps _ _ _

@[simp] theorem State.unplannedPort_ms (s : State) (p : PortNo) : (s.unplannedPort p).ms = s.ms := State.runPort_ms _ _ _

@[simp] theorem State.unplannedPort_cache (s : State) (p : PortNo) : (s.unplannedPort p).cache = s.cache := State.runPort_cache _ _ _

@[simp] theorem State.unplannedPort_bus (s : State) (p : PortNo) : (s.unplannedPort p).bus = s.bus := State.runPort_bus _ _ _

@[simp] theorem State.unplannedPort_arb (s : State) (p : PortNo) : (s.unplannedPort p).arb = s.arb := State.runPort_arb _ _ _

@[simp] theorem State.unplannedPort_pending (s : State) (p : PortNo) : (s.unplannedPort p).pending = s.pending := State.runPort_pending _ _ _

/-! ## givePlan -/

@[simp] theorem State.givePlan_hold (s : State) (p : PortNo) (e : List Byte) : (s.givePlan p e).hold = s.hold := by unfold State.givePlan; split_ifs <;> simp

@[simp] theorem State.givePlan_straps (s : State) (p : PortNo) (e : List Byte) : (s.givePlan p e).straps = s.straps := by unfold State.givePlan; split_ifs <;> simp

@[simp] theorem State.givePlan_ms (s : State) (p : PortNo) (e : List Byte) : (s.givePlan p e).ms = s.ms := by unfold State.givePlan; split_ifs <;> simp

@[simp] theorem State.givePlan_cache (s : State) (p : PortNo) (e : List Byte) : (s.givePlan p e).cache = s.cache := by unfold State.givePlan; split_ifs <;> simp

@[simp] theorem State.givePlan_bus (s : State) (p : PortNo) (e : List Byte) : (s.givePlan p e).bus = s.bus := by unfold State.givePlan; split_ifs <;> simp

@[simp] theorem State.givePlan_arb (s : State) (p : PortNo) (e : List Byte) : (s.givePlan p e).arb = s.arb := by unfold State.givePlan; split_ifs <;> simp

@[simp] theorem State.givePlan_pending (s : State) (p : PortNo) (e : List Byte) : (s.givePlan p e).pending = s.pending := by unfold State.givePlan; split_ifs <;> simp

/-! ## lookup -/

@[simp] theorem State.lookup_hold (s : State) (p : PortNo) : (s.lookup p).hold = s.hold := by
  unfold State.lookup
  split_ifs
  · simp
  · split
    · simp
    · dsimp only
      split_ifs <;> simp
  · simp

@[simp] theorem State.lookup_straps (s : State) (p : PortNo) : (s.lookup p).straps = s.straps := by
  unfold State.lookup
  split_ifs
  · simp
  · split
    · simp
    · dsimp only
      split_ifs <;> simp
  · simp

@[simp] theorem State.lookup_ms (s : State) (p : PortNo) : (s.lookup p).ms = s.ms := by
  unfold State.lookup
  split_ifs
  · simp
  · split
    · simp
    · dsimp only
      split_ifs <;> simp
  · simp

@[simp] theorem State.lookup_bus (s : State) (p : PortNo) : (s.lookup p).bus = s.bus := by
  unfold State.lookup
  split_ifs
  · simp
  · split
    · simp
    · dsimp only
      split_ifs <;> simp
  · simp

@[simp] theorem State.lookup_arb (s : State) (p : PortNo) : (s.lookup p).arb = s.arb := by
  unfold State.lookup
  split_ifs
  · simp
  · split
    · simp
    · dsimp only
      split_ifs <;> simp
  · simp

@[simp] theorem State.lookup_pending (s : State) (p : PortNo) : (s.lookup p).pending = s.pending := by
  unfold State.lookup
  split_ifs
  · simp
  · split
    · simp
    · dsimp only
      split_ifs <;> simp
  · simp

/-! ## failFills -/

@[simp] theorem State.failFills_hold (s : State) : (s.failFills).hold = s.hold := by unfold State.failFills forPorts; exact foldl_field (State.hold) _ (fun t p => by dsimp only; split_ifs <;> simp) _ _

@[simp] theorem State.failFills_straps (s : State) : (s.failFills).straps = s.straps := by unfold State.failFills forPorts; exact foldl_field (State.straps) _ (fun t p => by dsimp only; split_ifs <;> simp) _ _

@[simp] theorem State.failFills_ms (s : State) : (s.failFills).ms = s.ms := by unfold State.failFills forPorts; exact foldl_field (State.ms) _ (fun t p => by dsimp only; split_ifs <;> simp) _ _

@[simp] theorem State.failFills_bus (s : State) : (s.failFills).bus = s.bus := by unfold State.failFills forPorts; exact foldl_field (State.bus) _ (fun t p => by dsimp only; split_ifs <;> simp) _ _

@[simp] theorem State.failFills_arb (s : State) : (s.failFills).arb = s.arb := by unfold State.failFills forPorts; exact foldl_field (State.arb) _ (fun t p => by dsimp only; split_ifs <;> simp) _ _

@[simp] theorem State.failFills_pending (s : State) : (s.failFills).pending = s.pending := by unfold State.failFills forPorts; exact foldl_field (State.pending) _ (fun t p => by dsimp only; split_ifs <;> simp) _ _

/-! ## epochChanges -/

@[simp] theorem State.epochChanges_hold (s : State) : (s.epochChanges).hold = s.hold := by unfold State.epochChanges forPorts; exact foldl_field (State.hold) _ (fun t p => by simp) _ _

@[simp] theorem State.epochChanges_straps (s : State) : (s.epochChanges).straps = s.straps := by unfold State.epochChanges forPorts; exact foldl_field (State.straps) _ (fun t p => by simp) _ _

@[simp] theorem State.epochChanges_ms (s : State) : (s.epochChanges).ms = s.ms := by unfold State.epochChanges forPorts; exact foldl_field (State.ms) _ (fun t p => by simp) _ _

@[simp] theorem State.epochChanges_cache (s : State) : (s.epochChanges).cache = s.cache := by unfold State.epochChanges forPorts; exact foldl_field (State.cache) _ (fun t p => by simp) _ _

@[simp] theorem State.epochChanges_bus (s : State) : (s.epochChanges).bus = s.bus := by unfold State.epochChanges forPorts; exact foldl_field (State.bus) _ (fun t p => by simp) _ _

@[simp] theorem State.epochChanges_arb (s : State) : (s.epochChanges).arb = s.arb := by unfold State.epochChanges forPorts; exact foldl_field (State.arb) _ (fun t p => by simp) _ _

@[simp] theorem State.epochChanges_pending (s : State) : (s.epochChanges).pending = s.pending := by unfold State.epochChanges forPorts; exact foldl_field (State.pending) _ (fun t p => by simp) _ _

/-! ## identityOutcome -/

@[simp] theorem State.identityOutcome_hold (s : State) (p : PortNo) (o : BusOutcome) : (s.identityOutcome p o).hold = s.hold := by
  unfold State.identityOutcome
  split_ifs
  · split <;> simp
  · simp
  · rfl

@[simp] theorem State.identityOutcome_straps (s : State) (p : PortNo) (o : BusOutcome) : (s.identityOutcome p o).straps = s.straps := by
  unfold State.identityOutcome
  split_ifs
  · split <;> simp
  · simp
  · rfl

@[simp] theorem State.identityOutcome_ms (s : State) (p : PortNo) (o : BusOutcome) : (s.identityOutcome p o).ms = s.ms := by
  unfold State.identityOutcome
  split_ifs
  · split <;> simp
  · simp
  · rfl

@[simp] theorem State.identityOutcome_bus (s : State) (p : PortNo) (o : BusOutcome) : (s.identityOutcome p o).bus = s.bus := by
  unfold State.identityOutcome
  split_ifs
  · split <;> simp
  · simp
  · rfl

@[simp] theorem State.identityOutcome_arb (s : State) (p : PortNo) (o : BusOutcome) : (s.identityOutcome p o).arb = s.arb := by
  unfold State.identityOutcome
  split_ifs
  · split <;> simp
  · simp
  · rfl

@[simp] theorem State.identityOutcome_pending (s : State) (p : PortNo) (o : BusOutcome) : (s.identityOutcome p o).pending = s.pending := by
  unfold State.identityOutcome
  split_ifs
  · split <;> simp
  · simp
  · rfl

/-! ## jobOutcome -/

@[simp] theorem State.jobOutcome_hold (s : State) (g : JobTag) (x : Transfer) (o : BusOutcome) : (s.jobOutcome g x o).hold = s.hold := by unfold State.jobOutcome; simp

@[simp] theorem State.jobOutcome_straps (s : State) (g : JobTag) (x : Transfer) (o : BusOutcome) : (s.jobOutcome g x o).straps = s.straps := by unfold State.jobOutcome; simp

@[simp] theorem State.jobOutcome_ms (s : State) (g : JobTag) (x : Transfer) (o : BusOutcome) : (s.jobOutcome g x o).ms = s.ms := by unfold State.jobOutcome; simp

@[simp] theorem State.jobOutcome_ports (s : State) (g : JobTag) (x : Transfer) (o : BusOutcome) : (s.jobOutcome g x o).ports = s.ports := by unfold State.jobOutcome; simp

@[simp] theorem State.jobOutcome_cache (s : State) (g : JobTag) (x : Transfer) (o : BusOutcome) : (s.jobOutcome g x o).cache = s.cache := by unfold State.jobOutcome; simp

@[simp] theorem State.jobOutcome_bus (s : State) (g : JobTag) (x : Transfer) (o : BusOutcome) : (s.jobOutcome g x o).bus = s.bus := by unfold State.jobOutcome; simp

@[simp] theorem State.jobOutcome_arb (s : State) (g : JobTag) (x : Transfer) (o : BusOutcome) : (s.jobOutcome g x o).arb = s.arb := by unfold State.jobOutcome; simp

@[simp] theorem State.jobOutcome_rep (s : State) (g : JobTag) (x : Transfer) (o : BusOutcome) : (s.jobOutcome g x o).rep = s.rep := by unfold State.jobOutcome; simp

@[simp] theorem State.jobOutcome_out (s : State) (g : JobTag) (x : Transfer) (o : BusOutcome) : (s.jobOutcome g x o).out = s.out := by unfold State.jobOutcome; simp

@[simp] theorem State.jobOutcome_pending (s : State) (g : JobTag) (x : Transfer) (o : BusOutcome) : (s.jobOutcome g x o).pending = s.pending := by unfold State.jobOutcome; simp

/-! ## deliver -/

@[simp] theorem State.deliver_hold (s : State) (r : Requester) (p : PortNo) (x : Transfer) (o : BusOutcome) : (s.deliver r p x o).hold = s.hold := by unfold State.deliver; split <;> simp

@[simp] theorem State.deliver_straps (s : State) (r : Requester) (p : PortNo) (x : Transfer) (o : BusOutcome) : (s.deliver r p x o).straps = s.straps := by unfold State.deliver; split <;> simp

@[simp] theorem State.deliver_ms (s : State) (r : Requester) (p : PortNo) (x : Transfer) (o : BusOutcome) : (s.deliver r p x o).ms = s.ms := by unfold State.deliver; split <;> simp

@[simp] theorem State.deliver_bus (s : State) (r : Requester) (p : PortNo) (x : Transfer) (o : BusOutcome) : (s.deliver r p x o).bus = s.bus := by unfold State.deliver; split <;> simp

@[simp] theorem State.deliver_arb (s : State) (r : Requester) (p : PortNo) (x : Transfer) (o : BusOutcome) : (s.deliver r p x o).arb = s.arb := by unfold State.deliver; split <;> simp

@[simp] theorem State.deliver_pending (s : State) (r : Requester) (p : PortNo) (x : Transfer) (o : BusOutcome) : (s.deliver r p x o).pending = s.pending := by unfold State.deliver; split <;> simp

/-! ## grant -/

@[simp] theorem State.grant_hold (s : State) (g : Grant) : (s.grant g).hold = s.hold := by
  unfold State.grant
  cases g <;> dsimp only <;> split_ifs <;> simp

@[simp] theorem State.grant_straps (s : State) (g : Grant) : (s.grant g).straps = s.straps := by
  unfold State.grant
  cases g <;> dsimp only <;> split_ifs <;> simp

@[simp] theorem State.grant_ms (s : State) (g : Grant) : (s.grant g).ms = s.ms := by
  unfold State.grant
  cases g <;> dsimp only <;> split_ifs <;> simp

@[simp] theorem State.grant_pending (s : State) (g : Grant) : (s.grant g).pending = s.pending := by
  unfold State.grant
  cases g <;> dsimp only <;> split_ifs <;> simp

/-! ## grantLoop -/

@[simp] theorem State.grantLoop_hold (s : State) (n : Nat) : (State.grantLoop n s).hold = s.hold := by
  induction n generalizing s with
  | zero => rfl
  | succ n ih =>
    unfold State.grantLoop
    split_ifs
    · split
      · rfl
      · rw [ih]; simp
    · rfl

@[simp] theorem State.grantLoop_straps (s : State) (n : Nat) : (State.grantLoop n s).straps = s.straps := by
  induction n generalizing s with
  | zero => rfl
  | succ n ih =>
    unfold State.grantLoop
    split_ifs
    · split
      · rfl
      · rw [ih]; simp
    · rfl

@[simp] theorem State.grantLoop_ms (s : State) (n : Nat) : (State.grantLoop n s).ms = s.ms := by
  induction n generalizing s with
  | zero => rfl
  | succ n ih =>
    unfold State.grantLoop
    split_ifs
    · split
      · rfl
      · rw [ih]; simp
    · rfl

@[simp] theorem State.grantLoop_pending (s : State) (n : Nat) : (State.grantLoop n s).pending = s.pending := by
  induction n generalizing s with
  | zero => rfl
  | succ n ih =>
    unfold State.grantLoop
    split_ifs
    · split
      · rfl
      · rw [ih]; simp
    · rfl

/-! ## grants -/

@[simp] theorem State.grants_hold (s : State) : (s.grants).hold = s.hold := State.grantLoop_hold _ _

@[simp] theorem State.grants_straps (s : State) : (s.grants).straps = s.straps := State.grantLoop_straps _ _

@[simp] theorem State.grants_ms (s : State) : (s.grants).ms = s.ms := State.grantLoop_ms _ _

@[simp] theorem State.grants_pending (s : State) : (s.grants).pending = s.pending := State.grantLoop_pending _ _

/-! ## postRequest -/

@[simp] theorem State.postRequest_hold (s : State) (p : PortNo) : (s.postRequest p).hold = s.hold := by unfold State.postRequest; simp

@[simp] theorem State.postRequest_straps (s : State) (p : PortNo) : (s.postRequest p).straps = s.straps := by unfold State.postRequest; simp

@[simp] theorem State.postRequest_ms (s : State) (p : PortNo) : (s.postRequest p).ms = s.ms := by unfold State.postRequest; simp

@[simp] theorem State.postRequest_pending (s : State) (p : PortNo) : (s.postRequest p).pending = s.pending := by unfold State.postRequest; simp

/-! ## queueJob -/

@[simp] theorem State.queueJob_hold (s : State) (j : PassJob) : (s.queueJob j).hold = s.hold := by unfold State.queueJob; simp

@[simp] theorem State.queueJob_straps (s : State) (j : PassJob) : (s.queueJob j).straps = s.straps := by unfold State.queueJob; simp

@[simp] theorem State.queueJob_ms (s : State) (j : PassJob) : (s.queueJob j).ms = s.ms := by unfold State.queueJob; simp

@[simp] theorem State.queueJob_pending (s : State) (j : PassJob) : (s.queueJob j).pending = s.pending := by unfold State.queueJob; simp

/-! ## txnOutcome -/

@[simp] theorem State.txnOutcome_hold (s : State) (t : Txn) (st : Status) (d : List Byte) : (s.txnOutcome t st d).hold = s.hold := by unfold State.txnOutcome; repeat first | split | simp

@[simp] theorem State.txnOutcome_straps (s : State) (t : Txn) (st : Status) (d : List Byte) : (s.txnOutcome t st d).straps = s.straps := by unfold State.txnOutcome; repeat first | split | simp

@[simp] theorem State.txnOutcome_ms (s : State) (t : Txn) (st : Status) (d : List Byte) : (s.txnOutcome t st d).ms = s.ms := by unfold State.txnOutcome; repeat first | split | simp

@[simp] theorem State.txnOutcome_bus (s : State) (t : Txn) (st : Status) (d : List Byte) : (s.txnOutcome t st d).bus = s.bus := by unfold State.txnOutcome; repeat first | split | simp

@[simp] theorem State.txnOutcome_arb (s : State) (t : Txn) (st : Status) (d : List Byte) : (s.txnOutcome t st d).arb = s.arb := by unfold State.txnOutcome; repeat first | split | simp

@[simp] theorem State.txnOutcome_pending (s : State) (t : Txn) (st : Status) (d : List Byte) : (s.txnOutcome t st d).pending = s.pending := by unfold State.txnOutcome; repeat first | split | simp

/-! ## endTxn -/

@[simp] theorem State.endTxn_hold (s : State) (t : Txn) (st : Status) (d : List Byte) : (s.endTxn t st d).hold = s.hold := by unfold State.endTxn; simp

@[simp] theorem State.endTxn_straps (s : State) (t : Txn) (st : Status) (d : List Byte) : (s.endTxn t st d).straps = s.straps := by unfold State.endTxn; simp

@[simp] theorem State.endTxn_ms (s : State) (t : Txn) (st : Status) (d : List Byte) : (s.endTxn t st d).ms = s.ms := by unfold State.endTxn; simp

@[simp] theorem State.endTxn_pending (s : State) (t : Txn) (st : Status) (d : List Byte) : (s.endTxn t st d).pending = s.pending := by unfold State.endTxn; simp

/-! ## abandonJob -/

@[simp] theorem State.abandonJob_hold (s : State) (k : Fin 16) : (s.abandonJob k).hold = s.hold := by
  unfold State.abandonJob
  split
  · rfl
  · dsimp only
    split <;> rfl

@[simp] theorem State.abandonJob_straps (s : State) (k : Fin 16) : (s.abandonJob k).straps = s.straps := by
  unfold State.abandonJob
  split
  · rfl
  · dsimp only
    split <;> rfl

@[simp] theorem State.abandonJob_ms (s : State) (k : Fin 16) : (s.abandonJob k).ms = s.ms := by
  unfold State.abandonJob
  split
  · rfl
  · dsimp only
    split <;> rfl

@[simp] theorem State.abandonJob_cache (s : State) (k : Fin 16) : (s.abandonJob k).cache = s.cache := by
  unfold State.abandonJob
  split
  · rfl
  · dsimp only
    split <;> rfl

@[simp] theorem State.abandonJob_bus (s : State) (k : Fin 16) : (s.abandonJob k).bus = s.bus := by
  unfold State.abandonJob
  split
  · rfl
  · dsimp only
    split <;> rfl

@[simp] theorem State.abandonJob_arb (s : State) (k : Fin 16) : (s.abandonJob k).arb = s.arb := by
  unfold State.abandonJob
  split
  · rfl
  · dsimp only
    split <;> rfl

@[simp] theorem State.abandonJob_mm (s : State) (k : Fin 16) : (s.abandonJob k).mm = s.mm := by
  unfold State.abandonJob
  split
  · rfl
  · dsimp only
    split <;> rfl

@[simp] theorem State.abandonJob_rep (s : State) (k : Fin 16) : (s.abandonJob k).rep = s.rep := by
  unfold State.abandonJob
  split
  · rfl
  · dsimp only
    split <;> rfl

@[simp] theorem State.abandonJob_regs (s : State) (k : Fin 16) : (s.abandonJob k).regs = s.regs := by
  unfold State.abandonJob
  split
  · rfl
  · dsimp only
    split <;> rfl

@[simp] theorem State.abandonJob_out (s : State) (k : Fin 16) : (s.abandonJob k).out = s.out := by
  unfold State.abandonJob
  split
  · rfl
  · dsimp only
    split <;> rfl

@[simp] theorem State.abandonJob_pending (s : State) (k : Fin 16) : (s.abandonJob k).pending = s.pending := by
  unfold State.abandonJob
  split
  · rfl
  · dsimp only
    split <;> rfl

/-! ## abandonWork -/

@[simp] theorem State.abandonWork_hold (s : State) : (s.abandonWork).hold = s.hold := by
  unfold State.abandonWork
  simp only [State.abandonReads_hold]
  exact foldl_field (State.hold) _ (fun t k => by simp) _ _

@[simp] theorem State.abandonWork_straps (s : State) : (s.abandonWork).straps = s.straps := by
  unfold State.abandonWork
  simp only [State.abandonReads_straps]
  exact foldl_field (State.straps) _ (fun t k => by simp) _ _

@[simp] theorem State.abandonWork_ms (s : State) : (s.abandonWork).ms = s.ms := by
  unfold State.abandonWork
  simp only [State.abandonReads_ms]
  exact foldl_field (State.ms) _ (fun t k => by simp) _ _

@[simp] theorem State.abandonWork_cache (s : State) : (s.abandonWork).cache = s.cache := by
  unfold State.abandonWork
  simp only [State.abandonReads_cache]
  exact foldl_field (State.cache) _ (fun t k => by simp) _ _

@[simp] theorem State.abandonWork_rep (s : State) : (s.abandonWork).rep = s.rep := by
  unfold State.abandonWork
  simp only [State.abandonReads_rep]
  exact foldl_field (State.rep) _ (fun t k => by simp) _ _

@[simp] theorem State.abandonWork_regs (s : State) : (s.abandonWork).regs = s.regs := by
  unfold State.abandonWork
  simp only [State.abandonReads_regs]
  exact foldl_field (State.regs) _ (fun t k => by simp) _ _

@[simp] theorem State.abandonWork_out (s : State) : (s.abandonWork).out = s.out := by
  unfold State.abandonWork
  simp only [State.abandonReads_out]
  exact foldl_field (State.out) _ (fun t k => by simp) _ _

@[simp] theorem State.abandonWork_pending (s : State) : (s.abandonWork).pending = s.pending := by
  unfold State.abandonWork
  simp only [State.abandonReads_pending]
  exact foldl_field (State.pending) _ (fun t k => by simp) _ _

/-! ## enterHalted -/

@[simp] theorem State.enterHalted_hold (s : State) (c : HaltCause) : (s.enterHalted c).hold = s.hold := by unfold State.enterHalted; simp

@[simp] theorem State.enterHalted_straps (s : State) (c : HaltCause) : (s.enterHalted c).straps = s.straps := by unfold State.enterHalted; simp

@[simp] theorem State.enterHalted_ms (s : State) (c : HaltCause) : (s.enterHalted c).ms = s.ms := by unfold State.enterHalted; simp

@[simp] theorem State.enterHalted_pending (s : State) (c : HaltCause) : (s.enterHalted c).pending = s.pending := by unfold State.enterHalted; simp

/-! ## enterStopped -/

@[simp] theorem State.enterStopped_hold (s : State) : (s.enterStopped).hold = s.hold := by unfold State.enterStopped; simp

@[simp] theorem State.enterStopped_straps (s : State) : (s.enterStopped).straps = s.straps := by unfold State.enterStopped; simp

@[simp] theorem State.enterStopped_ms (s : State) : (s.enterStopped).ms = s.ms := by unfold State.enterStopped; simp

@[simp] theorem State.enterStopped_bus (s : State) : (s.enterStopped).bus = s.bus := by unfold State.enterStopped; simp

@[simp] theorem State.enterStopped_arb (s : State) : (s.enterStopped).arb = s.arb := by unfold State.enterStopped; simp

@[simp] theorem State.enterStopped_pending (s : State) : (s.enterStopped).pending = s.pending := by unfold State.enterStopped; simp

/-! ## finishDrain -/

@[simp] theorem State.finishDrain_hold (s : State) : (s.finishDrain).hold = s.hold := by unfold State.finishDrain; simp

@[simp] theorem State.finishDrain_straps (s : State) : (s.finishDrain).straps = s.straps := by unfold State.finishDrain; simp

@[simp] theorem State.finishDrain_ms (s : State) : (s.finishDrain).ms = s.ms := by unfold State.finishDrain; simp

@[simp] theorem State.finishDrain_bus (s : State) : (s.finishDrain).bus = s.bus := by unfold State.finishDrain; simp

@[simp] theorem State.finishDrain_arb (s : State) : (s.finishDrain).arb = s.arb := by unfold State.finishDrain; simp

@[simp] theorem State.finishDrain_pending (s : State) : (s.finishDrain).pending = s.pending := by unfold State.finishDrain; simp

/-! ## enterRunning -/

@[simp] theorem State.enterRunning_hold (s : State) (b : List Byte) : (s.enterRunning b).hold = s.hold := by unfold State.enterRunning; dsimp only; split_ifs <;> simp

@[simp] theorem State.enterRunning_straps (s : State) (b : List Byte) : (s.enterRunning b).straps = s.straps := by unfold State.enterRunning; dsimp only; split_ifs <;> simp

@[simp] theorem State.enterRunning_ms (s : State) (b : List Byte) : (s.enterRunning b).ms = s.ms := by unfold State.enterRunning; dsimp only; split_ifs <;> simp

@[simp] theorem State.enterRunning_bus (s : State) (b : List Byte) : (s.enterRunning b).bus = s.bus := by unfold State.enterRunning; dsimp only; split_ifs <;> simp

@[simp] theorem State.enterRunning_arb (s : State) (b : List Byte) : (s.enterRunning b).arb = s.arb := by unfold State.enterRunning; dsimp only; split_ifs <;> simp

@[simp] theorem State.enterRunning_pending (s : State) (b : List Byte) : (s.enterRunning b).pending = s.pending := by unfold State.enterRunning; dsimp only; split_ifs <;> simp

/-! ## setRun -/

@[simp] theorem State.setRun_hold (s : State) : (s.setRun).hold = s.hold := by unfold State.setRun; split <;> simp

@[simp] theorem State.setRun_straps (s : State) : (s.setRun).straps = s.straps := by unfold State.setRun; split <;> simp

@[simp] theorem State.setRun_ms (s : State) : (s.setRun).ms = s.ms := by unfold State.setRun; split <;> simp

@[simp] theorem State.setRun_ports (s : State) : (s.setRun).ports = s.ports := by unfold State.setRun; split <;> simp

@[simp] theorem State.setRun_cache (s : State) : (s.setRun).cache = s.cache := by unfold State.setRun; split <;> simp

@[simp] theorem State.setRun_bus (s : State) : (s.setRun).bus = s.bus := by unfold State.setRun; split <;> simp

@[simp] theorem State.setRun_arb (s : State) : (s.setRun).arb = s.arb := by unfold State.setRun; split <;> simp

@[simp] theorem State.setRun_regs (s : State) : (s.setRun).regs = s.regs := by unfold State.setRun; split <;> simp

@[simp] theorem State.setRun_out (s : State) : (s.setRun).out = s.out := by unfold State.setRun; split <;> simp

@[simp] theorem State.setRun_pending (s : State) : (s.setRun).pending = s.pending := by unfold State.setRun; split <;> simp

/-! ## stopScan -/

@[simp] theorem State.stopScan_hold (s : State) : (s.stopScan).hold = s.hold := by unfold State.stopScan; rfl

@[simp] theorem State.stopScan_straps (s : State) : (s.stopScan).straps = s.straps := by unfold State.stopScan; rfl

@[simp] theorem State.stopScan_ms (s : State) : (s.stopScan).ms = s.ms := by unfold State.stopScan; rfl

@[simp] theorem State.stopScan_ports (s : State) : (s.stopScan).ports = s.ports := by unfold State.stopScan; rfl

@[simp] theorem State.stopScan_cache (s : State) : (s.stopScan).cache = s.cache := by unfold State.stopScan; rfl

@[simp] theorem State.stopScan_bus (s : State) : (s.stopScan).bus = s.bus := by unfold State.stopScan; rfl

@[simp] theorem State.stopScan_arb (s : State) : (s.stopScan).arb = s.arb := by unfold State.stopScan; rfl

@[simp] theorem State.stopScan_rep (s : State) : (s.stopScan).rep = s.rep := by unfold State.stopScan; rfl

@[simp] theorem State.stopScan_regs (s : State) : (s.stopScan).regs = s.regs := by unfold State.stopScan; rfl

@[simp] theorem State.stopScan_out (s : State) : (s.stopScan).out = s.out := by unfold State.stopScan; rfl

@[simp] theorem State.stopScan_pending (s : State) : (s.stopScan).pending = s.pending := by unfold State.stopScan; rfl

/-! ## clearRun -/

@[simp] theorem State.clearRun_hold (s : State) : (s.clearRun).hold = s.hold := by
  unfold State.clearRun
  split
  · rfl
  · dsimp only
    split_ifs <;> simp
  all_goals rfl

@[simp] theorem State.clearRun_straps (s : State) : (s.clearRun).straps = s.straps := by
  unfold State.clearRun
  split
  · rfl
  · dsimp only
    split_ifs <;> simp
  all_goals rfl

@[simp] theorem State.clearRun_ms (s : State) : (s.clearRun).ms = s.ms := by
  unfold State.clearRun
  split
  · rfl
  · dsimp only
    split_ifs <;> simp
  all_goals rfl

@[simp] theorem State.clearRun_bus (s : State) : (s.clearRun).bus = s.bus := by
  unfold State.clearRun
  split
  · rfl
  · dsimp only
    split_ifs <;> simp
  all_goals rfl

@[simp] theorem State.clearRun_arb (s : State) : (s.clearRun).arb = s.arb := by
  unfold State.clearRun
  split
  · rfl
  · dsimp only
    split_ifs <;> simp
  all_goals rfl

@[simp] theorem State.clearRun_pending (s : State) : (s.clearRun).pending = s.pending := by
  unfold State.clearRun
  split
  · rfl
  · dsimp only
    split_ifs <;> simp
  all_goals rfl

/-! ## restartMemory -/

@[simp] theorem State.restartMemory_hold (s : State) : (s.restartMemory).hold = s.hold := by unfold State.restartMemory; split <;> rfl

@[simp] theorem State.restartMemory_straps (s : State) : (s.restartMemory).straps = s.straps := by unfold State.restartMemory; split <;> rfl

@[simp] theorem State.restartMemory_ms (s : State) : (s.restartMemory).ms = s.ms := by unfold State.restartMemory; split <;> rfl

@[simp] theorem State.restartMemory_ports (s : State) : (s.restartMemory).ports = s.ports := by unfold State.restartMemory; split <;> rfl

@[simp] theorem State.restartMemory_cache (s : State) : (s.restartMemory).cache = s.cache := by unfold State.restartMemory; split <;> rfl

@[simp] theorem State.restartMemory_bus (s : State) : (s.restartMemory).bus = s.bus := by unfold State.restartMemory; split <;> rfl

@[simp] theorem State.restartMemory_arb (s : State) : (s.restartMemory).arb = s.arb := by unfold State.restartMemory; split <;> rfl

@[simp] theorem State.restartMemory_we (s : State) : (s.restartMemory).we = s.we := by unfold State.restartMemory; split <;> rfl

@[simp] theorem State.restartMemory_rep (s : State) : (s.restartMemory).rep = s.rep := by unfold State.restartMemory; split <;> rfl

@[simp] theorem State.restartMemory_regs (s : State) : (s.restartMemory).regs = s.regs := by unfold State.restartMemory; split <;> rfl

@[simp] theorem State.restartMemory_out (s : State) : (s.restartMemory).out = s.out := by unfold State.restartMemory; split <;> rfl

@[simp] theorem State.restartMemory_pending (s : State) : (s.restartMemory).pending = s.pending := by unfold State.restartMemory; split <;> rfl

/-! ## restartReports -/

@[simp] theorem State.restartReports_hold (s : State) : (s.restartReports).hold = s.hold := by unfold State.restartReports; split <;> rfl

@[simp] theorem State.restartReports_straps (s : State) : (s.restartReports).straps = s.straps := by unfold State.restartReports; split <;> rfl

@[simp] theorem State.restartReports_ms (s : State) : (s.restartReports).ms = s.ms := by unfold State.restartReports; split <;> rfl

@[simp] theorem State.restartReports_ports (s : State) : (s.restartReports).ports = s.ports := by unfold State.restartReports; split <;> rfl

@[simp] theorem State.restartReports_cache (s : State) : (s.restartReports).cache = s.cache := by unfold State.restartReports; split <;> rfl

@[simp] theorem State.restartReports_bus (s : State) : (s.restartReports).bus = s.bus := by unfold State.restartReports; split <;> rfl

@[simp] theorem State.restartReports_arb (s : State) : (s.restartReports).arb = s.arb := by unfold State.restartReports; split <;> rfl

@[simp] theorem State.restartReports_we (s : State) : (s.restartReports).we = s.we := by unfold State.restartReports; split <;> rfl

@[simp] theorem State.restartReports_mm (s : State) : (s.restartReports).mm = s.mm := by unfold State.restartReports; split <;> rfl

@[simp] theorem State.restartReports_regs (s : State) : (s.restartReports).regs = s.regs := by unfold State.restartReports; split <;> rfl

@[simp] theorem State.restartReports_out (s : State) : (s.restartReports).out = s.out := by unfold State.restartReports; split <;> rfl

@[simp] theorem State.restartReports_pending (s : State) : (s.restartReports).pending = s.pending := by unfold State.restartReports; split <;> rfl

/-! ## restartEngine -/

@[simp] theorem State.restartEngine_hold (s : State) : (s.restartEngine).hold = s.hold := by unfold State.restartEngine; simp

@[simp] theorem State.restartEngine_straps (s : State) : (s.restartEngine).straps = s.straps := by unfold State.restartEngine; simp

@[simp] theorem State.restartEngine_ms (s : State) : (s.restartEngine).ms = s.ms := by unfold State.restartEngine; simp

@[simp] theorem State.restartEngine_pending (s : State) : (s.restartEngine).pending = s.pending := by unfold State.restartEngine; simp

/-! ## reverify -/

@[simp] theorem State.reverify_hold (s : State) (p : PortNo) : (s.reverify p).hold = s.hold := by unfold State.reverify; split_ifs <;> simp

@[simp] theorem State.reverify_straps (s : State) (p : PortNo) : (s.reverify p).straps = s.straps := by unfold State.reverify; split_ifs <;> simp

@[simp] theorem State.reverify_ms (s : State) (p : PortNo) : (s.reverify p).ms = s.ms := by unfold State.reverify; split_ifs <;> simp

@[simp] theorem State.reverify_pending (s : State) (p : PortNo) : (s.reverify p).pending = s.pending := by unfold State.reverify; split_ifs <;> simp

/-! ## flushPlans -/

@[simp] theorem State.flushPlans_hold (s : State) (a b : Bool) (e : BitVec 16) : (s.flushPlans a b e).hold = s.hold := by
  unfold State.flushPlans
  dsimp only
  split_ifs
  · unfold forPorts
    rw [foldl_field (State.hold) _ (fun t p => by simp)]
    rfl
  · simp
  · rfl

@[simp] theorem State.flushPlans_straps (s : State) (a b : Bool) (e : BitVec 16) : (s.flushPlans a b e).straps = s.straps := by
  unfold State.flushPlans
  dsimp only
  split_ifs
  · unfold forPorts
    rw [foldl_field (State.straps) _ (fun t p => by simp)]
    rfl
  · simp
  · rfl

@[simp] theorem State.flushPlans_ms (s : State) (a b : Bool) (e : BitVec 16) : (s.flushPlans a b e).ms = s.ms := by
  unfold State.flushPlans
  dsimp only
  split_ifs
  · unfold forPorts
    rw [foldl_field (State.ms) _ (fun t p => by simp)]
    rfl
  · simp
  · rfl

@[simp] theorem State.flushPlans_pending (s : State) (a b : Bool) (e : BitVec 16) : (s.flushPlans a b e).pending = s.pending := by
  unfold State.flushPlans
  dsimp only
  split_ifs
  · unfold forPorts
    rw [foldl_field (State.pending) _ (fun t p => by simp)]
    rfl
  · simp
  · rfl

/-! ## disablePort -/

@[simp] theorem State.disablePort_hold (s : State) (p : PortNo) : (s.disablePort p).hold = s.hold := by unfold State.disablePort; dsimp only; split_ifs <;> simp

@[simp] theorem State.disablePort_straps (s : State) (p : PortNo) : (s.disablePort p).straps = s.straps := by unfold State.disablePort; dsimp only; split_ifs <;> simp

@[simp] theorem State.disablePort_ms (s : State) (p : PortNo) : (s.disablePort p).ms = s.ms := by unfold State.disablePort; dsimp only; split_ifs <;> simp

@[simp] theorem State.disablePort_pending (s : State) (p : PortNo) : (s.disablePort p).pending = s.pending := by unfold State.disablePort; dsimp only; split_ifs <;> simp

@[simp] theorem State.enablePort_hold (s : State) (p : PortNo) (h : Bool) : (s.enablePort p h).1.hold = s.hold := by
  unfold State.enablePort; split_ifs <;> simp

@[simp] theorem State.enablePort_straps (s : State) (p : PortNo) (h : Bool) : (s.enablePort p h).1.straps = s.straps := by
  unfold State.enablePort; split_ifs <;> simp

@[simp] theorem State.enablePort_ms (s : State) (p : PortNo) (h : Bool) : (s.enablePort p h).1.ms = s.ms := by
  unfold State.enablePort; split_ifs <;> simp

@[simp] theorem State.enablePort_cache (s : State) (p : PortNo) (h : Bool) : (s.enablePort p h).1.cache = s.cache := by
  unfold State.enablePort; split_ifs <;> simp

@[simp] theorem State.enablePort_bus (s : State) (p : PortNo) (h : Bool) : (s.enablePort p h).1.bus = s.bus := by
  unfold State.enablePort; split_ifs <;> simp

@[simp] theorem State.enablePort_arb (s : State) (p : PortNo) (h : Bool) : (s.enablePort p h).1.arb = s.arb := by
  unfold State.enablePort; split_ifs <;> simp

@[simp] theorem State.enablePort_pending (s : State) (p : PortNo) (h : Bool) : (s.enablePort p h).1.pending = s.pending := by
  unfold State.enablePort; split_ifs <;> simp

@[simp] theorem State.restartPort_hold (s : State) (p : PortNo) : (s.restartPort p).1.hold = s.hold := by
  unfold State.restartPort; split_ifs <;> simp

@[simp] theorem State.restartPort_straps (s : State) (p : PortNo) : (s.restartPort p).1.straps = s.straps := by
  unfold State.restartPort; split_ifs <;> simp

@[simp] theorem State.restartPort_ms (s : State) (p : PortNo) : (s.restartPort p).1.ms = s.ms := by
  unfold State.restartPort; split_ifs <;> simp

@[simp] theorem State.restartPort_pending (s : State) (p : PortNo) : (s.restartPort p).1.pending = s.pending := by
  unfold State.restartPort; split_ifs <;> simp

/-! ## completeReq -/

@[simp] theorem State.completeReq_hold (s : State) (r : Request) (l : List MemOp) (st : Status) (n : Nat) : (s.completeReq r l st n).hold = s.hold := State.complete_hold _ _ _ _ _ _

@[simp] theorem State.completeReq_straps (s : State) (r : Request) (l : List MemOp) (st : Status) (n : Nat) : (s.completeReq r l st n).straps = s.straps := State.complete_straps _ _ _ _ _ _

@[simp] theorem State.completeReq_ms (s : State) (r : Request) (l : List MemOp) (st : Status) (n : Nat) : (s.completeReq r l st n).ms = s.ms := State.complete_ms _ _ _ _ _ _

@[simp] theorem State.completeReq_ports (s : State) (r : Request) (l : List MemOp) (st : Status) (n : Nat) : (s.completeReq r l st n).ports = s.ports := State.complete_ports _ _ _ _ _ _

@[simp] theorem State.completeReq_cache (s : State) (r : Request) (l : List MemOp) (st : Status) (n : Nat) : (s.completeReq r l st n).cache = s.cache := State.complete_cache _ _ _ _ _ _

@[simp] theorem State.completeReq_bus (s : State) (r : Request) (l : List MemOp) (st : Status) (n : Nat) : (s.completeReq r l st n).bus = s.bus := State.complete_bus _ _ _ _ _ _

@[simp] theorem State.completeReq_arb (s : State) (r : Request) (l : List MemOp) (st : Status) (n : Nat) : (s.completeReq r l st n).arb = s.arb := State.complete_arb _ _ _ _ _ _

@[simp] theorem State.completeReq_we (s : State) (r : Request) (l : List MemOp) (st : Status) (n : Nat) : (s.completeReq r l st n).we = s.we := State.complete_we _ _ _ _ _ _

@[simp] theorem State.completeReq_rep (s : State) (r : Request) (l : List MemOp) (st : Status) (n : Nat) : (s.completeReq r l st n).rep = s.rep := State.complete_rep _ _ _ _ _ _

@[simp] theorem State.completeReq_out (s : State) (r : Request) (l : List MemOp) (st : Status) (n : Nat) : (s.completeReq r l st n).out = s.out := State.complete_out _ _ _ _ _ _

@[simp] theorem State.completeReq_pending (s : State) (r : Request) (l : List MemOp) (st : Status) (n : Nat) : (s.completeReq r l st n).pending = s.pending := State.complete_pending _ _ _ _ _ _

/-! ## occupy -/

@[simp] theorem State.occupy_hold (s : State) (j : Job) : (s.occupy j).hold = s.hold := by unfold State.occupy; split <;> rfl

@[simp] theorem State.occupy_straps (s : State) (j : Job) : (s.occupy j).straps = s.straps := by unfold State.occupy; split <;> rfl

@[simp] theorem State.occupy_ms (s : State) (j : Job) : (s.occupy j).ms = s.ms := by unfold State.occupy; split <;> rfl

@[simp] theorem State.occupy_ports (s : State) (j : Job) : (s.occupy j).ports = s.ports := by unfold State.occupy; split <;> rfl

@[simp] theorem State.occupy_cache (s : State) (j : Job) : (s.occupy j).cache = s.cache := by unfold State.occupy; split <;> rfl

@[simp] theorem State.occupy_bus (s : State) (j : Job) : (s.occupy j).bus = s.bus := by unfold State.occupy; split <;> rfl

@[simp] theorem State.occupy_arb (s : State) (j : Job) : (s.occupy j).arb = s.arb := by unfold State.occupy; split <;> rfl

@[simp] theorem State.occupy_mm (s : State) (j : Job) : (s.occupy j).mm = s.mm := by unfold State.occupy; split <;> rfl

@[simp] theorem State.occupy_rep (s : State) (j : Job) : (s.occupy j).rep = s.rep := by unfold State.occupy; split <;> rfl

@[simp] theorem State.occupy_regs (s : State) (j : Job) : (s.occupy j).regs = s.regs := by unfold State.occupy; split <;> rfl

@[simp] theorem State.occupy_out (s : State) (j : Job) : (s.occupy j).out = s.out := by unfold State.occupy; split <;> rfl

@[simp] theorem State.occupy_pending (s : State) (j : Job) : (s.occupy j).pending = s.pending := by unfold State.occupy; split <;> rfl

/-! ## startEnable -/

@[simp] theorem State.startEnable_hold (s : State) (r : Request) : (s.startEnable r).hold = s.hold := by unfold State.startEnable State.onPort; split <;> simp

@[simp] theorem State.startEnable_straps (s : State) (r : Request) : (s.startEnable r).straps = s.straps := by unfold State.startEnable State.onPort; split <;> simp

@[simp] theorem State.startEnable_ms (s : State) (r : Request) : (s.startEnable r).ms = s.ms := by unfold State.startEnable State.onPort; split <;> simp

@[simp] theorem State.startEnable_cache (s : State) (r : Request) : (s.startEnable r).cache = s.cache := by unfold State.startEnable State.onPort; split <;> simp

@[simp] theorem State.startEnable_bus (s : State) (r : Request) : (s.startEnable r).bus = s.bus := by unfold State.startEnable State.onPort; split <;> simp

@[simp] theorem State.startEnable_arb (s : State) (r : Request) : (s.startEnable r).arb = s.arb := by unfold State.startEnable State.onPort; split <;> simp

@[simp] theorem State.startEnable_pending (s : State) (r : Request) : (s.startEnable r).pending = s.pending := by unfold State.startEnable State.onPort; split <;> simp

/-! ## startDisable -/

@[simp] theorem State.startDisable_hold (s : State) (r : Request) : (s.startDisable r).hold = s.hold := by unfold State.startDisable State.onPort; split <;> simp

@[simp] theorem State.startDisable_straps (s : State) (r : Request) : (s.startDisable r).straps = s.straps := by unfold State.startDisable State.onPort; split <;> simp

@[simp] theorem State.startDisable_ms (s : State) (r : Request) : (s.startDisable r).ms = s.ms := by unfold State.startDisable State.onPort; split <;> simp

@[simp] theorem State.startDisable_pending (s : State) (r : Request) : (s.startDisable r).pending = s.pending := by unfold State.startDisable State.onPort; split <;> simp

/-! ## startRestart -/

@[simp] theorem State.startRestart_hold (s : State) (r : Request) : (s.startRestart r).hold = s.hold := by unfold State.startRestart State.onPort; split <;> simp

@[simp] theorem State.startRestart_straps (s : State) (r : Request) : (s.startRestart r).straps = s.straps := by unfold State.startRestart State.onPort; split <;> simp

@[simp] theorem State.startRestart_ms (s : State) (r : Request) : (s.startRestart r).ms = s.ms := by unfold State.startRestart State.onPort; split <;> simp

@[simp] theorem State.startRestart_pending (s : State) (r : Request) : (s.startRestart r).pending = s.pending := by unfold State.startRestart State.onPort; split <;> simp

/-! ## startQuery -/

@[simp] theorem State.startQuery_hold (s : State) (r : Request) : (s.startQuery r).hold = s.hold := by unfold State.startQuery State.onPort; split <;> (try dsimp only) <;> (try split_ifs) <;> simp

@[simp] theorem State.startQuery_straps (s : State) (r : Request) : (s.startQuery r).straps = s.straps := by unfold State.startQuery State.onPort; split <;> (try dsimp only) <;> (try split_ifs) <;> simp

@[simp] theorem State.startQuery_ms (s : State) (r : Request) : (s.startQuery r).ms = s.ms := by unfold State.startQuery State.onPort; split <;> (try dsimp only) <;> (try split_ifs) <;> simp

@[simp] theorem State.startQuery_ports (s : State) (r : Request) : (s.startQuery r).ports = s.ports := by unfold State.startQuery State.onPort; split <;> (try dsimp only) <;> (try split_ifs) <;> simp

@[simp] theorem State.startQuery_cache (s : State) (r : Request) : (s.startQuery r).cache = s.cache := by unfold State.startQuery State.onPort; split <;> (try dsimp only) <;> (try split_ifs) <;> simp

@[simp] theorem State.startQuery_bus (s : State) (r : Request) : (s.startQuery r).bus = s.bus := by unfold State.startQuery State.onPort; split <;> (try dsimp only) <;> (try split_ifs) <;> simp

@[simp] theorem State.startQuery_arb (s : State) (r : Request) : (s.startQuery r).arb = s.arb := by unfold State.startQuery State.onPort; split <;> (try dsimp only) <;> (try split_ifs) <;> simp

@[simp] theorem State.startQuery_we (s : State) (r : Request) : (s.startQuery r).we = s.we := by unfold State.startQuery State.onPort; split <;> (try dsimp only) <;> (try split_ifs) <;> simp

@[simp] theorem State.startQuery_rep (s : State) (r : Request) : (s.startQuery r).rep = s.rep := by unfold State.startQuery State.onPort; split <;> (try dsimp only) <;> (try split_ifs) <;> simp

@[simp] theorem State.startQuery_out (s : State) (r : Request) : (s.startQuery r).out = s.out := by unfold State.startQuery State.onPort; split <;> (try dsimp only) <;> (try split_ifs) <;> simp

@[simp] theorem State.startQuery_pending (s : State) (r : Request) : (s.startQuery r).pending = s.pending := by unfold State.startQuery State.onPort; split <;> (try dsimp only) <;> (try split_ifs) <;> simp

/-! ## startLaneTest -/

@[simp] theorem State.startLaneTest_hold (s : State) (r : Request) : (s.startLaneTest r).hold = s.hold := by unfold State.startLaneTest State.onPort; repeat first | split | (dsimp only; split) | simp

@[simp] theorem State.startLaneTest_straps (s : State) (r : Request) : (s.startLaneTest r).straps = s.straps := by unfold State.startLaneTest State.onPort; repeat first | split | (dsimp only; split) | simp

@[simp] theorem State.startLaneTest_ms (s : State) (r : Request) : (s.startLaneTest r).ms = s.ms := by unfold State.startLaneTest State.onPort; repeat first | split | (dsimp only; split) | simp

@[simp] theorem State.startLaneTest_cache (s : State) (r : Request) : (s.startLaneTest r).cache = s.cache := by unfold State.startLaneTest State.onPort; repeat first | split | (dsimp only; split) | simp

@[simp] theorem State.startLaneTest_bus (s : State) (r : Request) : (s.startLaneTest r).bus = s.bus := by unfold State.startLaneTest State.onPort; repeat first | split | (dsimp only; split) | simp

@[simp] theorem State.startLaneTest_arb (s : State) (r : Request) : (s.startLaneTest r).arb = s.arb := by unfold State.startLaneTest State.onPort; repeat first | split | (dsimp only; split) | simp

@[simp] theorem State.startLaneTest_rep (s : State) (r : Request) : (s.startLaneTest r).rep = s.rep := by unfold State.startLaneTest State.onPort; repeat first | split | (dsimp only; split) | simp

@[simp] theorem State.startLaneTest_out (s : State) (r : Request) : (s.startLaneTest r).out = s.out := by unfold State.startLaneTest State.onPort; repeat first | split | (dsimp only; split) | simp

@[simp] theorem State.startLaneTest_pending (s : State) (r : Request) : (s.startLaneTest r).pending = s.pending := by unfold State.startLaneTest State.onPort; repeat first | split | (dsimp only; split) | simp

/-! ## startTestStop -/

@[simp] theorem State.startTestStop_hold (s : State) (r : Request) : (s.startTestStop r).hold = s.hold := by unfold State.startTestStop State.onPort; repeat first | split | (dsimp only; split) | simp

@[simp] theorem State.startTestStop_straps (s : State) (r : Request) : (s.startTestStop r).straps = s.straps := by unfold State.startTestStop State.onPort; repeat first | split | (dsimp only; split) | simp

@[simp] theorem State.startTestStop_ms (s : State) (r : Request) : (s.startTestStop r).ms = s.ms := by unfold State.startTestStop State.onPort; repeat first | split | (dsimp only; split) | simp

@[simp] theorem State.startTestStop_cache (s : State) (r : Request) : (s.startTestStop r).cache = s.cache := by unfold State.startTestStop State.onPort; repeat first | split | (dsimp only; split) | simp

@[simp] theorem State.startTestStop_bus (s : State) (r : Request) : (s.startTestStop r).bus = s.bus := by unfold State.startTestStop State.onPort; repeat first | split | (dsimp only; split) | simp

@[simp] theorem State.startTestStop_arb (s : State) (r : Request) : (s.startTestStop r).arb = s.arb := by unfold State.startTestStop State.onPort; repeat first | split | (dsimp only; split) | simp

@[simp] theorem State.startTestStop_pending (s : State) (r : Request) : (s.startTestStop r).pending = s.pending := by unfold State.startTestStop State.onPort; repeat first | split | (dsimp only; split) | simp

/-! ## startAwait -/

@[simp] theorem State.startAwait_hold (s : State) (r : Request) : (s.startAwait r).hold = s.hold := by unfold State.startAwait State.onPort; repeat first | split | (dsimp only; split) | simp

@[simp] theorem State.startAwait_straps (s : State) (r : Request) : (s.startAwait r).straps = s.straps := by unfold State.startAwait State.onPort; repeat first | split | (dsimp only; split) | simp

@[simp] theorem State.startAwait_ms (s : State) (r : Request) : (s.startAwait r).ms = s.ms := by unfold State.startAwait State.onPort; repeat first | split | (dsimp only; split) | simp

@[simp] theorem State.startAwait_ports (s : State) (r : Request) : (s.startAwait r).ports = s.ports := by unfold State.startAwait State.onPort; repeat first | split | (dsimp only; split) | simp

@[simp] theorem State.startAwait_cache (s : State) (r : Request) : (s.startAwait r).cache = s.cache := by unfold State.startAwait State.onPort; repeat first | split | (dsimp only; split) | simp

@[simp] theorem State.startAwait_bus (s : State) (r : Request) : (s.startAwait r).bus = s.bus := by unfold State.startAwait State.onPort; repeat first | split | (dsimp only; split) | simp

@[simp] theorem State.startAwait_arb (s : State) (r : Request) : (s.startAwait r).arb = s.arb := by unfold State.startAwait State.onPort; repeat first | split | (dsimp only; split) | simp

@[simp] theorem State.startAwait_rep (s : State) (r : Request) : (s.startAwait r).rep = s.rep := by unfold State.startAwait State.onPort; repeat first | split | (dsimp only; split) | simp

@[simp] theorem State.startAwait_out (s : State) (r : Request) : (s.startAwait r).out = s.out := by unfold State.startAwait State.onPort; repeat first | split | (dsimp only; split) | simp

@[simp] theorem State.startAwait_pending (s : State) (r : Request) : (s.startAwait r).pending = s.pending := by unfold State.startAwait State.onPort; repeat first | split | (dsimp only; split) | simp

/-! ## startModuleRead -/

@[simp] theorem State.startModuleRead_hold (s : State) (r : Request) : (s.startModuleRead r).hold = s.hold := by unfold State.startModuleRead State.onPort; repeat first | split | (dsimp only; split) | simp

@[simp] theorem State.startModuleRead_straps (s : State) (r : Request) : (s.startModuleRead r).straps = s.straps := by unfold State.startModuleRead State.onPort; repeat first | split | (dsimp only; split) | simp

@[simp] theorem State.startModuleRead_ms (s : State) (r : Request) : (s.startModuleRead r).ms = s.ms := by unfold State.startModuleRead State.onPort; repeat first | split | (dsimp only; split) | simp

@[simp] theorem State.startModuleRead_pending (s : State) (r : Request) : (s.startModuleRead r).pending = s.pending := by unfold State.startModuleRead State.onPort; repeat first | split | (dsimp only; split) | simp

/-! ## startModuleWrite -/

@[simp] theorem State.startModuleWrite_hold (s : State) (r : Request) : (s.startModuleWrite r).hold = s.hold := by unfold State.startModuleWrite State.onPort; repeat first | split | (dsimp only; split) | simp

@[simp] theorem State.startModuleWrite_straps (s : State) (r : Request) : (s.startModuleWrite r).straps = s.straps := by unfold State.startModuleWrite State.onPort; repeat first | split | (dsimp only; split) | simp

@[simp] theorem State.startModuleWrite_ms (s : State) (r : Request) : (s.startModuleWrite r).ms = s.ms := by unfold State.startModuleWrite State.onPort; repeat first | split | (dsimp only; split) | simp

@[simp] theorem State.startModuleWrite_ports (s : State) (r : Request) : (s.startModuleWrite r).ports = s.ports := by unfold State.startModuleWrite State.onPort; repeat first | split | (dsimp only; split) | simp

@[simp] theorem State.startModuleWrite_cache (s : State) (r : Request) : (s.startModuleWrite r).cache = s.cache := by unfold State.startModuleWrite State.onPort; repeat first | split | (dsimp only; split) | simp

@[simp] theorem State.startModuleWrite_bus (s : State) (r : Request) : (s.startModuleWrite r).bus = s.bus := by unfold State.startModuleWrite State.onPort; repeat first | split | (dsimp only; split) | simp

@[simp] theorem State.startModuleWrite_arb (s : State) (r : Request) : (s.startModuleWrite r).arb = s.arb := by unfold State.startModuleWrite State.onPort; repeat first | split | (dsimp only; split) | simp

@[simp] theorem State.startModuleWrite_we (s : State) (r : Request) : (s.startModuleWrite r).we = s.we := by unfold State.startModuleWrite State.onPort; repeat first | split | (dsimp only; split) | simp

@[simp] theorem State.startModuleWrite_rep (s : State) (r : Request) : (s.startModuleWrite r).rep = s.rep := by unfold State.startModuleWrite State.onPort; repeat first | split | (dsimp only; split) | simp

@[simp] theorem State.startModuleWrite_out (s : State) (r : Request) : (s.startModuleWrite r).out = s.out := by unfold State.startModuleWrite State.onPort; repeat first | split | (dsimp only; split) | simp

@[simp] theorem State.startModuleWrite_pending (s : State) (r : Request) : (s.startModuleWrite r).pending = s.pending := by unfold State.startModuleWrite State.onPort; repeat first | split | (dsimp only; split) | simp

/-! ## startFlush -/

@[simp] theorem State.startFlush_hold (s : State) (r : Request) : (s.startFlush r).hold = s.hold := by unfold State.startFlush; simp

@[simp] theorem State.startFlush_straps (s : State) (r : Request) : (s.startFlush r).straps = s.straps := by unfold State.startFlush; simp

@[simp] theorem State.startFlush_ms (s : State) (r : Request) : (s.startFlush r).ms = s.ms := by unfold State.startFlush; simp

@[simp] theorem State.startFlush_pending (s : State) (r : Request) : (s.startFlush r).pending = s.pending := by unfold State.startFlush; simp

/-! ## startCapsLimit -/

@[simp] theorem State.startCapsLimit_hold (s : State) (r : Request) : (s.startCapsLimit r).hold = s.hold := by unfold State.startCapsLimit State.onPort; split <;> simp

@[simp] theorem State.startCapsLimit_straps (s : State) (r : Request) : (s.startCapsLimit r).straps = s.straps := by unfold State.startCapsLimit State.onPort; split <;> simp

@[simp] theorem State.startCapsLimit_ms (s : State) (r : Request) : (s.startCapsLimit r).ms = s.ms := by unfold State.startCapsLimit State.onPort; split <;> simp

@[simp] theorem State.startCapsLimit_cache (s : State) (r : Request) : (s.startCapsLimit r).cache = s.cache := by unfold State.startCapsLimit State.onPort; split <;> simp

@[simp] theorem State.startCapsLimit_bus (s : State) (r : Request) : (s.startCapsLimit r).bus = s.bus := by unfold State.startCapsLimit State.onPort; split <;> simp

@[simp] theorem State.startCapsLimit_arb (s : State) (r : Request) : (s.startCapsLimit r).arb = s.arb := by unfold State.startCapsLimit State.onPort; split <;> simp

@[simp] theorem State.startCapsLimit_we (s : State) (r : Request) : (s.startCapsLimit r).we = s.we := by unfold State.startCapsLimit State.onPort; split <;> simp

@[simp] theorem State.startCapsLimit_rep (s : State) (r : Request) : (s.startCapsLimit r).rep = s.rep := by unfold State.startCapsLimit State.onPort; split <;> simp

@[simp] theorem State.startCapsLimit_out (s : State) (r : Request) : (s.startCapsLimit r).out = s.out := by unfold State.startCapsLimit State.onPort; split <;> simp

@[simp] theorem State.startCapsLimit_pending (s : State) (r : Request) : (s.startCapsLimit r).pending = s.pending := by unfold State.startCapsLimit State.onPort; split <;> simp

/-! ## startSetConfig -/

@[simp] theorem State.startSetConfig_hold (s : State) (r : Request) : (s.startSetConfig r).hold = s.hold := rfl

@[simp] theorem State.startSetConfig_straps (s : State) (r : Request) : (s.startSetConfig r).straps = s.straps := rfl

@[simp] theorem State.startSetConfig_ms (s : State) (r : Request) : (s.startSetConfig r).ms = s.ms := rfl

@[simp] theorem State.startSetConfig_ports (s : State) (r : Request) : (s.startSetConfig r).ports = s.ports := rfl

@[simp] theorem State.startSetConfig_cache (s : State) (r : Request) : (s.startSetConfig r).cache = s.cache := rfl

@[simp] theorem State.startSetConfig_bus (s : State) (r : Request) : (s.startSetConfig r).bus = s.bus := rfl

@[simp] theorem State.startSetConfig_arb (s : State) (r : Request) : (s.startSetConfig r).arb = s.arb := rfl

@[simp] theorem State.startSetConfig_we (s : State) (r : Request) : (s.startSetConfig r).we = s.we := rfl

@[simp] theorem State.startSetConfig_rep (s : State) (r : Request) : (s.startSetConfig r).rep = s.rep := rfl

@[simp] theorem State.startSetConfig_regs (s : State) (r : Request) : (s.startSetConfig r).regs = s.regs := rfl

@[simp] theorem State.startSetConfig_out (s : State) (r : Request) : (s.startSetConfig r).out = s.out := rfl

@[simp] theorem State.startSetConfig_pending (s : State) (r : Request) : (s.startSetConfig r).pending = s.pending := rfl

/-! ## startKind -/

@[simp] theorem State.startKind_hold (s : State) (k : Kind) (r : Request) : (s.startKind k r).hold = s.hold := by cases k <;> simp [State.startKind]

@[simp] theorem State.startKind_straps (s : State) (k : Kind) (r : Request) : (s.startKind k r).straps = s.straps := by cases k <;> simp [State.startKind]

@[simp] theorem State.startKind_ms (s : State) (k : Kind) (r : Request) : (s.startKind k r).ms = s.ms := by cases k <;> simp [State.startKind]

@[simp] theorem State.startKind_pending (s : State) (k : Kind) (r : Request) : (s.startKind k r).pending = s.pending := by cases k <;> simp [State.startKind]

/-! ## nudgeWork -/

@[simp] theorem State.nudgeWork_hold (s : State) : (s.nudgeWork).hold = s.hold := State.triggerScan_hold s

@[simp] theorem State.nudgeWork_straps (s : State) : (s.nudgeWork).straps = s.straps := State.triggerScan_straps s

@[simp] theorem State.nudgeWork_ms (s : State) : (s.nudgeWork).ms = s.ms := State.triggerScan_ms s

@[simp] theorem State.nudgeWork_ports (s : State) : (s.nudgeWork).ports = s.ports := State.triggerScan_ports s

@[simp] theorem State.nudgeWork_cache (s : State) : (s.nudgeWork).cache = s.cache := State.triggerScan_cache s

@[simp] theorem State.nudgeWork_bus (s : State) : (s.nudgeWork).bus = s.bus := State.triggerScan_bus s

@[simp] theorem State.nudgeWork_arb (s : State) : (s.nudgeWork).arb = s.arb := State.triggerScan_arb s

@[simp] theorem State.nudgeWork_rep (s : State) : (s.nudgeWork).rep = s.rep := State.triggerScan_rep s

@[simp] theorem State.nudgeWork_regs (s : State) : (s.nudgeWork).regs = s.regs := State.triggerScan_regs s

@[simp] theorem State.nudgeWork_out (s : State) : (s.nudgeWork).out = s.out := State.triggerScan_out s

@[simp] theorem State.nudgeWork_pending (s : State) : (s.nudgeWork).pending = s.pending := State.triggerScan_pending s

/-! ## nudgeReports -/

@[simp] theorem State.nudgeReports_hold (s : State) : (s.nudgeReports).hold = s.hold := by unfold State.nudgeReports; split_ifs <;> simp

@[simp] theorem State.nudgeReports_straps (s : State) : (s.nudgeReports).straps = s.straps := by unfold State.nudgeReports; split_ifs <;> simp

@[simp] theorem State.nudgeReports_ms (s : State) : (s.nudgeReports).ms = s.ms := by unfold State.nudgeReports; split_ifs <;> simp

@[simp] theorem State.nudgeReports_ports (s : State) : (s.nudgeReports).ports = s.ports := by unfold State.nudgeReports; split_ifs <;> simp

@[simp] theorem State.nudgeReports_cache (s : State) : (s.nudgeReports).cache = s.cache := by unfold State.nudgeReports; split_ifs <;> simp

@[simp] theorem State.nudgeReports_bus (s : State) : (s.nudgeReports).bus = s.bus := by unfold State.nudgeReports; split_ifs <;> simp

@[simp] theorem State.nudgeReports_arb (s : State) : (s.nudgeReports).arb = s.arb := by unfold State.nudgeReports; split_ifs <;> simp

@[simp] theorem State.nudgeReports_we (s : State) : (s.nudgeReports).we = s.we := by unfold State.nudgeReports; split_ifs <;> simp

@[simp] theorem State.nudgeReports_regs (s : State) : (s.nudgeReports).regs = s.regs := by unfold State.nudgeReports; split_ifs <;> simp

@[simp] theorem State.nudgeReports_out (s : State) : (s.nudgeReports).out = s.out := by unfold State.nudgeReports; split_ifs <;> simp

@[simp] theorem State.nudgeReports_pending (s : State) : (s.nudgeReports).pending = s.pending := by unfold State.nudgeReports; split_ifs <;> simp

/-! ## writeNudge -/

@[simp] theorem State.writeNudge_hold (s : State) (v : Word) : (s.writeNudge v).hold = s.hold := by unfold State.writeNudge; dsimp only; split_ifs <;> simp

@[simp] theorem State.writeNudge_straps (s : State) (v : Word) : (s.writeNudge v).straps = s.straps := by unfold State.writeNudge; dsimp only; split_ifs <;> simp

@[simp] theorem State.writeNudge_ms (s : State) (v : Word) : (s.writeNudge v).ms = s.ms := by unfold State.writeNudge; dsimp only; split_ifs <;> simp

@[simp] theorem State.writeNudge_ports (s : State) (v : Word) : (s.writeNudge v).ports = s.ports := by unfold State.writeNudge; dsimp only; split_ifs <;> simp

@[simp] theorem State.writeNudge_cache (s : State) (v : Word) : (s.writeNudge v).cache = s.cache := by unfold State.writeNudge; dsimp only; split_ifs <;> simp

@[simp] theorem State.writeNudge_bus (s : State) (v : Word) : (s.writeNudge v).bus = s.bus := by unfold State.writeNudge; dsimp only; split_ifs <;> simp

@[simp] theorem State.writeNudge_arb (s : State) (v : Word) : (s.writeNudge v).arb = s.arb := by unfold State.writeNudge; dsimp only; split_ifs <;> simp

@[simp] theorem State.writeNudge_regs (s : State) (v : Word) : (s.writeNudge v).regs = s.regs := by unfold State.writeNudge; dsimp only; split_ifs <;> simp

@[simp] theorem State.writeNudge_out (s : State) (v : Word) : (s.writeNudge v).out = s.out := by unfold State.writeNudge; dsimp only; split_ifs <;> simp

@[simp] theorem State.writeNudge_pending (s : State) (v : Word) : (s.writeNudge v).pending = s.pending := by unfold State.writeNudge; dsimp only; split_ifs <;> simp

/-! ## writeControl -/

@[simp] theorem State.writeControl_hold (s : State) (v : Word) : (s.writeControl v).hold = s.hold := by unfold State.writeControl; split_ifs <;> simp

@[simp] theorem State.writeControl_straps (s : State) (v : Word) : (s.writeControl v).straps = s.straps := by unfold State.writeControl; split_ifs <;> simp

@[simp] theorem State.writeControl_ms (s : State) (v : Word) : (s.writeControl v).ms = s.ms := by unfold State.writeControl; split_ifs <;> simp

@[simp] theorem State.writeControl_pending (s : State) (v : Word) : (s.writeControl v).pending = s.pending := by unfold State.writeControl; split_ifs <;> simp

/-! ## writeRegister -/

@[simp] theorem State.writeRegister_hold (s : State) (o : BitVec 6) (v : Word) : (s.writeRegister o v).hold = s.hold := by unfold State.writeRegister; split_ifs <;> simp

@[simp] theorem State.writeRegister_straps (s : State) (o : BitVec 6) (v : Word) : (s.writeRegister o v).straps = s.straps := by unfold State.writeRegister; split_ifs <;> simp

@[simp] theorem State.writeRegister_ms (s : State) (o : BitVec 6) (v : Word) : (s.writeRegister o v).ms = s.ms := by unfold State.writeRegister; split_ifs <;> simp

@[simp] theorem State.writeRegister_pending (s : State) (o : BitVec 6) (v : Word) : (s.writeRegister o v).pending = s.pending := by unfold State.writeRegister; split_ifs <;> simp

/-! ## presenceLost -/

@[simp] theorem State.presenceLost_hold (s : State) (p : PortNo) : (s.presenceLost p).hold = s.hold := by unfold State.presenceLost; dsimp only; split_ifs <;> simp

@[simp] theorem State.presenceLost_straps (s : State) (p : PortNo) : (s.presenceLost p).straps = s.straps := by unfold State.presenceLost; dsimp only; split_ifs <;> simp

@[simp] theorem State.presenceLost_ms (s : State) (p : PortNo) : (s.presenceLost p).ms = s.ms := by unfold State.presenceLost; dsimp only; split_ifs <;> simp

@[simp] theorem State.presenceLost_pending (s : State) (p : PortNo) : (s.presenceLost p).pending = s.pending := by unfold State.presenceLost; dsimp only; split_ifs <;> simp

/-! ## takeBeacon -/

@[simp] theorem State.takeBeacon_hold (s : State) (p : PortNo) (i : LaneNo) (b : List Byte) : (s.takeBeacon p i b).hold = s.hold := by unfold State.takeBeacon; dsimp only; split_ifs <;> (try split) <;> simp

@[simp] theorem State.takeBeacon_straps (s : State) (p : PortNo) (i : LaneNo) (b : List Byte) : (s.takeBeacon p i b).straps = s.straps := by unfold State.takeBeacon; dsimp only; split_ifs <;> (try split) <;> simp

@[simp] theorem State.takeBeacon_ms (s : State) (p : PortNo) (i : LaneNo) (b : List Byte) : (s.takeBeacon p i b).ms = s.ms := by unfold State.takeBeacon; dsimp only; split_ifs <;> (try split) <;> simp

@[simp] theorem State.takeBeacon_cache (s : State) (p : PortNo) (i : LaneNo) (b : List Byte) : (s.takeBeacon p i b).cache = s.cache := by unfold State.takeBeacon; dsimp only; split_ifs <;> (try split) <;> simp

@[simp] theorem State.takeBeacon_bus (s : State) (p : PortNo) (i : LaneNo) (b : List Byte) : (s.takeBeacon p i b).bus = s.bus := by unfold State.takeBeacon; dsimp only; split_ifs <;> (try split) <;> simp

@[simp] theorem State.takeBeacon_arb (s : State) (p : PortNo) (i : LaneNo) (b : List Byte) : (s.takeBeacon p i b).arb = s.arb := by unfold State.takeBeacon; dsimp only; split_ifs <;> (try split) <;> simp

@[simp] theorem State.takeBeacon_pending (s : State) (p : PortNo) (i : LaneNo) (b : List Byte) : (s.takeBeacon p i b).pending = s.pending := by unfold State.takeBeacon; dsimp only; split_ifs <;> (try split) <;> simp

/-! ## takeWord -/

@[simp] theorem State.takeWord_hold (s : State) (p : PortNo) (i : LaneNo) (b : List Byte) : (s.takeWord p i b).hold = s.hold := by
  unfold State.takeWord; dsimp only
  repeat' split
  all_goals simp

@[simp] theorem State.takeWord_straps (s : State) (p : PortNo) (i : LaneNo) (b : List Byte) : (s.takeWord p i b).straps = s.straps := by
  unfold State.takeWord; dsimp only
  repeat' split
  all_goals simp

@[simp] theorem State.takeWord_ms (s : State) (p : PortNo) (i : LaneNo) (b : List Byte) : (s.takeWord p i b).ms = s.ms := by
  unfold State.takeWord; dsimp only
  repeat' split
  all_goals simp

@[simp] theorem State.takeWord_cache (s : State) (p : PortNo) (i : LaneNo) (b : List Byte) : (s.takeWord p i b).cache = s.cache := by
  unfold State.takeWord; dsimp only
  repeat' split
  all_goals simp

@[simp] theorem State.takeWord_bus (s : State) (p : PortNo) (i : LaneNo) (b : List Byte) : (s.takeWord p i b).bus = s.bus := by
  unfold State.takeWord; dsimp only
  repeat' split
  all_goals simp

@[simp] theorem State.takeWord_arb (s : State) (p : PortNo) (i : LaneNo) (b : List Byte) : (s.takeWord p i b).arb = s.arb := by
  unfold State.takeWord; dsimp only
  repeat' split
  all_goals simp

@[simp] theorem State.takeWord_pending (s : State) (p : PortNo) (i : LaneNo) (b : List Byte) : (s.takeWord p i b).pending = s.pending := by
  unfold State.takeWord; dsimp only
  repeat' split
  all_goals simp

/-! ## setStuck -/

@[simp] theorem State.setStuck_hold (s : State) (t : Txn) : (s.setStuck t).hold = s.hold := by unfold State.setStuck; split_ifs <;> rfl

@[simp] theorem State.setStuck_straps (s : State) (t : Txn) : (s.setStuck t).straps = s.straps := by unfold State.setStuck; split_ifs <;> rfl

@[simp] theorem State.setStuck_ms (s : State) (t : Txn) : (s.setStuck t).ms = s.ms := by unfold State.setStuck; split_ifs <;> rfl

@[simp] theorem State.setStuck_ports (s : State) (t : Txn) : (s.setStuck t).ports = s.ports := by unfold State.setStuck; split_ifs <;> rfl

@[simp] theorem State.setStuck_cache (s : State) (t : Txn) : (s.setStuck t).cache = s.cache := by unfold State.setStuck; split_ifs <;> rfl

@[simp] theorem State.setStuck_arb (s : State) (t : Txn) : (s.setStuck t).arb = s.arb := by unfold State.setStuck; split_ifs <;> rfl

@[simp] theorem State.setStuck_we (s : State) (t : Txn) : (s.setStuck t).we = s.we := by unfold State.setStuck; split_ifs <;> rfl

@[simp] theorem State.setStuck_mm (s : State) (t : Txn) : (s.setStuck t).mm = s.mm := by unfold State.setStuck; split_ifs <;> rfl

@[simp] theorem State.setStuck_rep (s : State) (t : Txn) : (s.setStuck t).rep = s.rep := by unfold State.setStuck; split_ifs <;> rfl

@[simp] theorem State.setStuck_regs (s : State) (t : Txn) : (s.setStuck t).regs = s.regs := by unfold State.setStuck; split_ifs <;> rfl

@[simp] theorem State.setStuck_out (s : State) (t : Txn) : (s.setStuck t).out = s.out := by unfold State.setStuck; split_ifs <;> rfl

@[simp] theorem State.setStuck_pending (s : State) (t : Txn) : (s.setStuck t).pending = s.pending := by unfold State.setStuck; split_ifs <;> rfl

/-! ## scanOn -/

@[simp] theorem State.scanOn_hold (s : State) : (s.scanOn).hold = s.hold := by unfold State.scanOn; split_ifs <;> rfl

@[simp] theorem State.scanOn_straps (s : State) : (s.scanOn).straps = s.straps := by unfold State.scanOn; split_ifs <;> rfl

@[simp] theorem State.scanOn_ms (s : State) : (s.scanOn).ms = s.ms := by unfold State.scanOn; split_ifs <;> rfl

@[simp] theorem State.scanOn_ports (s : State) : (s.scanOn).ports = s.ports := by unfold State.scanOn; split_ifs <;> rfl

@[simp] theorem State.scanOn_cache (s : State) : (s.scanOn).cache = s.cache := by unfold State.scanOn; split_ifs <;> rfl

@[simp] theorem State.scanOn_bus (s : State) : (s.scanOn).bus = s.bus := by unfold State.scanOn; split_ifs <;> rfl

@[simp] theorem State.scanOn_arb (s : State) : (s.scanOn).arb = s.arb := by unfold State.scanOn; split_ifs <;> rfl

@[simp] theorem State.scanOn_rep (s : State) : (s.scanOn).rep = s.rep := by unfold State.scanOn; split_ifs <;> rfl

@[simp] theorem State.scanOn_regs (s : State) : (s.scanOn).regs = s.regs := by unfold State.scanOn; split_ifs <;> rfl

@[simp] theorem State.scanOn_out (s : State) : (s.scanOn).out = s.out := by unfold State.scanOn; split_ifs <;> rfl

@[simp] theorem State.scanOn_pending (s : State) : (s.scanOn).pending = s.pending := by unfold State.scanOn; split_ifs <;> rfl

/-! ## anchorReturned -/

@[simp] theorem State.anchorReturned_hold (s : State) (b : List Byte) : (s.anchorReturned b).hold = s.hold := by unfold State.anchorReturned; split_ifs <;> simp

@[simp] theorem State.anchorReturned_straps (s : State) (b : List Byte) : (s.anchorReturned b).straps = s.straps := by unfold State.anchorReturned; split_ifs <;> simp

@[simp] theorem State.anchorReturned_ms (s : State) (b : List Byte) : (s.anchorReturned b).ms = s.ms := by unfold State.anchorReturned; split_ifs <;> simp

@[simp] theorem State.anchorReturned_pending (s : State) (b : List Byte) : (s.anchorReturned b).pending = s.pending := by unfold State.anchorReturned; split_ifs <;> simp

/-! ## configReturned -/

@[simp] theorem State.configReturned_hold (s : State) (b : List Byte) (r : Request) : (s.configReturned b r).hold = s.hold := by unfold State.configReturned; dsimp only; split_ifs <;> simp

@[simp] theorem State.configReturned_straps (s : State) (b : List Byte) (r : Request) : (s.configReturned b r).straps = s.straps := by unfold State.configReturned; dsimp only; split_ifs <;> simp

@[simp] theorem State.configReturned_ms (s : State) (b : List Byte) (r : Request) : (s.configReturned b r).ms = s.ms := by unfold State.configReturned; dsimp only; split_ifs <;> simp

@[simp] theorem State.configReturned_cache (s : State) (b : List Byte) (r : Request) : (s.configReturned b r).cache = s.cache := by unfold State.configReturned; dsimp only; split_ifs <;> simp

@[simp] theorem State.configReturned_bus (s : State) (b : List Byte) (r : Request) : (s.configReturned b r).bus = s.bus := by unfold State.configReturned; dsimp only; split_ifs <;> simp

@[simp] theorem State.configReturned_arb (s : State) (b : List Byte) (r : Request) : (s.configReturned b r).arb = s.arb := by unfold State.configReturned; dsimp only; split_ifs <;> simp

@[simp] theorem State.configReturned_rep (s : State) (b : List Byte) (r : Request) : (s.configReturned b r).rep = s.rep := by unfold State.configReturned; dsimp only; split_ifs <;> simp

@[simp] theorem State.configReturned_out (s : State) (b : List Byte) (r : Request) : (s.configReturned b r).out = s.out := by unfold State.configReturned; dsimp only; split_ifs <;> simp

@[simp] theorem State.configReturned_pending (s : State) (b : List Byte) (r : Request) : (s.configReturned b r).pending = s.pending := by unfold State.configReturned; dsimp only; split_ifs <;> simp

/-! ## scanAfterTake -/

@[simp] theorem State.scanAfterTake_hold (s : State) : (s.scanAfterTake).hold = s.hold := by unfold State.scanAfterTake; split_ifs <;> rfl

@[simp] theorem State.scanAfterTake_straps (s : State) : (s.scanAfterTake).straps = s.straps := by unfold State.scanAfterTake; split_ifs <;> rfl

@[simp] theorem State.scanAfterTake_ms (s : State) : (s.scanAfterTake).ms = s.ms := by unfold State.scanAfterTake; split_ifs <;> rfl

@[simp] theorem State.scanAfterTake_ports (s : State) : (s.scanAfterTake).ports = s.ports := by unfold State.scanAfterTake; split_ifs <;> rfl

@[simp] theorem State.scanAfterTake_cache (s : State) : (s.scanAfterTake).cache = s.cache := by unfold State.scanAfterTake; split_ifs <;> rfl

@[simp] theorem State.scanAfterTake_bus (s : State) : (s.scanAfterTake).bus = s.bus := by unfold State.scanAfterTake; split_ifs <;> rfl

@[simp] theorem State.scanAfterTake_arb (s : State) : (s.scanAfterTake).arb = s.arb := by unfold State.scanAfterTake; split_ifs <;> rfl

@[simp] theorem State.scanAfterTake_rep (s : State) : (s.scanAfterTake).rep = s.rep := by unfold State.scanAfterTake; split_ifs <;> rfl

@[simp] theorem State.scanAfterTake_regs (s : State) : (s.scanAfterTake).regs = s.regs := by unfold State.scanAfterTake; split_ifs <;> rfl

@[simp] theorem State.scanAfterTake_out (s : State) : (s.scanAfterTake).out = s.out := by unfold State.scanAfterTake; split_ifs <;> rfl

@[simp] theorem State.scanAfterTake_pending (s : State) : (s.scanAfterTake).pending = s.pending := by unfold State.scanAfterTake; split_ifs <;> rfl

/-! ## take -/

@[simp] theorem State.take_hold (s : State) (k : Option Kind) (r : Request) : (s.take k r).hold = s.hold := by cases k <;> simp [State.take]

@[simp] theorem State.take_straps (s : State) (k : Option Kind) (r : Request) : (s.take k r).straps = s.straps := by cases k <;> simp [State.take]

@[simp] theorem State.take_ms (s : State) (k : Option Kind) (r : Request) : (s.take k r).ms = s.ms := by cases k <;> simp [State.take]

@[simp] theorem State.take_pending (s : State) (k : Option Kind) (r : Request) : (s.take k r).pending = s.pending := by cases k <;> simp [State.take]

/-! ## descReturned -/

@[simp] theorem State.descReturned_hold (s : State) (d : List Byte) : (s.descReturned d).hold = s.hold := by unfold State.descReturned; dsimp only; split_ifs <;> simp

@[simp] theorem State.descReturned_straps (s : State) (d : List Byte) : (s.descReturned d).straps = s.straps := by unfold State.descReturned; dsimp only; split_ifs <;> simp

@[simp] theorem State.descReturned_ms (s : State) (d : List Byte) : (s.descReturned d).ms = s.ms := by unfold State.descReturned; dsimp only; split_ifs <;> simp

@[simp] theorem State.descReturned_pending (s : State) (d : List Byte) : (s.descReturned d).pending = s.pending := by unfold State.descReturned; dsimp only; split_ifs <;> simp

/-! ## fillReturned -/

@[simp] theorem State.fillReturned_hold (s : State) (p : PortNo) (g : BitVec 32) (e : Vector Byte 16) : (s.fillReturned p g e).hold = s.hold := by unfold State.fillReturned; dsimp only; split_ifs <;> simp

@[simp] theorem State.fillReturned_straps (s : State) (p : PortNo) (g : BitVec 32) (e : Vector Byte 16) : (s.fillReturned p g e).straps = s.straps := by unfold State.fillReturned; dsimp only; split_ifs <;> simp

@[simp] theorem State.fillReturned_ms (s : State) (p : PortNo) (g : BitVec 32) (e : Vector Byte 16) : (s.fillReturned p g e).ms = s.ms := by unfold State.fillReturned; dsimp only; split_ifs <;> simp

@[simp] theorem State.fillReturned_bus (s : State) (p : PortNo) (g : BitVec 32) (e : Vector Byte 16) : (s.fillReturned p g e).bus = s.bus := by unfold State.fillReturned; dsimp only; split_ifs <;> simp

@[simp] theorem State.fillReturned_arb (s : State) (p : PortNo) (g : BitVec 32) (e : Vector Byte 16) : (s.fillReturned p g e).arb = s.arb := by unfold State.fillReturned; dsimp only; split_ifs <;> simp

@[simp] theorem State.fillReturned_pending (s : State) (p : PortNo) (g : BitVec 32) (e : Vector Byte 16) : (s.fillReturned p g e).pending = s.pending := by unfold State.fillReturned; dsimp only; split_ifs <;> simp

/-! ## writeReport -/

@[simp] theorem State.writeReport_hold (s : State) (p : PortNo) (l : List PortNo) : (s.writeReport p l).hold = s.hold := by unfold State.writeReport; simp

@[simp] theorem State.writeReport_straps (s : State) (p : PortNo) (l : List PortNo) : (s.writeReport p l).straps = s.straps := by unfold State.writeReport; simp

@[simp] theorem State.writeReport_ms (s : State) (p : PortNo) (l : List PortNo) : (s.writeReport p l).ms = s.ms := by unfold State.writeReport; simp

@[simp] theorem State.writeReport_ports (s : State) (p : PortNo) (l : List PortNo) : (s.writeReport p l).ports = s.ports := by unfold State.writeReport; simp

@[simp] theorem State.writeReport_cache (s : State) (p : PortNo) (l : List PortNo) : (s.writeReport p l).cache = s.cache := by unfold State.writeReport; simp

@[simp] theorem State.writeReport_bus (s : State) (p : PortNo) (l : List PortNo) : (s.writeReport p l).bus = s.bus := by unfold State.writeReport; simp

@[simp] theorem State.writeReport_arb (s : State) (p : PortNo) (l : List PortNo) : (s.writeReport p l).arb = s.arb := by unfold State.writeReport; simp

@[simp] theorem State.writeReport_we (s : State) (p : PortNo) (l : List PortNo) : (s.writeReport p l).we = s.we := by unfold State.writeReport; simp

@[simp] theorem State.writeReport_out (s : State) (p : PortNo) (l : List PortNo) : (s.writeReport p l).out = s.out := by unfold State.writeReport; simp

@[simp] theorem State.writeReport_pending (s : State) (p : PortNo) (l : List PortNo) : (s.writeReport p l).pending = s.pending := by unfold State.writeReport; simp

/-! ## reportBlocked -/

@[simp] theorem State.reportBlocked_hold (s : State) : (s.reportBlocked).hold = s.hold := by unfold State.reportBlocked; split_ifs <;> rfl

@[simp] theorem State.reportBlocked_straps (s : State) : (s.reportBlocked).straps = s.straps := by unfold State.reportBlocked; split_ifs <;> rfl

@[simp] theorem State.reportBlocked_ms (s : State) : (s.reportBlocked).ms = s.ms := by unfold State.reportBlocked; split_ifs <;> rfl

@[simp] theorem State.reportBlocked_ports (s : State) : (s.reportBlocked).ports = s.ports := by unfold State.reportBlocked; split_ifs <;> rfl

@[simp] theorem State.reportBlocked_cache (s : State) : (s.reportBlocked).cache = s.cache := by unfold State.reportBlocked; split_ifs <;> rfl

@[simp] theorem State.reportBlocked_bus (s : State) : (s.reportBlocked).bus = s.bus := by unfold State.reportBlocked; split_ifs <;> rfl

@[simp] theorem State.reportBlocked_arb (s : State) : (s.reportBlocked).arb = s.arb := by unfold State.reportBlocked; split_ifs <;> rfl

@[simp] theorem State.reportBlocked_we (s : State) : (s.reportBlocked).we = s.we := by unfold State.reportBlocked; split_ifs <;> rfl

@[simp] theorem State.reportBlocked_out (s : State) : (s.reportBlocked).out = s.out := by unfold State.reportBlocked; split_ifs <;> rfl

@[simp] theorem State.reportBlocked_pending (s : State) : (s.reportBlocked).pending = s.pending := by unfold State.reportBlocked; split_ifs <;> rfl

/-! ## reportReturned -/

@[simp] theorem State.reportReturned_hold (s : State) (b : Byte) : (s.reportReturned b).hold = s.hold := by unfold State.reportReturned; split_ifs <;> (try split) <;> simp

@[simp] theorem State.reportReturned_straps (s : State) (b : Byte) : (s.reportReturned b).straps = s.straps := by unfold State.reportReturned; split_ifs <;> (try split) <;> simp

@[simp] theorem State.reportReturned_ms (s : State) (b : Byte) : (s.reportReturned b).ms = s.ms := by unfold State.reportReturned; split_ifs <;> (try split) <;> simp

@[simp] theorem State.reportReturned_ports (s : State) (b : Byte) : (s.reportReturned b).ports = s.ports := by unfold State.reportReturned; split_ifs <;> (try split) <;> simp

@[simp] theorem State.reportReturned_cache (s : State) (b : Byte) : (s.reportReturned b).cache = s.cache := by unfold State.reportReturned; split_ifs <;> (try split) <;> simp

@[simp] theorem State.reportReturned_bus (s : State) (b : Byte) : (s.reportReturned b).bus = s.bus := by unfold State.reportReturned; split_ifs <;> (try split) <;> simp

@[simp] theorem State.reportReturned_arb (s : State) (b : Byte) : (s.reportReturned b).arb = s.arb := by unfold State.reportReturned; split_ifs <;> (try split) <;> simp

@[simp] theorem State.reportReturned_we (s : State) (b : Byte) : (s.reportReturned b).we = s.we := by unfold State.reportReturned; split_ifs <;> (try split) <;> simp

@[simp] theorem State.reportReturned_out (s : State) (b : Byte) : (s.reportReturned b).out = s.out := by unfold State.reportReturned; split_ifs <;> (try split) <;> simp

@[simp] theorem State.reportReturned_pending (s : State) (b : Byte) : (s.reportReturned b).pending = s.pending := by unfold State.reportReturned; split_ifs <;> (try split) <;> simp

/-! ## reportDelivered -/

@[simp] theorem State.reportDelivered_hold (s : State) : (s.reportDelivered).hold = s.hold := by unfold State.reportDelivered; simp

@[simp] theorem State.reportDelivered_straps (s : State) : (s.reportDelivered).straps = s.straps := by unfold State.reportDelivered; simp

@[simp] theorem State.reportDelivered_ms (s : State) : (s.reportDelivered).ms = s.ms := by unfold State.reportDelivered; simp

@[simp] theorem State.reportDelivered_ports (s : State) : (s.reportDelivered).ports = s.ports := by unfold State.reportDelivered; simp

@[simp] theorem State.reportDelivered_cache (s : State) : (s.reportDelivered).cache = s.cache := by unfold State.reportDelivered; simp

@[simp] theorem State.reportDelivered_bus (s : State) : (s.reportDelivered).bus = s.bus := by unfold State.reportDelivered; simp

@[simp] theorem State.reportDelivered_arb (s : State) : (s.reportDelivered).arb = s.arb := by unfold State.reportDelivered; simp

@[simp] theorem State.reportDelivered_we (s : State) : (s.reportDelivered).we = s.we := by unfold State.reportDelivered; simp

@[simp] theorem State.reportDelivered_regs (s : State) : (s.reportDelivered).regs = s.regs := by unfold State.reportDelivered; simp

@[simp] theorem State.reportDelivered_out (s : State) : (s.reportDelivered).out = s.out := by unfold State.reportDelivered; simp

@[simp] theorem State.reportDelivered_pending (s : State) : (s.reportDelivered).pending = s.pending := by unfold State.reportDelivered; simp

/-! ## fault -/

@[simp] theorem State.fault_hold (s : State) : (s.fault).hold = s.hold := by unfold State.fault; dsimp only; split_ifs <;> simp

@[simp] theorem State.fault_straps (s : State) : (s.fault).straps = s.straps := by unfold State.fault; dsimp only; split_ifs <;> simp

@[simp] theorem State.fault_ms (s : State) : (s.fault).ms = s.ms := by unfold State.fault; dsimp only; split_ifs <;> simp

@[simp] theorem State.fault_pending (s : State) : (s.fault).pending = s.pending := by unfold State.fault; dsimp only; split_ifs <;> simp

end Sys2Proof.Machine
end

