-- ==== Sys2Proof/Laws/Ports.lean ====
section
/-!
SUPPORT. What one event of one port does, said once: the outcome of a command, the ports after an event, the lanes after
mode commands, and the record after each entry into a state.
-/

namespace Sys2Proof.Machine

/-! ## The outcome of a command -/

/-- Out of reset a command answers the state its meaning gives, with the interrupt messages of the change added. -/
theorem act_released (s : State) (f : State → State) (h : s.hold = .released) :
    act s f = .next { f { s with out := [] } with
      out := (f { s with out := [] }).out ++ irqMessage s (f { s with out := [] }) } := by
  simp [act, h]

/-- In reset a command changes nothing but the lines, which are quiet. -/
theorem act_held (s : State) (f : State → State) (h : s.hold ≠ .released) : act s f = .next { s with out := [] } := by
  simp [act, h]

/-- A command always answers a next state. -/
theorem act_next (s : State) (f : State → State) : ∃ t, act s f = .next t := by
  unfold act; split_ifs <;> exact ⟨_, rfl⟩

/-- A field other than `out` that the effect keeps is kept by the command. -/
theorem act_keeps {γ : Type} (g : State → γ) (s t : State) (f : State → State) (ho : ∀ u o, g { u with out := o } = g u)
    (hf : ∀ u, g (f u) = g u) (h : act s f = .next t) : g t = g s := by
  unfold act at h
  split_ifs at h <;> simp only [Host.Outcome.next.injEq] at h <;> subst h
  · simp [ho, hf]
  · exact ho _ _

/-! ## One event of one port -/

/-- The ports after an event is handed over: the port's own context alone is replaced. -/
@[simp] theorem State.settle_ports (s : State) (p : PortNo) (c : Ctl) : (s.settle p c).ports = s.ports.set p c.port := by
  unfold State.settle
  dsimp only
  cases c.ended <;> simp only [] <;> split_ifs <;> simp

/-- The lines after an event is handed over: the front-end commands are added. -/
@[simp] theorem State.settle_out (s : State) (p : PortNo) (c : Ctl) : (s.settle p c).out = s.out ++ c.out := by
  unfold State.settle
  dsimp only
  cases c.ended <;> simp only [] <;> split_ifs <;> simp

@[simp] theorem State.port_settle (s : State) (p : PortNo) (c : Ctl) : (s.settle p c).port p = c.port := by
  simp [State.port]

theorem State.port_settle_of_ne (s : State) (p q : PortNo) (c : Ctl) (h : q ≠ p) :
    (s.settle p c).port q = s.port q := by
  have : (p : Nat) ≠ q := fun e => h (Fin.ext e.symm)
  simp [State.port, this]

/-- The port at work on an event. -/
def State.ctl (s : State) (p : PortNo) (f : Env → Ctl → Ctl) : Ctl := f (s.env p) (Ctl.start (s.port p))

/-- An event that does not put its port in ACTIVE is handed over and nothing else follows. -/
theorem State.runPort_of_not_active (s : State) (p : PortNo) (f : Env → Ctl → Ctl)
    (h : (s.ctl p f).port.st ≠ .active) : s.runPort p f = s.settle p (s.ctl p f) := by
  have h' : ((s.settle p (s.ctl p f)).port p).st ≠ .active := by simpa using h
  unfold State.runPort
  exact if_neg fun hc => h' hc.1

/-- An event that finds its port ACTIVE is handed over and nothing else follows. -/
theorem State.runPort_of_active (s : State) (p : PortNo) (f : Env → Ctl → Ctl) (h : (s.port p).st = .active) :
    s.runPort p f = s.settle p (s.ctl p f) := by
  unfold State.runPort
  exact if_neg fun hc => hc.2 h

/-- An event of one port leaves every other port as it is. -/
theorem State.port_runPort_of_ne (s : State) (p q : PortNo) (f : Env → Ctl → Ctl) (h : q ≠ p) :
    (s.runPort p f).port q = s.port q := by
  unfold State.runPort
  dsimp only
  split_ifs
  · refine (foldl_field (fun t => State.port t q) _ (fun t i => ?_) _ _).trans (State.port_settle_of_ne _ _ _ _ h)
    split_ifs
    · exact State.port_settle_of_ne _ _ _ _ h
    · rfl
  · exact State.port_settle_of_ne _ _ _ _ h

/-! ## Lane mode commands (R33) -/

/-- What a command makes of a lane record: one that names the lane's state changes nothing. -/
def Lane.after (l : Lane) (cmd : LaneCmd) : Lane := if l.st = cmd.names then l else l.take cmd

theorem Ctl.command_port (self : PortNo) (i : LaneNo) (cmd : LaneCmd) (c : Ctl) :
    (c.command self i cmd).port = c.port.setLane i ((c.port.lane i).after cmd) := by
  unfold Ctl.command Lane.after
  dsimp only
  split_ifs
  · simp [Port.setLane, Port.lane]
  · rfl

@[simp] theorem Ctl.command_kinds (self : PortNo) (i : LaneNo) (cmd : LaneCmd) (c : Ctl) :
    (c.command self i cmd).kinds = c.kinds := by
  unfold Ctl.command; dsimp only; split_ifs <;> rfl

@[simp] theorem Ctl.command_ended (self : PortNo) (i : LaneNo) (cmd : LaneCmd) (c : Ctl) :
    (c.command self i cmd).ended = c.ended := by
  unfold Ctl.command; dsimp only; split_ifs <;> rfl

/-- Commands to the four lanes change each lane record by its own command and nothing else of the port. -/
theorem Ctl.commandAll_port (self : PortNo) (f : LaneNo → LaneCmd) (c : Ctl) :
    (c.commandAll self f).port = c.port.mapLanes fun i l => l.after (f i) := by
  have key : (c.commandAll self f).port = { c.port with
      lanes := (((c.port.lanes.set 0 ((c.port.lane 0).after (f 0))).set 1 ((c.port.lane 1).after (f 1))).set 2
        ((c.port.lane 2).after (f 2))).set 3 ((c.port.lane 3).after (f 3)) } := by
    simp [Ctl.commandAll, allLanes, Ctl.command_port, Port.setLane, Port.lane]
  have lanes : (((c.port.lanes.set 0 ((c.port.lane 0).after (f 0))).set 1 ((c.port.lane 1).after (f 1))).set 2
      ((c.port.lane 2).after (f 2))).set 3 ((c.port.lane 3).after (f 3)) =
      Vector.ofFn fun i => (c.port.lane i).after (f i) := by
    apply Vector.ext
    intro i hi
    have : i = 0 ∨ i = 1 ∨ i = 2 ∨ i = 3 := by omega
    rcases this with rfl | rfl | rfl | rfl <;> simp
  rw [key, lanes]
  rfl

@[simp] theorem Ctl.commandAll_kinds (self : PortNo) (f : LaneNo → LaneCmd) (c : Ctl) :
    (c.commandAll self f).kinds = c.kinds :=
  foldl_field Ctl.kinds _ (fun _ _ => Ctl.command_kinds _ _ _ _) _ _

@[simp] theorem Ctl.commandAll_ended (self : PortNo) (f : LaneNo → LaneCmd) (c : Ctl) :
    (c.commandAll self f).ended = c.ended :=
  foldl_field Ctl.ended _ (fun _ _ => Ctl.command_ended _ _ _ _) _ _

/-- A lane commanded QUIET is QUIET. -/
@[simp] theorem Lane.after_quiet (l : Lane) : (l.after .quiet).st = .quiet := by
  unfold Lane.after; split_ifs with h
  · exact h
  · rfl

/-- A lane takes the state its command names. -/
theorem Lane.after_st (l : Lane) (cmd : LaneCmd) : (l.after cmd).st = cmd.names := by
  unfold Lane.after; split_ifs with h
  · exact h
  · cases cmd <;> rfl

end Sys2Proof.Machine
end

