-- ==== Sys2Proof/Laws/Entries.lean ====
section
/-!
SUPPORT. What each entry into a port state makes of the port, in the terms of Safety.lean, and which changes it marks.
-/

namespace Sys2Proof.Machine

/-! ## Lane sets -/

/-- A lane is in the set a test gives exactly when the test holds for it. -/
theorem hasLane_lanesWhere (f : LaneNo → Bool) (i : LaneNo) : hasLane (lanesWhere f) i = f i := by
  unfold lanesWhere allLanes hasLane
  simp only [List.foldl]
  cases h0 : f 0 <;> cases h1 : f 1 <;> cases h2 : f 2 <;> cases h3 : f 3 <;> fin_cases i <;> simp [h0, h1, h2, h3]

theorem lanesWhere_eq_zero (f : LaneNo → Bool) : lanesWhere f = 0 ↔ ∀ i, f i = false := by
  constructor
  · intro h i
    have e := hasLane_lanesWhere f i
    rw [h] at e
    rw [← e]
    simp [hasLane]
  · intro h
    have e : f = fun _ => false := funext h
    subst e
    rfl

theorem Port.setIn_eq_zero (c : Port) (st : LaneState) :
    c.setIn st = 0 ↔ ∀ i, hasLane c.laneSet i = true → (c.lane i).st ≠ st := by
  unfold Port.setIn
  rw [lanesWhere_eq_zero]
  refine forall_congr' fun i => ?_
  cases hasLane c.laneSet i <;> simp

theorem Port.lane_setLane_ite (c : Port) (i j : LaneNo) (l : Lane) :
    (c.setLane i l).lane j = if j = i then l else c.lane j := by
  split_ifs with h
  · subst h; simp
  · exact Port.lane_setLane_of_ne c i j l h

/-! ## Reads of a changed port -/

@[simp] theorem Ctl.mod_port (c : Ctl) (f : Port → Port) : (c.mod f).port = f c.port := rfl
@[simp] theorem Ctl.mod_kinds (c : Ctl) (f : Port → Port) : (c.mod f).kinds = c.kinds := rfl
@[simp] theorem Ctl.mod_ended (c : Ctl) (f : Port → Port) : (c.mod f).ended = c.ended := rfl
@[simp] theorem Ctl.mod_out (c : Ctl) (f : Port → Port) : (c.mod f).out = c.out := rfl
@[simp] theorem Ctl.mark_port (c : Ctl) (k : BitVec 5) : (c.mark k).port = c.port := rfl
@[simp] theorem Ctl.mark_kinds (c : Ctl) (k : BitVec 5) : (c.mark k).kinds = c.kinds ||| k := rfl
@[simp] theorem Ctl.mark_ended (c : Ctl) (k : BitVec 5) : (c.mark k).ended = c.ended := rfl
@[simp] theorem Ctl.mark_out (c : Ctl) (k : BitVec 5) : (c.mark k).out = c.out := rfl

@[simp] theorem Ctl.goTo_ended (c : Ctl) (st : PortState) : (c.goTo st).ended = c.ended := rfl
@[simp] theorem Ctl.goTo_out (c : Ctl) (st : PortState) : (c.goTo st).out = c.out := rfl

/-- The port after a change of state. -/
theorem Ctl.goTo_port (c : Ctl) (st : PortState) :
    (c.goTo st).port = { c.port.closeTest with
      st := st, sub := none, phaseTimer := none, burst := none, holdReason := .noReason,
      lowPower := st.lowPower, modReset := false } := rfl

/-- A change of state marks MILESTONE on leaving ACTIVE and on the entries of R30. -/
theorem Ctl.goTo_kinds (c : Ctl) (st : PortState) :
    (c.goTo st).kinds = c.kinds ||| (if c.port.st = .active ∨ st.milestone then kindMilestone else 0) := rfl

/-- What commands to the four lanes keep of a lane record. -/
theorem Lane.after_keeps (l : Lane) (cmd : LaneCmd) :
    (l.after cmd).polarity = l.polarity ∧ (l.after cmd).cand = l.cand ∧ (l.after cmd).rep = l.rep ∧
    (l.after cmd).far = l.far ∧ (l.after cmd).neg = l.neg ∧ (l.after cmd).beaconErrs = l.beaconErrs ∧
    (l.after cmd).lineErrs = l.lineErrs ∧ (l.after cmd).test = l.test := by
  unfold Lane.after; split_ifs
  · simp
  · cases cmd <;> simp [Lane.take]

@[simp] theorem LaneCmd.names_quiet : LaneCmd.quiet.names = .quiet := rfl
@[simp] theorem LaneCmd.names_beacon : LaneCmd.beacon.names = .beacon := rfl
@[simp] theorem LaneCmd.names_train (g : Grade) : (LaneCmd.train g).names = .training := rfl
@[simp] theorem LaneCmd.names_data : LaneCmd.data.names = .data := rfl
@[simp] theorem LaneCmd.names_failed : LaneCmd.failed.names = .failed := rfl

@[simp] theorem LaneCmd.names_ite (b : Bool) (x y : LaneCmd) :
    (if b = true then x else y).names = if b = true then x.names else y.names := by cases b <;> rfl

theorem Port.beaconing_names (c : Port) (i : LaneNo) :
    (c.beaconing i).names = if c.isPresent i then .beacon else .quiet := by simp [Port.beaconing]

@[simp] theorem Lane.clear_st (l : Lane) : l.clear.st = l.st := rfl

/-! ## The entries -/

theorem Ctl.enterOff_is (c : Ctl) (self : PortNo) : IsOff c.port (c.enterOff self).port := by
  simp [IsOff, ModuleCleared, BringUpCleared, LanesCleared, Ctl.enterOff, Ctl.commandAll_port, Ctl.goTo_port,
    Port.mapLanes, Port.clearModule, Port.clearBringUp, Port.closeTest, Port.lane, Lane.clear, PortState.lowPower,
    Lane.after_st]

theorem Ctl.enterEmpty_is (c : Ctl) (self : PortNo) : IsEmpty c.port (c.enterEmpty self).port := by
  simp [IsEmpty, KeepsSettings, ModuleCleared, BringUpCleared, LanesCleared, Ctl.enterEmpty, Ctl.commandAll_port,
    Ctl.goTo_port, Port.mapLanes, Port.clearModule, Port.clearBringUp, Port.closeTest, Port.lane, Lane.clear,
    PortState.lowPower, Lane.after_st]

theorem Ctl.enterIdentify_is (c : Ctl) (self : PortNo) (restart : Bool) :
    IsIdentify restart c.port (c.enterIdentify self restart).port := by
  simp [IsIdentify, KeepsSettings, ModuleCleared, BringUpCleared, LanesCleared, Ctl.enterIdentify, Ctl.commandAll_port,
    Ctl.goTo_port, Port.mapLanes, Port.clearModule, Port.clearBringUp, Port.closeTest, Port.lane, Lane.clear,
    PortState.lowPower, Lane.after_st, Config.resetPulse]

theorem Ctl.enterSignal_is (c : Ctl) (env : Env) : IsSignal env.cfg c.port (c.enterSignal env).port := by
  simp [IsSignal, AtWork, KeepsSettings, KeepsModule, BringUpCleared, LanesCleared, LanesIn, Ctl.enterSignal,
    Ctl.commandAll_port, Ctl.goTo_port, Port.mapLanes, Port.clearBringUp, Port.closeTest, Port.lane, Lane.clear,
    PortState.lowPower, Lane.after_st, Lane.after_keeps, Port.setPhase, Port.beaconing_names]
  intro i; rfl

theorem Ctl.enterHeld_is (c : Ctl) (self : PortNo) (why : HoldReason) :
    IsHeld why c.port (c.enterHeld self why).port := by
  simp [IsHeld, AtWork, KeepsSettings, LanesIn, Ctl.enterHeld, Ctl.commandAll_port, Ctl.goTo_port, Port.mapLanes,
    Port.closeTest, Port.lane, PortState.lowPower, Lane.after_st, Port.setPhase,
    Port.beaconing_names]
  intro i; rfl

theorem Ctl.enterTrain_is (c : Ctl) (env : Env) (g : Grade) (h : c.port.agreed = some g) :
    IsTrain env.cfg c.port (c.enterTrain env).port := by
  simp [IsTrain, AtWork, KeepsSettings, KeepsModule, LanesIn, Ctl.enterTrain, Ctl.commandAll_port, Ctl.goTo_port,
    Port.mapLanes, Port.closeTest, Port.lane, PortState.lowPower, Lane.after_st, Port.setPhase,
    Port.setLanes, h]

theorem Ctl.enterActive_is (c : Ctl) (env : Env) : IsActive env.cfg c.port (c.enterActive env).port := by
  simp [IsActive, AtWork, KeepsSettings, KeepsModule, LanesIn, Ctl.enterActive, Ctl.commandAll_port, Ctl.goTo_port,
    Port.mapLanes, Port.closeTest, Port.lane, PortState.lowPower, Lane.after_st, Port.setLanes]

/-- The set lanes in a state depend on the lane set and the lanes alone. -/
theorem Port.setIn_congr (c d : Port) (st : LaneState) (hl : d.lanes = c.lanes) (hs : d.laneSet = c.laneSet) :
    d.setIn st = c.setIn st := by unfold Port.setIn Port.lane; rw [hl, hs]

/-- QUALIFY has been entered: a bring-up test runs on the LOCKED set lanes (R104, R114). -/
theorem Ctl.enterQualify_is (c : Ctl) (env : Env) (g : Grade) (h : c.port.agreed = some g) :
    (c.enterQualify env).port.st = .qualify ∧ AtWork { (c.enterQualify env).port with dwellTimer := none } ∧
    (c.enterQualify env).port.qualReached = true ∧ (c.enterQualify env).port.phase = .training ∧
    (c.enterQualify env).port.phaseTimer = none ∧
    (∃ rt rd, (c.enterQualify env).port.test = some (timedTest .bringUp (c.port.setIn .locked) g rt rd false) ∧
      (c.enterQualify env).port.dwellTimer = (timedTest .bringUp (c.port.setIn .locked) g rt rd false).dwell) ∧
    (∀ i, (c.enterQualify env).port.lane i = { c.port.lane i with
      test := if hasLane (c.port.setIn .locked) i then some ⟨0, none⟩ else none }) ∧
    KeepsSettings c.port (c.enterQualify env).port ∧ KeepsModule c.port (c.enterQualify env).port ∧
    (c.enterQualify env).port.laneSet = c.port.laneSet ∧ (c.enterQualify env).port.attempt = c.port.attempt ∧
    (c.enterQualify env).kinds = c.kinds ||| (if c.port.st = .active then kindMilestone else 0) ∧
    (c.enterQualify env).out = c.out ∧ (c.enterQualify env).ended = c.ended := by
  have hloc : ∀ d : Port, d.lanes = c.port.lanes → d.laneSet = c.port.laneSet →
      d.setIn .locked = c.port.setIn .locked := fun d => Port.setIn_congr c.port d .locked
  unfold Ctl.enterQualify
  simp only [Ctl.mod_port, Ctl.mod_kinds, Ctl.mod_out, Ctl.mod_ended, Ctl.goTo_port, Ctl.goTo_kinds, Ctl.goTo_out,
    Ctl.goTo_ended, Port.closeTest, h, Port.startTest]
  refine ⟨by rfl, by simp [AtWork, Port.mapLanes, PortState.lowPower], by rfl, by rfl, by rfl, ?_, fun i => ?_,
    by simp [KeepsSettings, Port.mapLanes], by simp [KeepsModule, Port.mapLanes], by rfl, by rfl, ?_, by trivial,
    by trivial⟩
  · rw [hloc _ rfl rfl]
    exact ⟨_, _, rfl, rfl⟩
  · simp [Port.lane, Port.mapLanes, timedTest, hloc]
  · simp [PortState.milestone]

/-! ## The changes they mark (R30) -/

@[simp] theorem Ctl.enterOff_kinds (c : Ctl) (self : PortNo) : (c.enterOff self).kinds = c.kinds ||| kindMilestone := by
  simp [Ctl.enterOff, Ctl.goTo_kinds, PortState.milestone]

@[simp] theorem Ctl.enterEmpty_kinds (c : Ctl) (self : PortNo) :
    (c.enterEmpty self).kinds = c.kinds ||| kindMilestone := by
  simp [Ctl.enterEmpty, Ctl.goTo_kinds, PortState.milestone]

@[simp] theorem Ctl.enterHeld_kinds (c : Ctl) (self : PortNo) (why : HoldReason) :
    (c.enterHeld self why).kinds = c.kinds ||| kindMilestone := by
  simp [Ctl.enterHeld, Ctl.goTo_kinds, PortState.milestone]

@[simp] theorem Ctl.enterActive_kinds (c : Ctl) (env : Env) :
    (c.enterActive env).kinds = c.kinds ||| kindMilestone := by
  simp [Ctl.enterActive, Ctl.goTo_kinds, PortState.milestone]

/-- An entry that marks MILESTONE only on leaving ACTIVE. -/
def Ctl.leavingMark (c : Ctl) : BitVec 5 := if c.port.st = .active then kindMilestone else 0

@[simp] theorem Ctl.enterIdentify_kinds (c : Ctl) (self : PortNo) (b : Bool) :
    (c.enterIdentify self b).kinds = c.kinds ||| c.leavingMark := by
  simp [Ctl.enterIdentify, Ctl.goTo_kinds, PortState.milestone, Ctl.leavingMark]

@[simp] theorem Ctl.enterSignal_kinds (c : Ctl) (env : Env) : (c.enterSignal env).kinds = c.kinds ||| c.leavingMark := by
  simp [Ctl.enterSignal, Ctl.goTo_kinds, PortState.milestone, Ctl.leavingMark]

@[simp] theorem Ctl.enterTrain_kinds (c : Ctl) (env : Env) : (c.enterTrain env).kinds = c.kinds ||| c.leavingMark := by
  unfold Ctl.enterTrain
  dsimp only
  split <;> simp [Ctl.goTo_kinds, PortState.milestone, Ctl.leavingMark]

@[simp] theorem Ctl.enterOff_ended (c : Ctl) (self : PortNo) : (c.enterOff self).ended = c.ended := by
  simp [Ctl.enterOff]

@[simp] theorem Ctl.enterEmpty_ended (c : Ctl) (self : PortNo) : (c.enterEmpty self).ended = c.ended := by
  simp [Ctl.enterEmpty]

@[simp] theorem Ctl.enterHeld_ended (c : Ctl) (self : PortNo) (why : HoldReason) :
    (c.enterHeld self why).ended = c.ended := by simp [Ctl.enterHeld]

@[simp] theorem Ctl.enterActive_ended (c : Ctl) (env : Env) : (c.enterActive env).ended = c.ended := by
  simp [Ctl.enterActive]

@[simp] theorem Ctl.enterIdentify_ended (c : Ctl) (self : PortNo) (b : Bool) :
    (c.enterIdentify self b).ended = c.ended := by simp [Ctl.enterIdentify]

@[simp] theorem Ctl.enterSignal_ended (c : Ctl) (env : Env) : (c.enterSignal env).ended = c.ended := by
  simp [Ctl.enterSignal]

@[simp] theorem Ctl.enterTrain_ended (c : Ctl) (env : Env) : (c.enterTrain env).ended = c.ended := by
  unfold Ctl.enterTrain
  dsimp only
  split <;> simp

end Sys2Proof.Machine
end

