-- ==== Sys2Proof/Laws/Shared.lean ====
section
/-!
SUPPORT. What an event of one port does outside that port, said once: the frame of runPort, and the change it hands to the
report engine.
-/

namespace Sys2Proof.Machine

/-! ## The frame is a preorder -/

theorem SharedFrame.refl (s : State) : SharedFrame s s := by
  simp [SharedFrame, SameBase, SameBus, SameWindow, SameEngine, ListGrows]

theorem SameWindow.trans {s t u : State} (h : SameWindow s t) (g : SameWindow t u) : SameWindow s u := by
  obtain ⟨a, b, c⟩ := h
  obtain ⟨a', b', c'⟩ := g
  refine ⟨a'.trans a, b'.trans b, ?_⟩
  rcases c with c | c <;> rcases c' with c' | c' <;> simp [c, c', BitVec.or_assoc]

theorem SameEngine.trans {s t u : State} (h : SameEngine s t) (g : SameEngine t u) : SameEngine s u := by
  obtain ⟨h1, h2, h3, h4, h5, h6, h7, h8, h9, h10⟩ := h
  obtain ⟨g1, g2, g3, g4, g5, g6, g7, g8, g9, g10⟩ := g
  refine ⟨g1.trans h1, g2.trans h2, g3.trans h3, g4.trans h4, g5.trans h5, g6.trans h6, g7.trans h7, g8.trans h8,
    g9.trans h9, fun k => ?_⟩
  rcases g10 k with g | g
  · rcases h10 k with h | h
    · exact .inl (g.trans h)
    · exact .inr (g.trans h)
  · exact .inr g

theorem SharedFrame.trans {s t u : State} (h : SharedFrame s t) (g : SharedFrame t u) : SharedFrame s u := by
  obtain ⟨⟨b1, b2, b3, b4⟩, c, ⟨d1, d2⟩, w, e, l1, l2⟩ := h
  obtain ⟨⟨b1', b2', b3', b4'⟩, c', ⟨d1', d2'⟩, w', e', l1', l2'⟩ := g
  exact ⟨⟨b1'.trans b1, b2'.trans b2, b3'.trans b3, b4'.trans b4⟩, c'.trans c, ⟨d1'.trans d1, d2'.trans d2⟩,
    w.trans w', e.trans e', l1.trans l1', l2'.trans l2⟩

/-- A fold of steps that keep the frame keeps it. -/
theorem SharedFrame.foldl {β : Type} (f : State → β → State) (h : ∀ s b, SharedFrame s (f s b)) (l : List β) (s : State) :
    SharedFrame s (l.foldl f s) := by
  induction l generalizing s with
  | nil => exact .refl s
  | cons b l ih => exact (h s b).trans (ih _)

theorem SharedFrame.ite {P : Prop} [Decidable P] {s t u : State} (h : SharedFrame s t) (g : SharedFrame s u) :
    SharedFrame s (if P then t else u) := by
  split_ifs
  · exact h
  · exact g

/-! ## The operations of an event -/

theorem SharedFrame.setPort (s : State) (p : PortNo) (c : Port) : SharedFrame s (s.setPort p c) := by
  simp [SharedFrame, SameBase, SameBus, SameWindow, SameEngine, ListGrows]

theorem SharedFrame.emit (s : State) (o : List Out) : SharedFrame s (s.emit o) := by
  simp [SharedFrame, SameBase, SameBus, SameWindow, SameEngine, ListGrows]

theorem SharedFrame.push (s : State) (op : MemOp) : SharedFrame s (s.push op) := by
  simp [SharedFrame, SameBase, SameBus, SameWindow, SameEngine, ListGrows, State.push]

theorem SharedFrame.pushAll (s : State) (l : List MemOp) : SharedFrame s (s.pushAll l) :=
  SharedFrame.foldl _ SharedFrame.push l s

theorem SharedFrame.raiseWork (s : State) : SharedFrame s (s.raise evWork) := by
  simp [SharedFrame, SameBase, SameBus, SameWindow, SameEngine, ListGrows, State.raise]

theorem SharedFrame.triggerScan (s : State) : SharedFrame s s.triggerScan := by
  unfold State.triggerScan
  split_ifs
  · simp [SharedFrame, SameBase, SameBus, SameWindow, SameEngine, ListGrows, State.startScan, State.scanRead, State.push]
  · simp [SharedFrame, SameBase, SameBus, SameWindow, SameEngine, ListGrows]
  · exact .refl s

theorem SharedFrame.meetStall (s : State) (f : Stall → Bool) : SharedFrame s (s.meetStall f) := by
  unfold State.meetStall
  split_ifs
  · exact .triggerScan s
  · exact .refl s

theorem SharedFrame.triggerReport (s : State) : SharedFrame s s.triggerReport := by
  unfold State.triggerReport
  split_ifs
  · simp [SharedFrame, SameBase, SameBus, SameWindow, SameEngine, ListGrows]
  · simp [SharedFrame, SameBase, SameBus, SameWindow, SameEngine, ListGrows, State.reportRead, State.push]
  · exact .refl s

theorem SharedFrame.handOver (s : State) (p : PortNo) (k : BitVec 5) : SharedFrame s (s.handOver p k) := by
  unfold State.handOver
  refine .trans ?_ (.triggerReport _)
  simp [SharedFrame, SameBase, SameBus, SameWindow, SameEngine, ListGrows]

theorem SharedFrame.complete (s : State) (i : Nat) (b : Bool) (l : List MemOp) (st : Status) (r : Nat) :
    SharedFrame s (s.complete i b l st r) := by
  unfold State.complete
  dsimp only
  split_ifs
  · exact (SharedFrame.pushAll _ _).trans (.raiseWork _)
  · exact .pushAll _ _

theorem SharedFrame.completeSlot (s : State) (k : Fin 16) (j : Job) (l : List MemOp) (st : Status) (r : Nat) :
    SharedFrame s (s.completeSlot k j l st r) := by
  unfold State.completeSlot
  refine ((SharedFrame.complete s j.tag.index j.tag.iFlag l st r).trans ?_).trans (.meetStall _ _)
  simp only [SharedFrame, SameBase, SameBus, SameWindow, SameEngine, ListGrows, true_and, true_or, and_true,
    List.prefix_rfl]
  intro i
  by_cases h : (k : Nat) = i
  · right; simp [h]
  · left; simp [h]

theorem SharedFrame.finishAwaits (s : State) (p : PortNo) : SharedFrame s (s.finishAwaits p) := by
  unfold State.finishAwaits
  refine SharedFrame.foldl _ (fun s k => ?_) _ _
  split
  · split
    · exact .ite (.completeSlot _ _ _ _ _ _) (.refl s)
    · exact .refl s
  · exact .refl s

theorem SharedFrame.finishLaneTest (s : State) (p : PortNo) (e : TestEnd) : SharedFrame s (s.finishLaneTest p e) := by
  unfold State.finishLaneTest
  split
  · exact .refl s
  · exact .completeSlot _ _ _ _ _ _

theorem SharedFrame.settle (s : State) (p : PortNo) (c : Ctl) : SharedFrame s (s.settle p c) := by
  have hb : SharedFrame s (match c.ended with
      | none => (s.setPort p c.port).emit c.out
      | some e => ((s.setPort p c.port).emit c.out).finishLaneTest p e) := by
    have base : SharedFrame s ((s.setPort p c.port).emit c.out) := (SharedFrame.setPort _ _ _).trans (.emit _ _)
    cases c.ended with
    | none => exact base
    | some e => exact base.trans (.finishLaneTest _ _ _)
  unfold State.settle
  dsimp only
  exact (hb.trans (.ite (.refl _) (.handOver _ _ _))).trans (.ite (.finishAwaits _ _) (.refl _))

/-- What an event of one port leaves alone. -/
theorem State.runPort_frame (s : State) (p : PortNo) (f : Env → Ctl → Ctl) : PortEventFrame p s (s.runPort p f) := by
  refine ⟨fun q h => State.port_runPort_of_ne s p q f h, ?_⟩
  unfold State.runPort
  dsimp only
  split_ifs
  · refine (SharedFrame.settle _ _ _).trans (SharedFrame.foldl _ (fun t i => ?_) _ _)
    split_ifs
    · exact .settle _ _ _
    · exact .refl t
  · exact .settle _ _ _

/-! ## The interrupt message -/

/-- Lines that carry only the message of the change (R179). -/
theorem OnlyInterrupt.of_message (s t : State) (h : t.out = irqMessage s t) : OnlyInterrupt s t := by
  have e : ∀ u : State, u.irq = true ↔ InterruptCondition u := fun u => by simp [State.irq, InterruptCondition]
  unfold OnlyInterrupt
  rw [h, ← e s, ← e t]
  unfold irqMessage
  cases s.irq <;> cases t.irq <;> simp

/-! ## The report engine -/

theorem State.handOver_rep (s : State) (p : PortNo) (k : BitVec 5) :
    (s.handOver p k).rep = s.rep.withChange s.we.st.working p k := by
  unfold State.handOver State.triggerReport ReportEngine.withChange
  dsimp only
  split_ifs <;> simp_all [State.reportRead, ReportRec.join]

/-- The change that an event hands over reaches the report engine, whatever jobs end with it. -/
theorem State.settle_rep (s : State) (p : PortNo) (c : Ctl) :
    (s.settle p c).rep = if c.kinds = 0 then s.rep else s.rep.withChange s.we.st.working p c.kinds := by
  unfold State.settle
  dsimp only
  have hst : ∀ e, ((((s.setPort p c.port).emit c.out).finishLaneTest p e)).we.st = s.we.st :=
    fun e => (SharedFrame.finishLaneTest ((s.setPort p c.port).emit c.out) p e).2.2.2.2.1.1
  cases c.ended <;> simp only [] <;> split_ifs <;> simp [State.handOver_rep, hst]

/-- An event that ends no test and takes the port to no awaited state and not to ACTIVE is handed over and nothing else
follows. -/
theorem State.runPort_quiet (s : State) (p : PortNo) (f : Env → Ctl → Ctl) (he : (s.ctl p f).ended = none)
    (hs : (s.ctl p f).port.st = (s.port p).st ∨ (s.ctl p f).port.st.settled = false) :
    s.runPort p f =
      if (s.ctl p f).kinds = 0 then (s.setPort p (s.ctl p f).port).emit (s.ctl p f).out
      else ((s.setPort p (s.ctl p f).port).emit (s.ctl p f).out).handOver p (s.ctl p f).kinds := by
  have key : s.runPort p f = s.settle p (s.ctl p f) := by
    by_cases h : (s.port p).st = .active
    · exact State.runPort_of_active s p f h
    · refine State.runPort_of_not_active s p f fun hc => ?_
      rcases hs with hs | hs
      · exact h (hs.symm.trans hc)
      · rw [hc] at hs; exact absurd hs (by decide)
  rw [key]
  unfold State.settle
  dsimp only
  rw [he]
  have : ¬ ((s.ctl p f).port.st.settled = true ∧ (s.ctl p f).port.st ≠ (s.port p).st) := by
    rintro ⟨a, b⟩
    rcases hs with hs | hs
    · exact b hs
    · rw [hs] at a; exact absurd a (by decide)
  rw [if_neg this]

/-- The report engine after an event that does not put its port in ACTIVE. -/
theorem State.runPort_rep (s : State) (p : PortNo) (f : Env → Ctl → Ctl) (h : (s.ctl p f).port.st ≠ .active) :
    (s.runPort p f).rep = if (s.ctl p f).kinds = 0 then s.rep
      else s.rep.withChange s.we.st.working p (s.ctl p f).kinds := by
  rw [State.runPort_of_not_active s p f h, State.settle_rep]

/-- The port after an event that does not put it in ACTIVE. -/
theorem State.runPort_port (s : State) (p : PortNo) (f : Env → Ctl → Ctl) (h : (s.ctl p f).port.st ≠ .active) :
    (s.runPort p f).port p = (s.ctl p f).port := by
  rw [State.runPort_of_not_active s p f h, State.port_settle]

/-! ## From the effect of a command to its answer -/

/-- A command without effect answers the state as it is. -/
theorem act_unchanged (s : State) (f : State → State) (h : s.hold = .released)
    (hf : f { s with out := [] } = { s with out := [] }) : act s f = .next { s with out := [] } := by
  rw [act_released s f h, hf]
  simp [irqMessage, State.irq]

/-- A command that changes one port alone. -/
theorem act_setPort (s : State) (f : State → State) (p : PortNo) (c : Port) (o : List Out) (h : s.hold = .released)
    (hf : f { s with out := [] } = (State.setPort { s with out := [] } p c).emit o) :
    act s f = .next { s.setPort p c with out := o } := by
  rw [act_released s f h, hf]
  have : irqMessage s ((State.setPort { s with out := [] } p c).emit o) = [] := if_pos rfl
  rw [this]
  simp [State.setPort, State.emit]

/-- What holds of a command's effect, whatever stands on the lines, holds of its answer. -/
theorem act_answers (s : State) (f : State → State) (h : s.hold = .released) (ho : s.out = []) {P : State → Prop}
    (inv : ∀ t o, P t → P { t with out := o }) (hf : P (f s)) : ∃ t, act s f = .next t ∧ P t := by
  have e : ({ s with out := [] } : State) = s := by rw [← ho]
  exact ⟨_, act_released s f h, inv _ _ (by rw [e]; exact hf)⟩

/-- A command without effect, from quiet lines. -/
theorem act_nothing (s : State) (f : State → State) (h : s.hold = .released) (ho : s.out = []) (hf : f s = s) :
    ∃ t, act s f = .next t ∧ Unchanged s t := by
  have e : ({ s with out := [] } : State) = s := by rw [← ho]
  exact ⟨_, act_unchanged s f h (by rw [e, hf]), rfl⟩

/-- A command that changes one port alone, from quiet lines. -/
theorem act_only (s : State) (f : State → State) (p : PortNo) (c : Port) (o : List Out) (h : s.hold = .released)
    (ho : s.out = []) (hf : f s = (s.setPort p c).emit o) :
    ∃ t, act s f = .next t ∧ t.port p = c ∧ OnlyPort p s t ∧ t.out = o := by
  have e : ({ s with out := [] } : State) = s := by rw [← ho]
  refine ⟨_, act_setPort s f p c o h (by rw [e, hf]), ?_, ?_, rfl⟩
  · simp [State.port, State.setPort]
  · simp [OnlyPort, State.port, State.setPort]

/-- What stood on the lines before a command plays no part in it. -/
theorem quiet_lines {P : State → Prop} (s : State) (h : s.hold = .released)
    (hp : ∀ u : State, u.out = [] → u.hold = .released → P u) (inv : P { s with out := [] } → P s) : P s :=
  inv (hp _ rfl h)

/-- What one event of one port does, when it does not put the port in ACTIVE. -/
theorem State.runPort_event (s : State) (p : PortNo) (f : Env → Ctl → Ctl) (c : Ctl) (hc : s.ctl p f = c)
    (h : c.port.st ≠ .active) :
    (s.runPort p f).port p = c.port ∧ PortEventFrame p s (s.runPort p f) ∧
    (c.kinds = 0 → (s.runPort p f).rep = s.rep) ∧ (c.kinds ≠ 0 → Reported p c.kinds s (s.runPort p f)) := by
  subst hc
  refine ⟨State.runPort_port s p f h, State.runPort_frame s p f, fun hk => ?_, fun hk => ?_⟩
  · rw [State.runPort_rep s p f h, if_pos hk]
  · unfold Reported; rw [State.runPort_rep s p f h, if_neg hk]

/-- An event that hands nothing over and leaves the port's state changes the port and the lines alone. -/
theorem State.runPort_silent (s : State) (p : PortNo) (f : Env → Ctl → Ctl) (d : Port) (o : List Out)
    (hc : s.ctl p f = ⟨d, 0, o, none⟩) (hs : d.st = (s.port p).st ∨ d.st.settled = false) :
    s.runPort p f = (s.setPort p d).emit o := by
  rw [State.runPort_quiet s p f (by rw [hc]) (by rw [hc]; exact hs), hc]
  rfl

end Sys2Proof.Machine
end

