-- ==== Sys2Proof/Laws/Fills.lean ====
section
/-!
SUPPORT. The holds of ports that wait on a plan fill at the engine's entry into STOPPED or HALTED (R14, R65), said once:
with every job gone, nothing but those ports, their flags and their reports changes.
-/

namespace Sys2Proof.Machine

/-- No job slot is in use. -/
def State.SlotsFree (s : State) : Prop := ∀ k : Fin 16, s.we.slots[k] = none

theorem State.finishAwaits_free (s : State) (p : PortNo) (h : s.SlotsFree) : s.finishAwaits p = s := by
  unfold State.finishAwaits
  generalize allSlots = l
  induction l with
  | nil => rfl
  | cons k l ih =>
    rw [List.foldl_cons]
    have : s.we.slots[k] = none := h k
    simp only [this]
    exact ih

/-- With no job left, an event hands its changes over and completes nothing. -/
theorem State.settle_free (s : State) (p : PortNo) (c : Ctl) (h : s.SlotsFree) (he : c.ended = none) :
    s.settle p c = if c.kinds = 0 then (s.setPort p c.port).emit c.out
      else ((s.setPort p c.port).emit c.out).handOver p c.kinds := by
  unfold State.settle
  dsimp only
  rw [he]
  dsimp only
  have e : ∀ t : State, t.we = s.we → t.finishAwaits p = t := fun t ht =>
    State.finishAwaits_free t p fun k => by rw [ht]; exact h k
  have e1 := e ((s.setPort p c.port).emit c.out) rfl
  have e2 := e (((s.setPort p c.port).emit c.out).handOver p c.kinds) (State.handOver_we _ _ _)
  by_cases hk : c.kinds = 0
  · rw [if_pos hk, e1, ite_self]
  · rw [if_neg hk, e2, ite_self]

theorem State.handOver_idle (s : State) (p : PortNo) (k : BitVec 5) (h : s.we.st.working = false) :
    (s.handOver p k).mm = s.mm := by
  unfold State.handOver State.triggerReport
  dsimp only
  split_ifs <;> simp_all

/-- A port held while no job is left and the engine writes no reports: the memory master, the engine and the registers
stand. -/
theorem State.holdPort_idle (s : State) (p : PortNo) (why : HoldReason) (h : s.SlotsFree)
    (hw : s.we.st.working = false) :
    (s.holdPort p why).we = s.we ∧ (s.holdPort p why).mm = s.mm ∧ (s.holdPort p why).regs = s.regs ∧
    IsHeld why (s.port p) ((s.holdPort p why).port p) := by
  have hc : (s.ctl p fun env c => c.enterHeld env.self why).port.st ≠ .active := by
    have := (Ctl.enterHeld_is (Ctl.start (s.port p)) p why).1
    simp only [State.ctl, State.env]
    rw [this]; decide
  have hp := Ctl.enterHeld_is (Ctl.start (s.port p)) p why
  unfold State.holdPort
  rw [State.runPort_of_not_active _ _ _ hc, State.settle_free _ _ _ h (by simp [State.ctl, Ctl.start])]
  refine ⟨?_, ?_, ?_, ?_⟩
  · split_ifs <;> simp
  · split_ifs
    · rfl
    · exact State.handOver_idle _ _ _ hw
  · split_ifs <;> simp
  · split_ifs <;> simpa [State.ctl, State.env, State.port, Ctl.start] using hp

/-- The hold of one port that waits on a fill. -/
def State.failFill (s : State) (p : PortNo) : State :=
  if s.cache.fillPending[p] then (s.setFillPending p false).holdPort p .planUnavailable else s

theorem State.failFill_spec (s : State) (p : PortNo) (h : s.SlotsFree) (hw : s.we.st.working = false) :
    (s.failFill p).we = s.we ∧ (s.failFill p).mm = s.mm ∧ (s.failFill p).regs = s.regs ∧
    (s.failFill p).bus = s.bus ∧ (s.failFill p).arb = s.arb ∧ SameBase s (s.failFill p) ∧
    (s.failFill p).cache = { s.cache with fillPending := s.cache.fillPending.set p false } ∧
    (∀ q, q ≠ p → (s.failFill p).port q = s.port q) ∧
    (if s.cache.fillPending[p] then IsHeld .planUnavailable (s.port p) ((s.failFill p).port p)
      else (s.failFill p).port p = s.port p) := by
  unfold State.failFill
  split_ifs with hf
  · have hi := State.holdPort_idle (s.setFillPending p false) p .planUnavailable h hw
    have hfr := State.runPort_frame (s.setFillPending p false) p fun env c => c.enterHeld env.self .planUnavailable
    obtain ⟨hq, hb, hc, ⟨hbus, harb⟩, -, -, -⟩ := hfr
    exact ⟨hi.1, hi.2.1, hi.2.2.1, hbus, harb, hb, hc, hq, hi.2.2.2⟩
  · refine ⟨rfl, rfl, rfl, rfl, rfl, ⟨rfl, rfl, rfl, rfl⟩, ?_, fun _ _ => rfl, rfl⟩
    have : s.cache.fillPending.set p false = s.cache.fillPending := by
      apply Vector.ext
      intro i hi
      by_cases e : (p : Nat) = i
      · subst e; simp at hf; simp [hf]
      · simp [e]
    rw [this]

/-- What the holds over a list of distinct ports make of the state. -/
theorem State.failFills_list (l : List PortNo) (hl : l.Nodup) (s : State) (h : s.SlotsFree)
    (hw : s.we.st.working = false) :
    let t := l.foldl State.failFill s
    t.we = s.we ∧ t.mm = s.mm ∧ t.regs = s.regs ∧ t.bus = s.bus ∧ t.arb = s.arb ∧ SameBase s t ∧
    t.cache.entries = s.cache.entries ∧ t.cache.gen = s.cache.gen ∧ t.cache.epoch = s.cache.epoch ∧
    ∀ p : PortNo, t.cache.fillPending[p] = (s.cache.fillPending[p] && decide (p ∉ l)) ∧
      if s.cache.fillPending[p] ∧ p ∈ l then IsHeld .planUnavailable (s.port p) (t.port p) else t.port p = s.port p := by
  induction l generalizing s with
  | nil => simp [SameBase]
  | cons q l ih =>
    have hq := State.failFill_spec s q h hw
    obtain ⟨h1, h2, h3, h4, h5, h6, h7, h8, h9⟩ := hq
    have ih' := ih (List.nodup_cons.mp hl).2 (s.failFill q) (by unfold State.SlotsFree at *; rw [h1]; exact h)
      (by rw [h1]; exact hw)
    obtain ⟨i1, i2, i3, i4, i5, i6, i7, i8, i9, i10⟩ := ih'
    refine ⟨i1.trans h1, i2.trans h2, i3.trans h3, i4.trans h4, i5.trans h5, ?_, ?_, ?_, ?_, fun p => ?_⟩
    · obtain ⟨a, b, c, d⟩ := h6
      obtain ⟨a', b', c', d'⟩ := i6
      exact ⟨a'.trans a, b'.trans b, c'.trans c, d'.trans d⟩
    · exact i7.trans (by rw [h7])
    · exact i8.trans (by rw [h7])
    · exact i9.trans (by rw [h7])
    · obtain ⟨j1, j2⟩ := i10 p
      simp only [List.foldl_cons]
      have hnq : q ∉ l := (List.nodup_cons.mp hl).1
      by_cases hpq : p = q
      · subst hpq
        refine ⟨by rw [j1, h7]; simp, ?_⟩
        simp only [hnq, and_false, if_false] at j2
        rw [j2]
        simpa using h9
      · have hne : (q : Nat) ≠ p := fun e => hpq (Fin.ext e.symm)
        have hfp : (s.failFill q).cache.fillPending[p] = s.cache.fillPending[p] := by rw [h7]; simp [hne]
        rw [hfp] at j1 j2
        rw [h8 p hpq] at j2
        exact ⟨by simpa [hpq] using j1, by simpa [hpq] using j2⟩

/-- The holds of every port that waits on a fill. -/
theorem State.failFills_spec (s : State) (h : s.SlotsFree) (hw : s.we.st.working = false) :
    s.failFills.we = s.we ∧ s.failFills.mm = s.mm ∧ s.failFills.regs = s.regs ∧ s.failFills.bus = s.bus ∧
    s.failFills.arb = s.arb ∧ SameBase s s.failFills ∧ s.failFills.cache.entries = s.cache.entries ∧
    s.failFills.cache.gen = s.cache.gen ∧ s.failFills.cache.epoch = s.cache.epoch ∧
    FillsFailed s s.failFills fun _ c => c := by
  have key := State.failFills_list allPorts (List.nodup_finRange 32) s h hw
  have e : s.failFills = allPorts.foldl State.failFill s := rfl
  rw [e]
  obtain ⟨k1, k2, k3, k4, k5, k6, k7, k8, k9, k10⟩ := key
  refine ⟨k1, k2, k3, k4, k5, k6, k7, k8, k9, fun p => ?_, fun p => ?_⟩
  · simpa [allPorts] using (k10 p).1
  · simpa [allPorts] using (k10 p).2

/-- Entry into STOPPED with no job left. -/
theorem State.enterStopped_spec (s : State) (h : s.SlotsFree) :
    s.enterStopped.we = { s.we with st := .stopped, run := false, scanTimer := none } ∧ s.enterStopped.mm = s.mm ∧
    s.enterStopped.regs = s.regs ∧ s.enterStopped.bus = s.bus ∧ s.enterStopped.arb = s.arb ∧
    SameBase s s.enterStopped ∧ s.enterStopped.cache.entries = s.cache.entries ∧
    s.enterStopped.cache.gen = s.cache.gen ∧ s.enterStopped.cache.epoch = s.cache.epoch ∧
    FillsFailed s s.enterStopped fun _ c => c := by
  unfold State.enterStopped
  have key := State.failFills_spec { s with we := { s.we with st := .stopped, run := false, scanTimer := none } } h rfl
  generalize State.failFills _ = t at key ⊢
  exact key

/-! ## Drains -/

/-- The drain conditions of the model are the five of R153. -/
theorem State.drained_iff (s : State) : s.drained = true ↔ DrainConditions s := by
  unfold State.drained DrainConditions
  simp only [Bool.and_eq_true, List.all_eq_true, decide_eq_true_eq, Bool.not_eq_true', Bool.and_eq_false_iff,
    Bool.not_eq_false', and_assoc]
  refine and_congr ?_ (and_congr Iff.rfl (and_congr ?_ (and_congr ?_ Iff.rfl)))
  · simp [allSlots]
  · cases s.bus.current <;> simp
  · constructor
    · intro h e he hs
      rcases h e he with h | h
      · simp [hs] at h
      · exact h
    · intro h e he
      cases hs : e.op.isStartRead
      · exact .inl rfl
      · exact .inr (h e he hs)

end Sys2Proof.Machine
end

