-- ==== Sys2Proof/Laws/Hearing.lean ====
section
/-!
SUPPORT. What a port hears and does with it, said once in the terms of the statements: HELD beacons, the test of R18, the
seen identity, the end of a LANE_TEST by its port.
-/

namespace Sys2Proof.Machine

theorem NegRecord.holdsUs_iff (r : NegRecord) : r.holdsUs = true ↔ HoldsFarEnd r := by
  simp only [NegRecord.holdsUs, HoldsFarEnd, Bool.and_eq_true, decide_eq_true_eq, Bool.not_eq_true', List.any_cons,
    List.any_nil, Bool.or_false, Bool.or_eq_false_iff, decide_eq_false_iff_not]
  refine and_congr_right fun _ => ⟨fun h w hw => ?_, fun h => ?_⟩
  · cases w <;> first | rfl | exact absurd hw (by tauto)
  · have g : ∀ w : HoldReason, w.cabling = true → ¬ w.code = r.reason := fun w hc hw => by simp [h w hw] at hc
    exact ⟨g _ rfl, g _ rfl, g _ rfl, g _ rfl, g _ rfl, g _ rfl⟩

theorem mem_allLanes (i : LaneNo) : i ∈ allLanes := by
  revert i; decide

theorem lowestLane_eq_some (m : LaneSet) (i : LaneNo) :
    lowestLane m = some i ↔ hasLane m i = true ∧ ∀ j, j < i → hasLane m j = false := by
  revert m i; decide

theorem lowestLane_eq_none (m : LaneSet) : lowestLane m = none ↔ ∀ i, hasLane m i = false := by
  revert m; decide

theorem subset_iff (a b : LaneSet) : subset a b = true ↔ ∀ i, hasLane a i = true → hasLane b i = true := by
  revert a b; decide

@[simp] theorem Port.hasLane_identifiedSet (c : Port) (i : LaneNo) : hasLane c.identifiedSet i = (c.lane i).far.isSome :=
  hasLane_lanesWhere _ i

@[simp] theorem Port.hasLane_presentSet (c : Port) (i : LaneNo) : hasLane c.presentSet i = c.isPresent i :=
  hasLane_lanesWhere _ i

/-- R18: the test made on a beacon arrival in SIGNAL. -/
theorem Port.signalTest_iff (env : Env) (c : Port) : c.signalTest env = true ↔ FarEndSeesUs env c := by
  unfold Port.signalTest FarEndSeesUs
  rw [Bool.and_eq_true, subset_iff]
  refine and_congr (by simp [Option.isSome_iff_ne_none]) ?_
  cases hl : lowestLane c.identifiedSet with
  | none =>
    simp only [lowestLane_eq_none, Port.hasLane_identifiedSet, Option.isSome_eq_false_iff, Option.isNone_iff_eq_none] at hl
    simp [hl]
  | some i =>
    obtain ⟨hi, hlt⟩ := (lowestLane_eq_some _ _).1 hl
    simp only [Port.hasLane_identifiedSet, Option.isSome_iff_ne_none] at hi
    simp only [Port.hasLane_identifiedSet, Option.isSome_eq_false_iff, Option.isNone_iff_eq_none] at hlt
    have key : ∀ b : BeaconPart, (b.carriesSeen && b.seesUs env) = true ↔
        b.seenPort ≠ 0xFF ∧ b.seenChassis = env.chassis ∧ b.seenPort.toNat = env.self.val := by
      intro b
      have := env.self.isLt
      simp [BeaconPart.carriesSeen, BeaconPart.seesUs, ← BitVec.toNat_inj (x := b.seenPort) (y := BitVec.ofNat 8 env.self.val),
        Nat.mod_eq_of_lt (show env.self.val < 256 by omega)]
    constructor
    · intro h
      cases hb : (c.lane i).beaconPart with
      | none => simp [hb] at h
      | some b =>
        obtain ⟨r, hr, hrb⟩ := Option.bind_eq_some_iff.1 hb
        exact ⟨i, r, b, hi, hlt, hr, hrb, (key b).1 (by simpa [hb] using h)⟩
    · rintro ⟨j, r, b, hj, hjlt, hr, hrb, hs⟩
      have : j = i := by
        rcases lt_trichotomy j i with h | h | h
        · exact absurd (hlt j h) hj
        · exact h
        · exact absurd (hjlt i h) hi
      subst this
      have hb : (c.lane j).beaconPart = some b := Option.bind_eq_some_iff.2 ⟨r, hr, hrb⟩
      simpa [hb] using (key b).2 hs

/-! ## The first lane that gives something -/

theorem findSome_eq_some_iff_first {α : Type} (g : LaneNo → Option α) (b : α) (l : List LaneNo)
    (h : l.Pairwise (· < ·)) :
    l.findSome? g = some b ↔ ∃ i ∈ l, g i = some b ∧ ∀ j ∈ l, j < i → g j = none := by
  induction l with
  | nil => simp
  | cons x l ih =>
    obtain ⟨hx, hl⟩ := List.pairwise_cons.1 h
    rw [List.findSome?_cons]
    cases hg : g x with
    | some y =>
      constructor
      · rintro ⟨⟩
        refine ⟨x, by simp, hg, fun j hj hjx => ?_⟩
        rcases List.mem_cons.1 hj with rfl | hj
        · exact absurd hjx (lt_irrefl _)
        · exact absurd hjx (not_lt.2 (le_of_lt (hx j hj)))
      · rintro ⟨i, hi, hgi, hlt⟩
        rcases List.mem_cons.1 hi with rfl | hi
        · exact hg.symm.trans hgi
        · simp [hlt x (by simp) (hx i hi)] at hg
    | none =>
      rw [ih hl]
      constructor
      · rintro ⟨i, hi, hgi, hlt⟩
        refine ⟨i, by simp [hi], hgi, fun j hj hji => ?_⟩
        rcases List.mem_cons.1 hj with rfl | hj
        · exact hg
        · exact hlt j hj hji
      · rintro ⟨i, hi, hgi, hlt⟩
        rcases List.mem_cons.1 hi with rfl | hi
        · simp [hgi] at hg
        · exact ⟨i, hi, hgi, fun j hj => hlt j (by simp [hj])⟩

/-- The first lane with f that gives something, in increasing order. -/
theorem allLanes_findSome_iff {α : Type} (f : LaneNo → Bool) (g : LaneNo → Option α) (b : α) :
    (allLanes.filter f).findSome? g = some b ↔
      ∃ i, f i = true ∧ g i = some b ∧ ∀ j, j < i → f j = true → g j = none := by
  rw [findSome_eq_some_iff_first g b _ (List.Pairwise.filter _ (by decide))]
  simp only [List.mem_filter, mem_allLanes, true_and]
  exact exists_congr fun i => and_congr_right fun _ => and_congr_right fun _ => forall_congr' fun j =>
    ⟨fun h hj hf => h hf hj, fun h hf hj => h hj hf⟩

theorem Port.carriesSeen_iff (c : Port) (vs : LaneSet) (i : LaneNo) (b : BeaconPart) :
    (hasLane vs i = true ∧ (match (c.lane i).beaconPart, (c.lane i).far with
      | some b, some f => if b.carriesSeen ∧ b.sender.chassis = f.chassis ∧ b.sender.port = f.port then some b else none
      | _, _ => none) = some b) ↔ CarriesSeen c vs i b := by
  unfold CarriesSeen
  refine and_congr_right fun _ => ?_
  constructor
  · intro h
    split at h
    · rename_i x f hx hf
      split at h
      · rename_i hs
        obtain rfl : x = b := by simpa using h
        obtain ⟨r, hr, hrb⟩ := Option.bind_eq_some_iff.1 hx
        exact ⟨by simpa [BeaconPart.carriesSeen] using hs.1, r, f, hr, hrb, hf, hs.2.1, hs.2.2⟩
      · cases h
    · cases h
  · rintro ⟨hs, r, f, hr, hrb, hf, h1, h2⟩
    have hb : (c.lane i).beaconPart = some b := Option.bind_eq_some_iff.2 ⟨r, hr, hrb⟩
    simpa [hb, hf, h1, h2, BeaconPart.carriesSeen] using hs

/-- R74: the seen identity that verification examines. -/
theorem Port.seenIdentity_iff (c : Port) (vs : LaneSet) (b : BeaconPart) :
    c.seenIdentity vs = some b ↔ SeenIdentity c vs b := by
  unfold Port.seenIdentity SeenIdentity
  rw [allLanes_findSome_iff]
  refine exists_congr fun i => ?_
  rw [← and_assoc]
  refine and_congr (Port.carriesSeen_iff c vs i b) (forall_congr' fun j => ?_)
  constructor
  · intro h b' hji hc
    obtain ⟨hv, hb⟩ := (Port.carriesSeen_iff c vs j b').2 hc
    exact absurd ((h hji hv).symm.trans hb) (by simp)
  · intro h hji hv
    refine Option.eq_none_iff_forall_ne_some.2 fun b' hb => ?_
    exact h b' hji ((Port.carriesSeen_iff c vs j b').1 ⟨hv, hb⟩)

/-! ## The end of a LANE_TEST by its port (R125, R127, R128) -/

/-- What the port's context is after its running LANE_TEST has been ended, and what goes to the work engine. -/
theorem Ctl.endLaneTest_closes (c : Ctl) (T : PortTest) (st : Status) (f : PortTest → LaneNo → TestRecord → LaneVerdict)
    (v : LaneNo → Nat → LaneVerdict) (hT : c.port.test = some T) (hk : T.kind = .laneTest) (he : T.ended = false)
    (hv : ∀ i e, f T i ⟨e, none⟩ = v i e) :
    TestClosed c.port (c.endLaneTest st f).port T v ∧
    (c.endLaneTest st f).ended = some ⟨st, (c.endLaneTest st f).port.results, laneCount T.lanes⟩ := by
  have hr : c.port.runningLaneTest = some T := by simp [Port.runningLaneTest, Port.runningTest, hT, he, hk]
  have hrun : c.port.runningTest = some T := by simp [Port.runningTest, hT, he]
  have hrec : ∀ i, c.port.runningRecord i =
      if hasLane T.lanes i then (c.port.lane i).test.filter fun r => r.given = none else none := by
    intro i; simp [Port.runningRecord, hrun]
  have hlane : ∀ i, (c.endLaneTest st f).port.lane i = (match c.port.runningRecord i with
      | none => c.port.lane i
      | some r => { c.port.lane i with test := some (r.give (f T i r) T.n false) }) := by
    intro i
    cases h : c.port.runningRecord i <;>
      simp [Ctl.endLaneTest, hr, Port.giveRunning, Port.closeTest, Port.mapLanes, Port.lane, h]
  refine ⟨⟨by simp [Ctl.endLaneTest, hr, Port.closeTest, Port.giveRunning, Port.mapLanes, hT],
    by simp [Ctl.endLaneTest, hr, Port.closeTest], by simp [Ctl.endLaneTest, hr, Port.closeTest], ?_, ?_⟩, ?_⟩
  · intro i e hi ht
    rw [hlane, hrec, if_pos hi, ht]
    rw [← hv]
    rfl
  · intro i hn
    rw [hlane, hrec]
    split_ifs with hi
    · cases ht : (c.port.lane i).test with
      | none => rfl
      | some r =>
        obtain ⟨e, g⟩ := r
        cases g with
        | none => exact absurd ⟨hi, e, ht⟩ hn
        | some w => rfl
    · rfl
  · simp [Ctl.endLaneTest, hr, Port.testEnd, Port.resultCount, Port.closeTest, Port.giveRunning, Port.mapLanes, hT]

end Sys2Proof.Machine
end

