-- ==== Sys2Proof/Laws/Takes.lean ====
section
/-!
SUPPORT. What a take, a grant, a try and the restoring of lost reports can do, said once: the jobs whose buffers are being
read, the grant decision at an idle bus, the bytes of a read, and restoreAll.
-/

namespace Sys2Proof.Machine

/-! ## Jobs whose buffers are being read (R142, R161) -/

theorem State.mem_pendingWrites (s : State) (j : PassJob) :
    j ∈ s.pendingWrites ↔ ∃ a, (⟨.bufferRead a j, false⟩ : MemEntry) ∈ s.mm.ops := by
  unfold State.pendingWrites
  rw [List.mem_filterMap]
  constructor
  · rintro ⟨⟨op, ab⟩, hm, h⟩
    cases op <;> cases ab <;> simp [MemEntry.pendingWrite] at h
    subst h
    exact ⟨_, hm⟩
  · rintro ⟨a, h⟩
    exact ⟨_, h, rfl⟩

/-- An operation that is no buffer read adds no job. -/
theorem State.pendingWrites_push (s : State) (op : MemOp) :
    (s.push op).pendingWrites = s.pendingWrites ++ (MemEntry.pendingWrite ⟨op, false⟩).toList := by
  unfold State.pendingWrites
  rw [State.push_ops, List.filterMap_append]
  cases op <;> rfl

/-- Giving up the work engine's reads gives up every such job (R145, R160). -/
theorem State.pendingWrites_abandonWorkReads (s : State) : (s.abandonReads MemOp.isWorkRead).pendingWrites = [] := by
  unfold State.pendingWrites State.abandonReads
  rw [List.filterMap_eq_nil_iff]
  intro e he
  obtain ⟨⟨op, ab⟩, _, rfl⟩ := List.mem_map.1 he
  cases op <;> simp [MemEntry.pendingWrite, MemOp.isWorkRead]

/-! ## Grants (R134, R143) -/

@[simp] theorem State.grants_busy (s : State) (h : s.bus.st ≠ .idle) : s.grants = s := by
  unfold State.grants State.grantLoop
  rw [if_neg h]

/-- A loop that has found the bus at work stops. -/
theorem State.grantLoop_busy (n : Nat) (s : State) (h : s.bus.st ≠ .idle) : State.grantLoop n s = s := by
  cases n with
  | zero => rfl
  | succ n => unfold State.grantLoop; rw [if_neg h]

theorem State.grants_of_none (s : State) (h : s.arb.choose s.we.cfg.turnRatio = none) : s.grants = s := by
  unfold State.grants State.grantLoop
  rw [h]
  split_ifs <;> rfl

/-- A grant that goes to the bus is the last of the loop. -/
theorem State.grants_of_grant (s : State) (g : Grant) (hi : s.bus.st = .idle)
    (hc : s.arb.choose s.we.cfg.turnRatio = some g) (hb : (s.grant g).bus.st ≠ .idle) : s.grants = s.grant g := by
  unfold State.grants State.grantLoop
  rw [if_pos hi, hc]
  exact State.grantLoop_busy _ _ hb

/-! ## The bytes of a read (R135) -/

theorem readActs_succ (n : Nat) :
    readActs (n + 1) = (List.replicate n [BusAct.receive, .ack]).flatten ++ [.receive, .nack] := by
  induction n with
  | zero => rfl
  | succ n ih => rw [readActs, ih, List.replicate_succ, List.flatten_cons, List.append_assoc]

/-! ## Lost reports (R178) -/

/-- restoreAll changes the records and the queue alone. -/
theorem restoreAll_frame (l : List InFlight) (h : List PortNo) (r : ReportEngine) :
    restoreAll l h r = { r with recs := (restoreAll l h r).recs, queue := (restoreAll l h r).queue } := by
  induction l generalizing h r with
  | nil => rfl
  | cons f l ih => unfold restoreAll; dsimp only; rw [ih]

/-- The record of a port with no lost report stands. -/
theorem restoreAll_recs_of_not_mem (l : List InFlight) (h : List PortNo) (r : ReportEngine) (p : PortNo)
    (hp : ∀ f ∈ l, f.port ≠ p) : (restoreAll l h r).recs[p] = r.recs[p] := by
  induction l generalizing h r with
  | nil => rfl
  | cons f l ih =>
    unfold restoreAll
    dsimp only
    rw [ih _ _ fun g hg => hp g (List.mem_cons_of_mem f hg)]
    have : (f.port : Nat) ≠ p := fun e => hp f List.mem_cons_self (Fin.ext e)
    simp [this]

end Sys2Proof.Machine
end

