-- ==== Sys2Proof/Tests/Slice0.lean ====
section
/-!
SUPPORT. The model's own tests: the checks of WellFormed, values worked out by hand or taken from the spec's tables and
examples, and for every statement with premises a state and operands that meet them.
-/

namespace Sys2Proof.Tests

open Sys2Proof.Machine

set_option Elab.async false

/-! ## Small states -/

/-- The part after reset with one port replaced. -/
def withPort (p : PortNo) (c : Port) : State := State.reset.setPort p c

/-- A port with a module of four lanes, in a state. -/
def inState (st : PortState) : Port :=
  { Port.initial true with
    st := st
    ident := some ⟨.optical, 4, 4, 0, Vector.replicate 4 0, Vector.replicate 12 0⟩ }

/-- A port whose lanes are all in one lane state. -/
def lanesAll (c : Port) (l : Lane) : Port := { c with lanes := Vector.replicate 4 l }

def lockedLane : Lane := { Lane.initial with st := .locked }

/-- The work engine RUNNING, the rest after reset. -/
def running : State := { State.reset with we := { State.reset.we with st := .running, run := true, chassis := 7 } }

/-- A state with this operation in progress at the memory master. -/
def doing (s : State) (op : MemOp) (abandoned : Bool) : State := { s with mm := ⟨[⟨op, abandoned⟩], 0⟩ }

/-- A request for a port, all else 0. -/
def onPort (p : Byte) : Request := ⟨63, true, p, 0, 0, 0, 0⟩

/-- The state a command leads to. -/
def after (c : Instr) (s : State) : Option State :=
  match exec c s with
  | .next t => some t
  | .fault _ | .refused _ => none

/-! ## WellFormed refuses -/

theorem test_wf_lineErrorIncrement : (Instr.lineErrorIncrement 0 0 0).wellFormed = false ∧
    (Instr.lineErrorIncrement 0 0 4294967296).wellFormed = false ∧
    (Instr.lineErrorIncrement 0 0 4294967295).wellFormed = true := by decide +kernel

theorem test_wf_bus : (Instr.watchdogExpiry 65).wellFormed = false ∧ (Instr.byteNack 64).wellFormed = false ∧
    (Instr.tryComplete (List.replicate 65 0)).wellFormed = false := by decide +kernel

theorem test_wf_bufferReadDone : (Instr.bufferReadDone []).wellFormed = false ∧
    (Instr.bufferReadDone (List.replicate 65 0)).wellFormed = false := by decide +kernel

theorem test_wf_requests :
    ([Kind.portEnable, .portDisable, .portRestart, .portQuery, .laneTest, .laneTestStop, .portAwait, .moduleRead,
      .moduleWrite, .planFlush, .capsLimit, .setConfig].all fun k =>
        !(k.row { onPort 0 with index := 64 }).wellFormed && (k.row (onPort 0)).wellFormed) = true := by decide +kernel

/-! ## Values of the spec -/

/-- The check value of the CRC with this generator and start: 0x29B1 over "123456789" (R44). -/
theorem test_crc : crc [0x31, 0x32, 0x33, 0x34, 0x35, 0x36, 0x37, 0x38, 0x39] = 0x29B1 := by decide +kernel

/-- R94's examples. -/
theorem test_laneSetRule : laneSetRule 0b111 0b1011 = some 0b0011 ∧ laneSetRule 0b111 0b1010 = some 0b0010 ∧
    laneSetRule 0b110 0b1010 = none := by decide +kernel

/-- R117: at grade 1 the lowered target is 11, at grade 3 it is 12. -/
theorem test_testLength_lowered :
    (planTest .g1 13 1).target = 11 ∧ (planTest .g3 15 1).target = 12 ∧ (planTest .g1 13 1).lowered = true ∧
    (planTest .g1 13 1).dwell = 65535 ∧ (planTest .g1 13 1).extended = true := by decide +kernel

/-- R118: the largest E_allow is 2,184,499, at grade 4 with dwell 65535 and target 6. -/
theorem test_eAllow_largest : (planTest .g4 6 65535).eAllow = 2184499 := by decide +kernel

/-- R122: no exponent when E has saturated, nor when N is below 3 (E + 1). -/
theorem test_demonstrated : demonstrated 4294967295 281474976710655 = 0 ∧ demonstrated 0 2 = 0 ∧ demonstrated 0 3 = 0 ∧
    demonstrated 0 30 = 1 ∧ demonstrated 0 281474976710655 = 13 := by decide +kernel

/-- R126: the elapsed at which a continuous test saturates, by grade. -/
theorem test_saturation : saturation .g1 = 22517998 ∧ saturation .g4 = 2814749 := by decide +kernel

/-- R143: with the pointer at 5 and ports 3 and 7 waiting, port 7 is granted, and from 7 the pointer wraps to 3. -/
theorem test_rotation :
    (⟨(Vector.replicate 32 false).set 3 true |>.set 7 true, [], 5, 0⟩ : Arbiter).choose 0 = some (.port 7) ∧
    (⟨(Vector.replicate 32 false).set 3 true, [], 7, 0⟩ : Arbiter).choose 0 = some (.port 3) := by decide +kernel

/-- R15: the reach caps of a passive copper module. -/
theorem test_reachCap : reachCap 20 = 4 ∧ reachCap 21 = 3 ∧ reachCap 30 = 3 ∧ reachCap 31 = 2 ∧ reachCap 50 = 2 ∧
    reachCap 51 = 1 := by decide +kernel

/-- R91, R40: the codes of HELLO and HELD beacons and of the five training words. -/
theorem test_phases : Phase.ofBeacon 1 = some .hello ∧ Phase.ofBeacon 6 = some .heldBeacon ∧ Phase.ofBeacon 7 = none ∧
    Phase.ofWord 0x11 = some .training ∧ Phase.ofWord 0x15 = some .heldWord ∧ Phase.ofWord 0x16 = none := by decide +kernel

/-- R180: IDENT reads as a constant, in reset too. -/
theorem test_ident : State.reset.readRegister 0 = 0x00010B32 ∧
    ({ State.reset with hold := .pin }).readRegister 0 = 0x00010B32 := by decide +kernel

/-- The table gives no row any bits: no word spells a command. -/
theorem test_decode : decodeTableWord 0 0 = none ∧ decodeTableWord 32 0xFFFFFFFF = none := by decide +kernel

/-- The worked example of section 7.5: the identity block with check byte 0xFB, and its changes. -/
def exampleBlock (format kind lanes grade length check : Byte) : List Byte :=
  [format, kind, lanes, grade, 0, length, 0x10, 0x20, 0x30, 0x40] ++ List.replicate 12 0x31 ++ List.replicate 9 0 ++ [check]

theorem test_identityCheck :
    identityCheck (exampleBlock 1 2 4 3 0x0F 0xFB) =
      .accepted ⟨.activeCopper, 4, 3, 15, #v[0x10, 0x20, 0x30, 0x40], Vector.replicate 12 0x31⟩ ∧
    identityCheck (exampleBlock 1 2 4 3 0x23 0xFB) = .corrupt ∧
    identityCheck (exampleBlock 1 5 4 3 0x0F 0xF8) = .unsupported ∧
    identityCheck (exampleBlock 1 2 8 3 0x0F 0xF7) =
      .accepted ⟨.activeCopper, 4, 3, 15, #v[0x10, 0x20, 0x30, 0x40], Vector.replicate 12 0x31⟩ := by decide +kernel

/-- The worked example of section 1.7: passive copper of 35 dm under a plan of grades 2 to 4 and minimum width 2; then a
width ceiling of 3. -/
def copperPort : Port :=
  { Port.initial true with
    ident := some ⟨.passiveCopper, 4, 4, 35, Vector.replicate 4 0, Vector.replicate 12 0⟩
    plan := .planned ⟨false, false, 62, 0xFFFF, 10, false, 0b11100100, 0b1110, 2, 0, 0⟩ }

theorem test_ownCaps : copperPort.computeCaps.capGrades = 0b0010 ∧ copperPort.computeCaps.capWidths = 0b110 ∧
    { copperPort with widthCeil := 3 }.computeCaps.capWidths = 0b010 := by decide +kernel

/-- The cases A to D of section 6.7. -/
theorem test_testCases :
    planTest .g3 10 30000 = ⟨10, 30000, 49, false, false⟩ ∧ demonstrated 50 600000000000 = 9 ∧
    demonstrated 20 1500000000000 = 10 ∧ planTest .g2 12 10000 = ⟨11, 65535, 4, true, true⟩ ∧
    planTest .g3 12 20000 = ⟨12, 60000, 0, true, false⟩ ∧ (planTest .g1 9 5000).eAllow = 19 ∧
    demonstrated 3 25000000000 = 9 ∧ demonstrated 10 25000000000 = 8 ∧ demonstrated 0 9000000000000 = 12 ∧
    demonstrated 7 9000000000000 = 11 := by decide +kernel

/-- A lane that hears this far lane, with the seen identity of section 4.8. -/
def hears (chassis : BitVec 16) (port : BitVec 5) (lane : BitVec 2) (epoch : BitVec 16) (seenPort : Byte) : Lane :=
  let id : Ident := ⟨chassis, port, lane, epoch⟩
  { Lane.initial with
    st := .beacon, cand := some id, rep := 2, far := some id
    neg := some ⟨.hello, 0, 0, 0, some ⟨id, 0, 0, 0xF, 7, 61, seenPort⟩⟩ }

/-- Port P4 of chassis 61 at epoch 7, planned to port 10 of chassis 62. -/
def p4 (l : Vector Lane 4) : Port :=
  { inState .signal with
    plan := .planned ⟨false, false, 62, 0xFFFF, 10, false, 0b11100100, 0, 1, 0, 0⟩, lanes := l }

def p4Verdict (l : Vector Lane 4) (vs : LaneSet) : Option Verdict :=
  ((p4 l).farIdentity vs).map ((p4 l).verdictOf ⟨4, 61, 7, ConfigCopy.initial⟩ vs)

/-- The verdicts of section 4.8, row by row. -/
theorem test_verdicts :
    p4Verdict #v[hears 62 10 0 7 4, hears 62 10 1 7 4, hears 62 10 2 7 4, hears 62 10 3 7 4] 15 = some .matched ∧
    p4Verdict #v[hears 62 10 1 7 4, hears 62 10 0 7 4, hears 62 10 2 7 4, hears 62 10 3 7 4] 15 = some .lanesCrossed ∧
    p4Verdict #v[hears 62 10 0 7 4, hears 62 10 1 7 4, hears 62 11 2 7 4, hears 62 11 3 7 4] 15 = some .split ∧
    p4Verdict #v[hears 62 10 0 8 4, hears 62 10 1 8 4, hears 62 10 2 8 4, hears 62 10 3 8 4] 15 = some .epochWait ∧
    p4Verdict #v[hears 63 10 0 7 4, hears 63 10 1 7 4, hears 63 10 2 7 4, hears 63 10 3 7 4] 15 = some .miswired ∧
    p4Verdict #v[hears 62 10 0 7 4, hears 62 10 0 7 4, hears 62 10 2 7 4, hears 62 10 3 7 4] 15 = some .lanesCrossed ∧
    p4Verdict #v[hears 61 4 0 7 4, hears 61 4 1 7 4, hears 61 4 2 7 4, hears 61 4 3 7 4] 15 = some .loopback ∧
    p4Verdict #v[hears 62 10 0 7 5, hears 62 10 1 7 5, hears 62 10 2 7 5, hears 62 10 3 7 5] 15 = some .halfCrossed ∧
    p4Verdict #v[hears 62 10 0 7 4, hears 62 10 1 7 4, Lane.initial, Lane.initial] 3 = some .matched := by
  decide +kernel

/-- Chassis masking (section 4.8): 343 is in the range of 320 under 0xFFC0, 384 is not. -/
theorem test_chassisMask :
    (⟨false, false, 0x0140, 0xFFC0, 10, false, 0, 0, 1, 0, 0⟩ : PlanCopy).matchesEnd ⟨0x0157, 10⟩ = true ∧
    (⟨false, false, 0x0140, 0xFFC0, 10, false, 0, 0, 1, 0, 0⟩ : PlanCopy).matchesEnd ⟨0x0180, 10⟩ = false := by
  decide +kernel

/-- The grants of section 7.6, decisions 3 and 4: at turn ratio 2 the queue's turn comes after two port grants. -/
theorem test_turnRatio :
    let j : PassJob := ⟨⟨1, false, 0⟩, 2, identityRead⟩
    let waiting := ((Vector.replicate 32 false).set 7 true).set 20 true
    (⟨waiting, [j], 5, 2⟩ : Arbiter).choose 2 = some (.job j) ∧
    ((⟨waiting, [j], 5, 2⟩ : Arbiter).granted (.job j)).choose 2 = some (.port 7) := by decide +kernel

/-- The repeat counts of section 2.5: two beacons running from one sender make the far identity, a bad check between them
does not break the run, and another sender's first beacon leaves it. -/
theorem test_identification :
    let a : Ident := ⟨40, 7, 2, 9⟩
    let b : Ident := ⟨40, 8, 2, 9⟩
    let r : NegRecord := ⟨.hello, 0, 0, 0, none⟩
    let l := ((Lane.initial.hear a r).countError).hear a r
    (Lane.initial.hear a r).far = none ∧ ((Lane.initial.hear a r).countError).markOf a = .identified ∧
    l.far = some a ∧ l.beaconErrs = 1 ∧ l.markOf a = .noMark ∧ (l.hear b r).far = some a ∧ (l.hear b r).rep = 1 ∧
    ((l.hear b r).hear a r).rep = 1 ∧ (l.hear b r).markOf b = .changed := by decide +kernel

/-! ## States that meet the premises of the statements

Each theorem is named after its statement and meets the premises of its clauses in their order, at the ends of ranges
where a clause has one. -/

def heldBy (h : ResetHold) : State := { State.reset with hold := h }
def engineIn (st : EngineState) : State := { running with we := { running.we with st := st } }

/-- The bus at work on a transaction of this requester for port 31. -/
def busWith (st : BusState) (r : Requester) (isWrite cut : Bool) (tries : Nat) : State :=
  { State.reset with
    bus := { State.reset.bus with
      st := st, selected := some 31, watchdog := some 0
      current := some ⟨r, 31, ⟨isWrite, 0x56, 0, 0, 32, []⟩, 0, 25, tries, 0, cut, false, false⟩ } }

def aTag : JobTag := ⟨63, true, 0x1000⟩

/-- A running test of this kind on all four lanes of port 31, in the state and role given. -/
def testing (st : PortState) (role : Role) (kind : TestKind) (dwell : Option Nat) (elapsed : Nat) : Port :=
  { lanesAll (inState st) { lockedLane with test := some ⟨0, none⟩ } with
    role := role, agreed := some .g4, laneSet := 15, dwellTimer := some 0, testTimer := some 0
    test := some ⟨kind, 15, .g4, 6, dwell, dwell.map fun _ => 0, elapsed, false, false, false, false, true, false⟩ }

/-- Port 31 in this state of the part, a LANE_TEST of it in slot 0. -/
def testSlot (c : Port) : State :=
  let s := running.setPort 31 c
  { s with we := { s.we with slots := s.we.slots.set 0 (some ⟨aTag, 31, .laneTest⟩) } }

/-- A beacon frame of this phase, attempt and grade from port 10 of chassis 62, lane 0, seeing port 31 of chassis 7. -/
def frameOf (ph : Phase) (attempt grade reason : Byte) (set : LaneSet) : Vector Byte 18 :=
  Vector.ofFn fun i => byteAt (withCheck (beaconPayload ph ⟨62, 10, 0, 0⟩ 15 7 attempt grade set 0 reason 0 7 31)) i.val

/-- A training word of this phase from lane 0. -/
def wordOf (ph : Phase) (attempt : Byte) (good : LaneSet) : Vector Byte 8 :=
  Vector.ofFn fun i => byteAt (withCheck (wordPayload ph attempt good 0 0)) i.val

/-- A port of chassis 7 that has verified against port 10 of chassis 62, its four lanes in this lane state. -/
def agreeing (st : PortState) (role : Role) (phase : Phase) (lane : LaneState) : Port :=
  { lanesAll (inState st) { hears 62 10 0 0 31 with st := lane, rx := .collect } with
    role := role, phase := phase, far := some ⟨62, 10⟩, capGrades := 15, capWidths := 7, usable := 15
    laneMap := #v[some 0, some 1, some 2, some 3], attempt := 1, phaseTimer := some 0, burst := some 0 }

theorem meets_steps : State.reset.pending = [] := by decide +kernel

theorem meets_resets : State.reset.hold = .released ∧ (heldBy (.timed 1)).hold ≠ .released ∧ (heldBy .pin).hold = .pin ∧
    (heldBy (.timed 0)).hold = .timed 0 ∧ (heldBy (.timed 1)).hold = .timed (0 + 1) := by decide +kernel

theorem meets_runSet : State.reset.we.st = .stopped ∧ (engineIn .starting).we.st = .starting ∧
    (engineIn .draining).we.st = .draining ∧ (engineIn .draining).hold = .released := by decide +kernel

theorem meets_runClear : (State.reset.we.st = .stopped ∧ (engineIn .starting).we.st = .starting ∧
    running.we.st = .running ∧ (testSlot (inState .active)).we.st = .running) ∧
    ¬ DrainConditions (testSlot (inState .active)) ∧ DrainConditions running ∧ DrainConditions (engineIn .draining) := by
  refine ⟨by decide +kernel, ?_⟩
  simp only [← State.drained_iff]
  decide +kernel

theorem meets_engineRestart :
    let s := { running with
      rep := { running.rep with inflight := [⟨31, 1, 255, 0⟩, ⟨0, 2, 1, 1⟩, ⟨31, 4, 1, 2⟩] }
      mm := ⟨[⟨.reportFilled 0 2, false⟩, ⟨.reportBody 33 [], false⟩], 0⟩ }
    s.mm.ops.head? = some ⟨.reportFilled 0 2, false⟩ ∧ (∀ p : PortNo, s.cache.fillPending[p] = false) ∧
    (∀ f ∈ s.rep.inflight, 1 ≤ f.count) ∧ running.mm.ops.head? = none := by decide +kernel

/-- R178 by hand: of port 31's two lost reports the counts add, and it goes to the head ahead of port 0. -/
theorem test_restore :
    let r := restoreAll [⟨31, 1, 200, 0⟩, ⟨0, 2, 1, 1⟩, ⟨31, 4, 100, 2⟩] [] { running.rep with queue := [5] }
    r.queue = [31, 0, 5] ∧ r.recs[31] = ⟨5, 255⟩ ∧ r.recs[0] = ⟨2, 1⟩ := by decide +kernel

theorem meets_nudges : (running.we.scan = .noScan ∧ running.rep.phase ≠ .reading ∧ running.rep.queue = []) ∧
    (let s := { running with we := { running.we with scan := .reading, scanTimer := some 0 } }
     s.we.scan ≠ .noScan ∧ s.we.scanTimer = some 0 ∧ State.reset.we.st ≠ .running ∧
       State.reset.we.scanTimer ≠ some 0) ∧
    (let s := { running with rep := { running.rep with phase := .reading } }
     s.rep.phase = .reading) ∧
    let s := { running with rep := { running.rep with queue := [31] } }
    s.rep.phase ≠ .reading ∧ s.rep.queue ≠ [] := by decide +kernel

theorem meets_registerWrites :
    (0x20000001#32).getLsbD 0 = true ∧ (1#32).getLsbD 1 = false ∧ (2#32).getLsbD 1 = true ∧ (2#32).getLsbD 0 = false ∧
    (3#32).getLsbD 0 = true ∧ (3#32).getLsbD 1 = true ∧ (0#32).getLsbD 0 = false ∧ (0#32).getLsbD 1 = false ∧
    (0x3C#6) ≠ 0x14 ∧ (0x3C#6) ≠ 0x04 := by decide +kernel

theorem meets_changes :
    State.reset.rep.recs[31] = ⟨0, 0⟩ ∧
    (let s := { running with rep := { running.rep with
     recs := running.rep.recs.set 31 ⟨1, 255⟩, queue := [31], phase := .reading } }
     s.rep.recs[31].count ≠ 0 ∧ s.rep.phase = .reading) ∧
    (running.rep.phase ≠ .reading ∧ running.we.st.working = true ∧ (running.handOver 31 8).rep.queue ≠ []) ∧
    (State.reset.rep.phase ≠ .reading ∧ State.reset.we.st.working = false) ∧
    ((withPort 31 (inState .active)).port 31).present = true ∧ ((withPort 31 (inState .active)).port 31).st = .active := by
  decide +kernel

theorem meets_presence :
    (State.reset.port 31).present = false ∧ (State.reset.port 31).st ≠ .empty ∧
    (let s := withPort 31 { Port.initial false with st := .empty }
     (s.port 31).present = false ∧ (s.port 31).st = .empty) ∧
    (let s := withPort 31 (Port.initial true)
     (s.port 31).present = true ∧ (s.port 31).st = .off) ∧
    (let s := withPort 31 (inState .held)
     (s.port 31).present = true ∧ (s.port 31).st ≠ .off ∧ (s.port 31).st ≠ .empty) := by decide +kernel

def trainingLane : Lane := { Lane.initial with st := .training }

theorem meets_lockGained :
    ((State.reset.port 31).lane 3).st ≠ .training ∧
    (let c := lanesAll { inState .train with laneSet := 15, agreed := some .g4 } trainingLane
     (c.lane 3).st = .training ∧ ∃ j, j ≠ 3 ∧ hasLane c.laneSet j = true ∧ (c.lane j).st = .training) ∧
    let c := { inState .train with laneSet := 12, agreed := some .g4, lanes := #v[.initial, .initial, lockedLane, trainingLane] }
    (c.lane 3).st = .training ∧ c.st = .train ∧ hasLane c.laneSet 3 = true ∧ c.agreed = some .g4 ∧
      ∀ j, j ≠ 3 → hasLane c.laneSet j = true → (c.lane j).st ≠ .training := by decide +kernel

def dataLane : Lane := { Lane.initial with st := .data }

theorem meets_drops :
    ((State.reset.port 31).lane 3).st = .quiet ∧
    (let c := lanesAll { inState .active with laneSet := 15, holdOnDrop := true, drops := 255 } dataLane
     (c.lane 3).st = .data ∧ c.st = .active ∧ hasLane c.laneSet 3 = true ∧ c.holdOnDrop = true) ∧
    (let c := lanesAll { inState .active with laneSet := 15, drops := 254 } dataLane
     (c.lane 3).st = .data ∧ c.st = .active ∧ hasLane c.laneSet 3 = true ∧ c.holdOnDrop = false ∧
       255 ≠ 0 ∧ 255 ≤ min (c.drops + 1) 255) ∧
    State.reset.we.cfg.dropLimit = 0 := by decide +kernel

/-- A LANE_TEST of four running lanes on an ACTIVE port that drops into HELD or into SIGNAL, loses presence, is disabled,
restarted or reverified, or fails a lane. -/
theorem meets_testRuns (hold : Bool) :
    let T : PortTest := ⟨.laneTest, 15, .g4, 6, some 1, some 0, 0, false, false, false, false, true, false⟩
    let c := { lanesAll (testing .active .lead .laneTest (some 1) 0) { dataLane with test := some ⟨0, none⟩ } with
      holdOnDrop := hold }
    let s := testSlot c
    let r := { onPort 31 with index := 0 }
    TestRuns s 31 T 0 aTag ∧ (s.port 31).st = .active ∧ (s.port 31).present = true ∧ (s.port 31).holdOnDrop = hold ∧
    ((s.port 31).lane 3).st = .data ∧ hasLane (s.port 31).laneSet 3 = true ∧ s.we.cfg.dropLimit = 0 ∧
    ((s.port 31).lane 3).test = some ⟨0, none⟩ ∧ hasLane T.lanes 3 = true ∧ T.eAllow = some 0 ∧ T.dropOnFail = true ∧
    CanTake s .portDisable r ∧ CanTake s .portRestart r ∧ CanTake s .planFlush { r with argA := 2 } ∧
    ({ r with argA := 2 }).argA.getLsbD 1 = true := by
  refine ⟨⟨?_, ?_, ?_, ?_, fun k h => absurd h (Nat.not_lt_zero _)⟩, ?_⟩ <;> cases hold <;> decide +kernel

theorem meets_lockLost :
    (let c := testing .qualify .lead .bringUp (some 1) 0
     (c.lane 3).st = .locked ∧ c.st = .qualify ∧ (∃ T ∈ c.test, T.ended = false ∧ hasLane T.lanes 3 = true) ∧
       (c.lane 3).test = some ⟨0, none⟩ ∧ (c.lane 0).test = some ⟨0, none⟩ ∧ hasLane c.laneSet 0 = true ∧
       (c.lane 0).st = .locked) ∧
    (let c := { testing .confirm .lead .bringUp (some 1) 0 with test := none }
     c.st = .confirm ∧ c.test = none ∧ (c.lane 3).st = .locked ∧ (c.lane 0).st = .locked ∧ hasLane c.laneSet 0 = true) ∧
    let c := { testing .train .follow .bringUp (some 1) 0 with laneSet := 8 }
    c.st = .train ∧ c.role = .follow ∧ hasLane c.laneSet 3 = true ∧
      ∀ j, j ≠ 3 → hasLane c.laneSet j = true → (c.lane j).st ≠ .locked ∧ (c.lane j).st ≠ .training := by
  decide +kernel

/-- Lock lost in TRAIN beside a TRAINING and beside a LOCKED set lane, on a lane outside the set, in no attempt, and in
QUALIFY on a lane with its verdict beside one that runs. -/
theorem meets_lockLostWaiting :
    (let c := { testing .train .lead .bringUp (some 1) 0 with test := none }
     let d := { c with lanes := c.lanes.set 0 { c.lane 0 with st := .training } }
     d.st = .train ∧ (d.lane 3).st = .locked ∧ hasLane d.laneSet 3 = true ∧ hasLane d.laneSet 0 = true ∧
       (d.lane 0).st = .training ∧
     (c.agreed = some .g4 ∧ hasLane c.laneSet 0 = true ∧ (c.lane 0).st = .locked ∧
       ∀ j, j ≠ 3 → hasLane c.laneSet j = true → (c.lane j).st ≠ .training) ∧
     hasLane ({ c with laneSet := 3 }).laneSet 3 = false ∧ ({ c with st := .agree }).st = .agree) ∧
    (let c := testing .qualify .lead .bringUp (some 1) 0
     let d := { c with lanes := c.lanes.set 3 { lockedLane with test := some ⟨1, some ⟨.fail, 0, 0, true⟩⟩ } }
     d.st = .qualify ∧ ((d.lane 3).test.bind TestRecord.given).isSome ∧ (d.lane 0).test = some ⟨0, none⟩ ∧
       (d.lane 0).st = .locked ∧ hasLane d.laneSet 0 = true ∧ ∃ T ∈ d.test, T.ended = false ∧ hasLane T.lanes 0 = true) := by
  decide +kernel

/-- The last running lane in QUALIFY, beside a LOCKED lane with its verdict; a running lane with errors. -/
theorem meets_lockLostLast :
    (let c := testing .qualify .follow .bringUp (some 1) 0
     let l := { lockedLane with test := some ⟨1, some ⟨.fail, 0, 0, true⟩⟩ }
     let d := { c with lanes := #v[l, l, l, c.lane 3] }
     d.st = .qualify ∧ (∃ T ∈ d.test, T.ended = false ∧ hasLane T.lanes 3 = true) ∧ hasLane d.laneSet 3 = true ∧
       (d.lane 3).test = some ⟨0, none⟩ ∧ (∀ j, j ≠ 3 → ((d.lane j).test.bind TestRecord.given).isSome) ∧
       (d.lane 0).st = .locked ∧ hasLane d.laneSet 0 = true ∧ WaitsForResult d) ∧
    (let c := testing .qualify .lead .bringUp (some 1) 0
     let d := { c with lanes := c.lanes.set 0 { c.lane 0 with test := some ⟨4294967295, none⟩ } }
     ((3 : LaneNo) ≠ 0 ∧ (d.lane 0).test = some ⟨4294967295, none⟩)) ∧
    (∀ role ∈ [Role.lead, .self], ∀ ph ∈ [Phase.result, .commit, .retry, .heldWord],
      let c := { testing .confirm role .bringUp (some 1) 0 with laneSet := 8, phase := ph }
      c.role = role ∧ c.phase = ph ∧ hasLane c.laneSet 3 = true ∧
        ∀ j, j ≠ 3 → hasLane c.laneSet j = true → (c.lane j).st ≠ .locked ∧ (c.lane j).st ≠ .training) := by
  decide +kernel

theorem meets_frames :
    let c := lanesAll (inState .signal) { Lane.initial with st := .beacon, rx := .collect, polarity := .inverted }
    (c.lane 3).st = .beacon ∧ (c.lane 3).rx = .collect ∧ (c.lane 3).polarity = .inverted ∧
    checkOk 16 ((List.replicate 18 0xFF).map fun b : Byte => ~~~b) = false ∧ ((inState .off).lane 3).st ≠ .beacon ∧
    lockedLane.st = .locked ∧ checkOk 6 (List.replicate 8 0) = false ∧ ((inState .off).lane 3).st ≠ .locked := by
  decide +kernel

theorem meets_validBeacons :
    (let f := (withCheck (List.replicate 16 0))
     f.length = 18 ∧ checkOk 16 f = true ∧ beaconOf f = none) ∧
    (let f := (frameOf .hello 0 0 0 0).toList
     checkOk 16 f = true ∧ ∃ r ∈ beaconOf f, r.beacon.isSome = true ∧ r.phase = .hello ∧ r.attempt = 0) ∧
    (let c := { agreeing .held .noRole .heldBeacon .beacon with holdReason := .planUnavailable }
     (c.lane 0).st = .beacon ∧ (c.lane 0).rx = .collect ∧ c.st = .held ∧ c.holdReason.cabling = false ∧
       c.holdReason ≠ .farHeld ∧ c.holdReason ≠ .farRejected ∧ c.isPresent 0 = true) ∧
    ({ agreeing .held .noRole .heldBeacon .beacon with holdReason := .farHeld }).holdReason = .farHeld := by
  decide +kernel

/-- A beacon that lifts no FAR_HELD, and one in a state that waits for none; and a HELD beacon with a cabling reason in
SIGNAL, before the test of R18 is met, and in the wait. -/
theorem meets_beaconsThatDoNoMore :
    [frameOf .propose 0 0 0 0, frameOf .hello 1 0 0 0].all (fun f => (beaconOf f.toList).any fun r =>
      r.beacon.isSome && ¬ (r.phase = .hello ∧ r.attempt = 0)) ∧
    [HoldReason.farHeld, .farRejected].all (fun why =>
      let c := { agreeing .held .noRole .heldBeacon .beacon with holdReason := why }
      (c.lane 0).st = .beacon ∧ (c.lane 0).rx = .collect ∧ c.st = .held ∧ c.holdReason = why) ∧
    (agreeing .train .lead .training .beacon).st = .train ∧
    (beaconOf (frameOf .heldBeacon 0 0 11 0).toList).any (fun r => r.phase = .heldBeacon ∧
      r.reason = HoldReason.oneWay.code ∧ HoldReason.oneWay.cabling = true) := by decide +kernel

/-- A REJECT holds; a HELD holds but for a cabling reason. -/
theorem meets_holdsFarEnd :
    HoldsFarEnd ⟨.heldBeacon, 1, 0, 12, none⟩ ∧ ¬ HoldsFarEnd ⟨.heldBeacon, 1, 0, 11, none⟩ ∧
    ¬ HoldsFarEnd ⟨.hello, 0, 0, 0, none⟩ := by
  simp only [← NegRecord.holdsUs_iff]
  decide +kernel

/-- What the statements on valid beacons ask of the lane, the frame and the port, before and after the lane hears it. -/
def heard (c : Port) (f : Vector Byte 18) (P : NegRecord → BeaconPart → Port → Port → Bool) : Bool :=
  (c.lane 0).st = .beacon && (c.lane 0).rx = .collect && checkOk 16 f.toList &&
  match beaconOf f.toList with
  | none => false
  | some r => match r.beacon with
    | none => false
    | some b => P r b c (c.setLane 0 ({ c.lane 0 with rx := .hunt }.hear b.sender r))

/-- A port of this number of lanes that has heard one beacon of the far lane 0 so far. -/
def newlyHearing (st : PortState) (lanes : Nat) : Port :=
  let c := agreeing st .noRole .hello .beacon
  { c with
    ident := some ⟨.optical, lanes, 4, 0, Vector.replicate 4 0, Vector.replicate 12 0⟩
    lanes := Vector.replicate 4 { c.lane 0 with rep := 1, far := none, neg := none } }

def env31 : Env := ⟨31, 7, 0, ConfigCopy.initial⟩

/-- signalTest and holdsUs are FarEndSeesUs and HoldsFarEnd by Port.signalTest_iff and NegRecord.holdsUs_iff. A lane that
is not present, DARK, the EPOCH_WAIT wait, HELD for a cabling reason, SIGNAL before its test, a far REJECT,
a far HELD, and the return from DARK. -/
theorem meets_beaconsByState :
    heard { agreeing .signal .noRole .hello .beacon with ident := none } (frameOf .hello 0 0 0 0)
      (fun _ _ c _ => c.isPresent 0 = false) ∧
    heard (agreeing .dark .noRole .hello .beacon) (frameOf .hello 0 0 0 0)
      (fun _ _ c _ => c.st = .dark ∧ (c.lane 0).far ≠ none) ∧
    heard { agreeing .signal .noRole .hello .beacon with verdict := .epochWait } (frameOf .hello 0 0 0 0)
      (fun r b c _ => c.st = .signal ∧ r.holdsUs = false ∧ r.phase ≠ .reject ∧ c.verdict = .epochWait ∧
        (c.lane 0).far = some b.sender) ∧
    heard { agreeing .held .noRole .heldBeacon .beacon with holdReason := .miswired } (frameOf .hello 0 0 0 0)
      (fun _ b c _ => c.st = .held ∧ c.holdReason.cabling = true ∧ (c.lane 0).far = some b.sender) ∧
    [frameOf .hello 0 0 0 0, frameOf .heldBeacon 0 0 11 0].all (fun f => heard (newlyHearing .signal 4) f
      (fun r _ c d => c.st = .signal ∧ r.holdsUs = false ∧ r.phase ≠ .reject ∧ c.verdict ≠ .epochWait ∧
        d.signalTest env31 = false)) ∧
    heard (agreeing .signal .noRole .hello .beacon) (frameOf .reject 0 0 0 0)
      (fun r _ c _ => c.st = .signal ∧ c.isPresent 0 = true ∧ r.phase = .reject) ∧
    heard (agreeing .signal .noRole .hello .beacon) (frameOf .heldBeacon 0 0 12 0)
      (fun r _ c _ => c.st = .signal ∧ r.phase = .heldBeacon ∧ r.reason = HoldReason.farHeld.code ∧
        HoldReason.farHeld.cabling = false) ∧
    heard (newlyHearing .dark 4) (frameOf .hello 0 0 0 0)
      (fun _ b c d => c.st = .dark ∧ c.isPresent 0 = true ∧ (c.lane 0).far = none ∧ (d.lane 0).far = some b.sender ∧
        d.signalTest env31 = false) := by decide +kernel

/-- Verification on the return from DARK, in the EPOCH_WAIT wait, and out of HELD for a cabling reason. -/
theorem meets_verifications :
    heard (newlyHearing .dark 1) (frameOf .hello 0 0 0 0)
      (fun _ b c d => c.st = .dark ∧ c.verdict ≠ .epochWait ∧ (c.lane 0).cand = some b.sender ∧ 1 ≤ (c.lane 0).rep ∧
        (c.lane 0).far = none ∧ d.signalTest env31 = true ∧ d.farIdentity d.presentSet = some ⟨62, 10⟩) ∧
    [frameOf .hello 0 0 0 0, frameOf .heldBeacon 0 0 11 0].all (fun f =>
      heard { newlyHearing .signal 4 with verdict := .epochWait } f
        (fun r b c d => c.st = .signal ∧ c.verdict = .epochWait ∧ r.holdsUs = false ∧ r.phase ≠ .reject ∧
          (c.lane 0).cand = some b.sender ∧ d.farIdentity d.identifiedSet = some ⟨62, 10⟩) &&
      heard (newlyHearing .signal 1) f (fun r _ c d => c.st = .signal ∧ c.verdict ≠ .epochWait ∧ r.holdsUs = false ∧
        d.signalTest env31 = true ∧ d.farIdentity d.presentSet = some ⟨62, 10⟩)) ∧
    heard { newlyHearing .held 4 with holdReason := .oneWay } (frameOf .hello 0 0 0 0)
      (fun _ b c d => c.st = .held ∧ c.holdReason.cabling = true ∧ (c.lane 0).cand = some b.sender ∧
        d.farIdentity d.identifiedSet = some ⟨62, 10⟩) ∧
    (let c := newlyHearing .held 4
     let changed := { c with holdReason := .split, lanes := c.lanes.set 0 { c.lane 0 with far := some ⟨62, 11, 0, 0⟩ } }
     heard changed (frameOf .hello 0 0 0 0) (fun _ b c _ => (c.lane 0).far ≠ none ∧ (c.lane 0).far ≠ some b.sender ∧
       (c.lane 0).cand = some b.sender ∧ 1 ≤ (c.lane 0).rep)) := by decide +kernel

/-- The frame completes the identification of a port of one lane, that hears that it is seen. -/
theorem meets_identification :
    let s := { running.setPort 31 { agreeing .signal .noRole .hello .beacon with
      ident := some ⟨.optical, 1, 4, 0, Vector.replicate 4 0, Vector.replicate 12 0⟩ } with pending := [] }
    let f := (frameOf .hello 0 0 0 0).toList
    s.hold = .released ∧ checkOk 16 f = true ∧
    ∃ r ∈ beaconOf f, ∃ b ∈ r.beacon,
      let c := (s.port 31).setLane 0 ({ (s.port 31).lane 0 with rx := .hunt }.hear b.sender r)
      c.st = .signal ∧ c.verdict ≠ .epochWait ∧ c.isPresent 0 = true ∧ r.holdsUs = false ∧ r.phase ≠ .reject ∧
        c.signalTest (s.env 31) = true ∧ c.farIdentity c.presentSet = some ⟨62, 10⟩ ∧
        (c.verdictOf (s.env 31) c.presentSet ⟨62, 10⟩).passes = true ∧
        (c.verdictOf ⟨31, 7, 9, ConfigCopy.initial⟩ c.presentSet ⟨62, 10⟩) = .epochWait ∧
        ({ c with plan := .planned ⟨true, false, 0, 0, 0, true, 0, 0, 1, 0, 0⟩ }.verdictOf (s.env 31) c.presentSet
          ⟨62, 10⟩) = .miswired := by decide +kernel

theorem meets_words :
    checkOk 6 (wordOf .heldWord 1 0).toList = true ∧ checkOk 6 (withCheck [0x16, 0, 0, 0, 0, 0]) = true ∧
    Phase.ofWord 0x16 = none ∧ Phase.ofWord (byteAt (wordOf .commit 1 15).toList 0) = some .commit ∧
    (let c := agreeing .confirm .follow .result .locked
     (c.lane 0).st = .locked ∧ (∃ f ∈ (c.lane 0).far, (byteAt (wordOf .commit 1 15).toList 4).toNat = f.lane.toNat) ∧
       (∃ b ∈ (c.lane 0).beaconPart, c.far = some ⟨b.sender.chassis, b.sender.port⟩) ∧
       byteAt (wordOf .commit 1 15).toList 1 = c.attempt ∧ c.st = .confirm ∧ c.role = .follow ∧ SetLocked c) ∧
    byteAt (wordOf .commit 255 15).toList 1 ≠ (agreeing .confirm .follow .result .locked).attempt := by decide +kernel

/-- TRAINING in CONFIRM, RETRY in TRAIN and in CONFIRM, HELD, and COMMIT with a set lane without lock. -/
theorem meets_wordsByPhase :
    (∀ role ∈ [Role.lead, .follow],
      let c := agreeing .confirm role .result .locked
      c.st = .confirm ∧ c.phase = .result ∧ c.role = role ∧
        ∃ b ∈ (c.lane 0).beaconPart, c.far = some ⟨b.sender.chassis, b.sender.port⟩) ∧
    (∀ st ∈ [PortState.train, .qualify, .confirm],
      let c := agreeing st .follow .result .locked
      c.role = .follow ∧ c.attempt = byteAt (wordOf .retry 1 15).toList 1 ∧
        ∀ j, ((c.lane j).neg.map NegRecord.phase) = some .hello) ∧
    (let c := agreeing .confirm .follow .result .locked
     ¬ SetLocked { c with laneSet := 15, lanes := c.lanes.set 3 { c.lane 3 with st := .failed } }) ∧
    Phase.ofWord (byteAt (wordOf .training 1 0).toList 0) = some .training ∧
    Phase.ofWord (byteAt (wordOf .retry 1 0).toList 0) = some .retry ∧
    Phase.ofWord (byteAt (wordOf .heldWord 1 0).toList 0) = some .heldWord := by decide +kernel

/-- A follower whose present lane 0 holds a PROPOSE of attempt 2 from the far end, and one whose lanes hold none. -/
theorem meets_proposals :
    let b : BeaconPart := ⟨⟨62, 10, 0, 0⟩, 4, 15, 15, 7, 7, 31⟩
    let r : NegRecord := ⟨.propose, 2, 0, 0, some b⟩
    let c := agreeing .train .follow .result .locked
    HoldsProposal { c with lanes := c.lanes.set 0 { c.lane 0 with neg := some r } } 0 2 b ∧
    (∀ j : LaneNo, ¬ j < 0) ∧ ∀ i a b, ¬ HoldsProposal c i a b := by
  refine ⟨⟨by decide +kernel, by decide, by decide +kernel, ⟨.propose, 2, 0, 0, _⟩, by decide +kernel, rfl, rfl, rfl⟩,
    by decide, ?_⟩
  rintro i a b ⟨-, -, -, r, hr, hp, -⟩
  have h : ∀ j, ((agreeing .train .follow .result .locked).lane j).neg.map NegRecord.phase = some .hello := by
    decide +kernel
  have := h i
  rw [hr, Option.map_some, hp] at this
  cases this

theorem meets_lineErrors :
    (inState .active).test = none ∧
    (let c := testing .active .lead .laneTest (some 1) 0
     ∃ T ∈ c.test, T.ended = false ∧ hasLane T.lanes 3 = true ∧ (c.lane 3).test = some ⟨0, none⟩ ∧
       T.eAllow = some 0 ∧ 0 < min (0 + 1) 4294967295 ∧ T.kind = .laneTest ∧ T.dropOnFail = true) ∧
    (let c := testing .active .lead .laneTest none 0
     ∃ T ∈ c.test, T.ended = false ∧ T.eAllow = none) ∧
    let c := { testing .qualify .lead .bringUp (some 1) 0 with
      test := some ⟨.bringUp, 15, .g4, 6, some 1, some 0, 0, false, false, false, false, false, false⟩ }
    ∃ T ∈ c.test, T.dropOnFail = false ∧ T.eAllow = some 0 ∧ hasLane T.lanes 0 = true ∧
      (c.lane 0).test = some ⟨0, none⟩ := by decide +kernel

/-- The last running lane of a bring-up test, and of a LANE_TEST without drop-on-fail. -/
theorem meets_lineErrorsLast :
    let one := fun (c : Port) (kind : TestKind) => { c with
      test := some ⟨kind, 8, .g4, 6, some 1, some 0, 0, false, false, false, false, false, false⟩ }
    (let c := one (testing .qualify .follow .bringUp (some 1) 0) .bringUp
     (∃ T ∈ c.test, T.kind = .bringUp ∧ T.eAllow = some 0 ∧ T.ended = false ∧ hasLane T.lanes 3 = true ∧
       ∀ j, j ≠ 3 → hasLane T.lanes j = false) ∧ (c.lane 3).test = some ⟨0, none⟩ ∧ c.st = .qualify ∧ c.role = .follow) ∧
    (let s := testSlot (one (testing .active .lead .laneTest (some 1) 0) .laneTest)
     (∃ T ∈ (s.port 31).test, T.kind = .laneTest ∧ T.dropOnFail = false ∧ T.eAllow = some 0 ∧
       ∀ j, j ≠ 3 → hasLane T.lanes j = false) ∧ s.we.slots[0] = some ⟨aTag, 31, .laneTest⟩) := by decide +kernel

/-- What the statement on records heard in AGREE asks of the lane, the frame and the port. -/
def hearsFrame (c : Port) (f : Vector Byte 18) (P : NegRecord → BeaconPart → Port → Bool) : Bool :=
  (c.lane 0).st = .beacon && (c.lane 0).rx = .collect && checkOk 16 f.toList &&
  match beaconOf f.toList with
  | none => false
  | some r => match r.beacon with
    | none => false
    | some b =>
      let d := c.setLane 0 ({ c.lane 0 with rx := .hunt }.hear b.sender r)
      d.st = .agree && d.isPresent 0 && P r b d

theorem meets_agreement :
    hearsFrame { agreeing .agree .lead .propose .beacon with far := some ⟨62, 11⟩ } (frameOf .accept 1 4 0 15)
      (fun _ _ d => d.far ≠ some ⟨62, 10⟩) ∧
    hearsFrame (agreeing .agree .lead .propose .beacon) (frameOf .heldBeacon 1 4 12 15)
      (fun r _ d => d.far = some ⟨62, 10⟩ ∧ d.role = .lead ∧ r.phase = .heldBeacon ∧ r.reason = 12) ∧
    hearsFrame (agreeing .agree .lead .propose .beacon) (frameOf .reject 1 4 0 15)
      (fun r _ d => d.role = .lead ∧ r.phase = .reject ∧ r.attempt = d.attempt) ∧
    hearsFrame { agreeing .agree .lead .propose .beacon with agreed := some .g4 } (frameOf .accept 1 4 0 15)
      (fun r b d => r.phase = .accept ∧ r.attempt = d.attempt ∧ d.phase = .propose ∧ d.agreed = some .g4 ∧
        b.propGrade.toNat = Grade.g4.num) ∧
    hearsFrame (agreeing .agree .follow .hello .beacon) (frameOf .propose 2 1 0 15)
      (fun r b d => d.role = .follow ∧ r.phase = .propose ∧ d.attempt < r.attempt ∧ d.phase ≠ .reject ∧
        b.propGrade.toNat = Grade.g1.num ∧ hasGrade d.capGrades .g1 ∧
        laneCount (d.mappedInto 15 b.propSet) = laneCount b.propSet ∧ subset (d.mappedInto 15 b.propSet) d.usable ∧
        hasWidth d.capWidths (laneCount b.propSet)) ∧
    hearsFrame (agreeing .agree .follow .hello .beacon) (frameOf .propose 255 5 0 15)
      (fun r b d => d.attempt < r.attempt ∧ ∀ g ∈ Grade.all, b.propGrade.toNat ≠ g.num) ∧
    hearsFrame { agreeing .agree .follow .accept .beacon with agreed := some .g1 } (frameOf .go 1 1 0 15)
      (fun r _ d => d.role = .follow ∧ r.phase = .go ∧ r.attempt = d.attempt ∧ d.phase = .accept ∧
        d.agreed = some .g1) := by decide +kernel

/-- What R92 sets aside: any record at a SELF port; at a lead a HELLO, a stale attempt, another grade, an ACCEPT during the
GO burst; at a follower a PROPOSE that is not greater or during a REJECT burst, a GO before an ACCEPT; a HELD with a cabling
reason at both. -/
theorem meets_setAside :
    hearsFrame (agreeing .agree .self .propose .beacon) (frameOf .accept 1 4 0 15) (fun _ _ d => d.role = .self) ∧
    [frameOf .hello 1 4 0 15, frameOf .accept 0 4 0 15, frameOf .accept 1 3 0 15, frameOf .reject 0 4 0 15,
        frameOf .heldBeacon 1 4 11 15].all (fun f =>
      hearsFrame { agreeing .agree .lead .propose .beacon with agreed := some .g4 } f (fun r b d =>
        d.far = some ⟨62, 10⟩ ∧ d.role = .lead ∧ r.holdsUs = false ∧
        ¬ (r.attempt = d.attempt ∧ (r.phase = .reject ∨ r.phase = .accept ∧ b.propGrade.toNat = Grade.g4.num)))) ∧
    hearsFrame { agreeing .agree .lead .go .beacon with agreed := some .g4 } (frameOf .accept 1 4 0 15)
      (fun r _ d => d.role = .lead ∧ r.phase = .accept ∧ d.phase ≠ .propose) ∧
    [frameOf .propose 1 1 0 15, frameOf .go 1 1 0 15, frameOf .heldBeacon 1 1 11 15].all (fun f =>
      hearsFrame (agreeing .agree .follow .hello .beacon) f (fun r _ d =>
        d.far = some ⟨62, 10⟩ ∧ d.role = .follow ∧ r.holdsUs = false ∧ ¬ (r.phase = .propose ∧ d.attempt < r.attempt) ∧
        ¬ (r.phase = .go ∧ r.attempt = d.attempt ∧ d.phase = .accept))) ∧
    hearsFrame (agreeing .agree .follow .reject .beacon) (frameOf .propose 2 1 0 15)
      (fun r _ d => d.role = .follow ∧ r.phase = .propose ∧ d.attempt < r.attempt ∧ d.phase = .reject) := by
  decide +kernel

theorem meets_leadDecides :
    let w := (wordOf .result 1 15).toList
    let c := { agreeing .confirm .lead .result .locked with laneSet := 15, good := 15 }
    checkOk 6 w = true ∧ byteAt w 0 = 0x12 ∧ byteAt w 1 = c.attempt ∧ (c.lane 0).st = .locked ∧ c.st = .confirm ∧
    c.role = .lead ∧ c.phase = .result ∧ (∃ f ∈ (c.lane 0).far, (byteAt w 4).toNat = f.lane.toNat) ∧
    (∃ b ∈ (c.lane 0).neg.bind NegRecord.beacon, c.far = some ⟨b.sender.chassis, b.sender.port⟩) ∧
    c.mappedInto (c.good &&& c.setIn .locked) 15 = c.laneSet ∧
    c.mappedInto (c.good &&& c.setIn .locked) 0 ≠ c.laneSet := by decide +kernel

theorem meets_sendInstant : (inState .off).sendClock ≠ some 0 ∧
    ({ inState .signal with sendClock := some 0 }).sendClock = some 0 := by decide +kernel

theorem meets_bursts :
    (inState .agree).burst ≠ some 0 ∧
    (let c := { agreeing .agree .lead .go .beacon with agreed := some .g1 }
     c.burst = some 0 ∧ c.st = .agree ∧ c.phase = .go ∧ c.agreed = some .g1) ∧
    (let c := { agreeing .confirm .lead .commit .locked with laneSet := 15 }
     c.burst = some 0 ∧ c.st = .confirm ∧ c.phase = .commit ∧ SetLocked c ∧ c.role = .lead) ∧
    (agreeing .agree .follow .reject .beacon).burst = some 0 ∧ (agreeing .confirm .lead .retry .locked).burst = some 0 ∧
    (agreeing .confirm .lead .heldWord .locked).burst = some 0 ∧ (agreeing .confirm .self .retry .locked).burst = some 0 ∧
    (let c := agreeing .confirm .self .commit .locked
     ¬ SetLocked { c with laneSet := 15, lanes := c.lanes.set 3 { c.lane 3 with st := .failed } }) := by decide +kernel

theorem meets_identify :
    (let c := { inState .identify with sub := some .resetting, phaseTimer := some 0 }
     c.st = .identify ∧ c.sub = some .resetting ∧ c.phaseTimer = some 0) ∧
    ({ inState .identify with sub := some .settling, phaseTimer := some 0 }).sub = some .settling ∧
    ({ inState .identify with phaseTimer := some 1 }).phaseTimer ≠ some 0 ∧
    (busWith .transfer .port false false 1).bus.st ≠ .idle ∧
    State.reset.bus.st = .idle ∧ NothingWaits State.reset ∧ State.reset.bus.stuck[31] = false ∧
    ({ State.reset.bus with stuck := State.reset.bus.stuck.set 31 true }).stuck[31] = true := by decide +kernel

theorem meets_signalWindow :
    (let c := { inState .signal with phaseTimer := some 0 }
     c.st = .signal ∧ c.phaseTimer = some 0 ∧ ∀ i, c.isPresent i = true → (c.lane i).far = none) ∧
    (let c := lanesAll { inState .signal with phaseTimer := some 0 } (hears 62 10 0 0 0xFF)
     (∃ i, c.isPresent i = true ∧ (c.lane i).far ≠ none) ∧
     ∀ i, ((c.lane i).beaconPart.map BeaconPart.seenPort) = some 0xFF) ∧
    let c := lanesAll { inState .signal with phaseTimer := some 0 } (hears 62 10 0 0 31)
    c.verdict ≠ .epochWait ∧ c.farIdentity c.heardSet = some ⟨62, 10⟩ ∧ c.isPresent 3 = true ∧ (c.lane 3).far ≠ none ∧
      ((c.lane 3).beaconPart.map BeaconPart.seenPort) = some 31 := by decide +kernel

theorem meets_phaseWaits :
    (inState .agree).phaseTimer ≠ some 0 ∧ (agreeing .agree .follow .hello .beacon).phaseTimer = some 0 ∧
    (agreeing .agree .follow .reject .beacon).phase = .reject ∧ (agreeing .confirm .lead .retry .locked).phase = .retry ∧
    (∀ i, ((agreeing .confirm .follow .result .locked).lane i).neg.map NegRecord.phase ≠ some .propose) ∧
    (let d := { agreeing .confirm .lead .result .locked with laneSet := 15, agreed := some .g2, left := 1 }.closeFailed 0
     d.left ≠ 0 ∧ laneSetRule d.commonWidths d.usable ≠ none) ∧
    (let d := { agreeing .confirm .lead .result .locked with laneSet := 15, agreed := some .g1, left := 1 }.closeFailed 0
     d.left ≠ 0 ∧ laneSetRule d.commonWidths d.usable = none) ∧
    ((agreeing .confirm .lead .result .locked).closeFailed 0).left = 0 ∧
    (∀ role ∈ [Role.lead, .self], ∀ ph ∈ [Phase.commit, .result, .heldWord, .retry],
      let c := agreeing .confirm role ph .locked
      c.phaseTimer = some 0 ∧ c.st = .confirm ∧ c.role = role ∧ c.phase = ph) ∧
    (agreeing .agree .self .propose .beacon).role = .self := by decide +kernel

/-- The four ways of a lead or SELF port into AGREE (LeadEntersAgree, SelfEntersAgree). -/
theorem meets_leadEntersAgree :
    let c := agreeing .agree .lead .propose .beacon
    c.left = 0 ∧ ({ c with left := 1, ident := none }).computeCaps.commonGrades = 0 ∧
    (let d := { c with left := 1, usable := 10, plan := .planned ⟨false, false, 62, 0, 10, true, 0, 0, 2, 0, 0⟩ }
     d.left ≠ 0 ∧ d.computeCaps.commonGrades ≠ 0 ∧ d.computeCaps.commonWidths ≠ 0 ∧
       laneSetRule d.computeCaps.commonWidths d.usable = none) ∧
    (let d := { c with left := 8 }
     d.computeCaps.commonGrades ≠ 0 ∧ d.computeCaps.commonWidths ≠ 0 ∧
       laneSetRule d.computeCaps.commonWidths d.usable ≠ none) := by decide +kernel

theorem meets_trainTimeout :
    (inState .agree).st ≠ .train ∧
    (let c := { agreeing .train .follow .training .locked with laneSet := 15, agreed := some .g4, plan := .unplanned }
     c.st = .train ∧ c.phaseTimer = some 0 ∧ c.agreed = some .g4 ∧ hasLane c.laneSet 3 = true ∧ (c.lane 3).st = .locked ∧
       c.plan = .unplanned) ∧
    (let c := { agreeing .train .follow .training .training with laneSet := 15 }
     c.role = .follow ∧ ∀ j, (hasLane c.laneSet j && decide ((c.lane j).st = .locked)) = false) ∧
    ({ agreeing .train .lead .training .training with laneSet := 15 }).role = .lead ∧
    ({ agreeing .train .self .training .training with laneSet := 15 }).role = .self := by decide +kernel

theorem meets_dwell :
    (inState .qualify).dwellTimer ≠ some 0 ∧
    (let c := testing .qualify .follow .bringUp (some 65535) 65535
     c.st = .qualify ∧ c.dwellTimer = some 0 ∧ c.role = .follow ∧ ∃ T ∈ c.test, T.ended = false) ∧
    let c := testing .qualify .lead .bringUp (some 65535) 65535
    (c.role = .lead ∧ ∀ i, (c.lane i).neg = none) ∧ (testing .qualify .self .bringUp (some 1) 1).role = .self ∧
    (let id : Ident := ⟨62, 10, 0, 0⟩
     let d := { c with
       attempt := 255, far := some ⟨62, 10⟩
       lanes := c.lanes.set 3 { c.lane 3 with neg := some ⟨.result, 255, 15, 0, some ⟨id, 0, 0, 0, 0, 0, 0⟩⟩ } }
     hasLane d.laneSet 3 = true ∧ (d.lane 3).st = .locked ∧ ((d.lane 3).neg.map NegRecord.phase) = some .result ∧
       ((d.lane 3).neg.map NegRecord.attempt) = some d.attempt ∧ (∀ j < 3, (d.lane j).neg = none)) := by decide +kernel

theorem meets_laneTestEnds :
    (inState .active).testTimer ≠ some 0 ∧
    (let s := testSlot (testing .active .lead .laneTest (some 1) 1)
     (s.port 31).testTimer = some 0 ∧ (∃ T ∈ (s.port 31).test, T.kind = .laneTest ∧ T.ended = false) ∧
       s.we.slots[0] = some ⟨aTag, 31, .laneTest⟩) ∧
    (let s := testSlot (testing .active .lead .laneTest none 2814749)
     ∃ T ∈ (s.port 31).test, T.dwell = none ∧ T.ended = false ∧ T.kind = .laneTest ∧
       281474976710655 / T.grade.bitsPerMs ≤ T.elapsed) ∧
    ∃ T ∈ (testing .active .lead .laneTest none 2814748).test,
      T.elapsed < 281474976710655 / T.grade.bitsPerMs := by decide +kernel

theorem meets_aborts :
    (∃ x ∈ (busWith .transfer .port false false 1).bus.current, x.xfer.len = 32) ∧
    (busWith .transfer .port false false 1).bus.watchdog = some 0 ∧ State.reset.bus.current = none ∧
    (let s := busWith .recovery (.job aTag) true false 1
     s.bus.st = .recovery ∧ (∃ x ∈ s.bus.current, x.cut = false ∧ x.requester = .job aTag) ∧ NothingWaits s) ∧
    (∃ x ∈ (busWith .recovery .port false true 1).bus.current, x.cut = true) ∧
    let s := (busWith .recovery .port false false 1).setPort 31 { inState .identify with sub := some .reading }
    (∃ x ∈ s.bus.current, x.cut = false ∧ x.requester = .port ∧ (s.port x.port).st = .identify ∧
      (s.port x.port).sub = some .reading) ∧ NothingWaits s := by decide +kernel

theorem meets_jobs :
    (∃ x ∈ (busWith .transfer (.job aTag) true false 0).bus.current, x.tries ≤ x.retries) ∧
    (let s := busWith .transfer (.job aTag) false false 1
     (∃ x ∈ s.bus.current, x.retries < x.tries ∧ x.requester = .job aTag ∧ x.cut = false ∧ x.xfer.isWrite = false ∧
       1 ≤ x.xfer.len ∧ (List.replicate 32 (0 : Byte)).length = x.xfer.len) ∧ NothingWaits s) ∧
    (∃ x ∈ (busWith .transfer (.job aTag) true false 1).bus.current, x.xfer.isWrite = true) ∧
    ∃ x ∈ (busWith .transfer .port false true 1).bus.current, x.cut = true ∧ x.retries < x.tries := by decide +kernel

theorem meets_identityReads :
    (let s := (busWith .transfer .port false false 1).setPort 31 { inState .identify with sub := some .reading }
     (∃ x ∈ s.bus.current, x.requester = .port ∧ x.cut = false ∧ x.xfer = ⟨false, 0x56, 0, 0, 32, []⟩ ∧
       x.retries < x.tries ∧ (s.port x.port).st = .identify ∧ (s.port x.port).sub = some .reading ∧
       (exampleBlock 1 2 4 3 0x0F 0xFB).length = 32) ∧ NothingWaits s ∧ s.we.st.working = false) ∧
    ((exampleBlock 1 2 4 3 0x0F 0xFB).map BitVec.toNat).sum % 256 = 0 ∧
    ((exampleBlock 1 2 4 3 0x23 0xFB).map BitVec.toNat).sum % 256 ≠ 0 ∧
    ModuleKind.activeCopper.code = byteAt (exampleBlock 1 2 4 3 0x0F 0xFB) 1 ∧
    running.we.st.working = true ∧ running.we.anchor.planCount ≤ 31 ∧ running.we.cfg.admitUnplanned = false ∧
    (let e : CacheEntry := ⟨31, (Vector.replicate 16 0).set 0 1⟩
     ({ running.cache with entries := [e] }).find 31 = some e ∧ planValid e.bytes.toList = true) ∧
    running.cache.find 31 = none ∧ 31 < 32 := by decide +kernel

theorem meets_arbiter :
    let j : PassJob := ⟨aTag, 2, identityRead⟩
    (3 ≠ 0 ∧ 3 ≤ (⟨Vector.replicate 32 false, [j], 31, 3⟩ : Arbiter).since) ∧
    (let a : Arbiter := ⟨(Vector.replicate 32 false).set 31 true, [j], 31, 0⟩
     a.since < 1 ∧ a.requests[31] = true ∧
     ∀ q : PortNo, a.requests[q] = true → ((31 : PortNo) - a.rotation - 1).val ≤ (q - a.rotation - 1).val) ∧
    (∀ q : PortNo, Arbiter.initial.requests[q] = false) ∧ Arbiter.initial.queue = [] := by decide +kernel

/-- Grants at the end of a cut transaction: to a waiting port; to a job; and to a job that ends at once, for want of a
module or on a stuck branch, with nothing or a port waiting behind it. -/
theorem meets_grantsAtAnEnd :
    let j : PassJob := ⟨aTag, 31, identityRead⟩
    let at3 := (Vector.replicate 32 false).set 3 true
    let s := busWith .transfer .port true true 1
    let waiting := fun (r : Vector Bool 32) (q : List PassJob) (since : Nat) => { s with
      arb := ⟨r, q, 31, since⟩, we := { s.we with cfg := { s.we.cfg with turnRatio := 3 } } }
    let w := waiting at3 [j] 3
    (∃ x ∈ s.bus.current, x.cut = true ∧ x.xfer.isWrite = true) ∧
    (waiting at3 [j] 2).arb.choose 3 = some (.port 3) ∧ (waiting at3 [j] 2).bus.stuck[3] = false ∧
    w.arb.choose 3 = some (.job j) ∧ ((w.setPort 31 (inState .active)).port 31).present = true ∧
    w.bus.stuck[31] = false ∧ (w.port 31).present = false ∧
    ({ w.bus with stuck := w.bus.stuck.set 31 true }).stuck[31] = true ∧
    (⟨at3, [], 31, 0⟩ : Arbiter).choose 3 = some (.port 3) ∧
    (⟨Vector.replicate 32 false, [], 31, 0⟩ : Arbiter).choose 3 = none := by decide +kernel

/-- An anchor block with tables of 1 and 64 entries, plan count 0, and this epoch. -/
def anchorBlock (epoch : Byte) : Vector Byte 64 :=
  Vector.ofFn fun i => byteAt ([0x4C, 0x42, 0x33, 0x32] ++ zeros 8 ++ [1, 64, 0, 0] ++ zeros 18 ++ [epoch]) i.val

theorem meets_anchorRead :
    State.reset.mm.ops.head? = none ∧ InProgress (doing State.reset (.anchorRead 0) true) (.anchorRead 0) true ∧
    (let s := doing { engineIn .starting with we := { (engineIn .starting).we with run := false } } (.anchorRead 0) false
     InProgress s (.anchorRead 0) false ∧ s.we.st = .starting ∧ s.we.run = false) ∧
    (let s := doing (engineIn .starting) (.anchorRead 0) false
     InProgress s (.anchorRead 0) false ∧ s.we.run = true ∧ s.we.scan = .noScan) ∧
    anchorValid (List.replicate 64 0) = false ∧ anchorValid (anchorBlock 0).toList = true ∧
    anchorValid (anchorBlock 9).toList = true ∧ anchorEpoch (anchorBlock 0).toList = State.reset.cache.epoch ∧
    anchorEpoch (anchorBlock 9).toList ≠ State.reset.cache.epoch ∧
    (let c := { agreeing .signal .noRole .hello .beacon with verdict := .epochWait }
     c.st = .signal ∧ c.verdict = .epochWait ∧ c.farIdentity c.identifiedSet = some ⟨62, 10⟩) := by decide +kernel

theorem meets_configRead :
    InProgress (doing running (.configRead 0 (onPort 0)) false) (.configRead 0 (onPort 0)) false ∧
    InProgress (doing running (.configRead 0 (onPort 0)) true) (.configRead 0 (onPort 0)) true ∧
    running.admissible (running.newChassis (configOf (anchorBlock 0).toList)) = true ∧
    (let s := running.setPort 31 (inState .active)
     s.admissible (s.newChassis (configOf (anchorBlock 0).toList)) = false) := by decide +kernel

/-- A descriptor with this byte 0 and kind code. -/
def descOf (own kind : Byte) : Vector Byte 32 := Vector.ofFn fun i => byteAt [own, kind] i.val

def scanning : State := doing { running with we := { running.we with scan := .reading } } (.descRead 0) false

theorem meets_descriptorRead :
    InProgress scanning (.descRead 0) false ∧ scanning.we.st = .running ∧ scanning.we.scan = .reading ∧
    InProgress (doing running (.descRead 0) true) (.descRead 0) true ∧
    (byteAt (descOf 4 1).toList 0).extractLsb' 0 2 ≠ 1 ∧ (byteAt (descOf 5 13).toList 0).extractLsb' 0 2 = 1 ∧
    12 < (byteAt (descOf 5 13).toList 1).toNat ∧ scanning.heldIndex 0 = false ∧
    (∀ e ∈ scanning.mm.ops.tail, e.op.isStartRead = true → e.abandoned = true) ∧
    (∀ k ∈ [Kind.portEnable, .setConfig], byteAt (descOf 5 k.code).toList 1 = k.code ∧
      scanning.takeStall (some k) (requestOf 0 (descOf 5 k.code).toList) = .noStall) ∧
    (let s := { scanning with we := { scanning.we with slots := Vector.replicate 16 (some ⟨aTag, 0, .laneTest⟩) } }
     s.takeStall (some .portAwait) (requestOf 0 (descOf 5 7).toList) = .slot) := by decide +kernel

theorem meets_bufferRead :
    let j : PassJob := ⟨aTag, 31, ⟨true, 0x50, 0, 0, 64, []⟩⟩
    let op := MemOp.bufferRead 0 j
    (List.replicate 64 (0 : Byte)).length = j.xfer.len ∧ InProgress (doing running op true) op true ∧
    (let s := doing (busWith .transfer .port false false 1) op false
     InProgress s op false ∧ s.bus.st ≠ .idle ∧ ¬ ScanWaits s ∧
     ScanWaits { s with we := { s.we with st := .running, scan := .starting } }) ∧
    let s := doing (running.setPort 31 (inState .active)) op false
    InProgress s op false ∧ s.bus.st = .idle ∧ NothingWaits s ∧ (s.port 31).present = true ∧
      s.bus.stuck[31] = false ∧ (running.port 31).present = false ∧
      ({ s.bus with stuck := s.bus.stuck.set 31 true }).stuck[31] = true := by decide +kernel

theorem meets_fill :
    let op := MemOp.fill 0 31 0
    let s := doing running op false
    let w := { s with cache := { s.cache with fillPending := s.cache.fillPending.set 31 true } }
    InProgress s op false ∧ s.cache.fillPending[31] = false ∧ w.cache.fillPending[31] = true ∧ w.cache.gen = 0 ∧
    ({ w with cache := { w.cache with gen := 0xFFFFFFFF } }).cache.gen ≠ 0 ∧
    ((w.setPort 31 (inState .identify)).port 31).st = .identify ∧ planValid ((Vector.replicate 16 1).toList) = true ∧
    planValid ((Vector.replicate 16 0).toList) = false := by decide +kernel

theorem meets_reportRead :
    let op := MemOp.reportRead 0
    InProgress (doing running op false) op false ∧ InProgress (doing running op true) op true ∧
    (doing State.reset op false).we.st.working = false ∧ running.we.st.working = true ∧
    (let s := doing { running with rep := { running.rep with queue := [31], reread := true, stallFlag := true } } op false
     s.rep.queue = 31 :: [] ∧ s.rep.reread = true ∧ s.rep.stallFlag = true) ∧ running.rep.reread = false ∧
    running.rep.stallFlag = false := by decide +kernel

theorem meets_writes :
    InProgress (doing running (.takenWrite 0 6) false) (.takenWrite 0 6) false ∧
    InProgress (doing running (.resultWrite 28 [0]) true) (.resultWrite 28 [0]) true ∧
    InProgress (doing running (.reportBody 1 []) false) (.reportBody 1 []) false ∧
    InProgress (doing running (.reportFilled 0 2) false) (.reportFilled 0 2) false ∧
    (∀ e, State.reset.mm.ops.head? = some e → e.op.engineWrite = none) :=
  ⟨by decide +kernel, by decide +kernel, by decide +kernel, by decide +kernel, fun _ h => nomatch h⟩

theorem meets_memoryFault :
    (∃ e ∈ (doing running (.takenWrite 0 6) false).mm.ops.head?, e.op.isRead = false) ∧
    (∃ e ∈ (doing running (.descRead 0) false).mm.ops.head?, e.op.isRead = true) ∧
    50 ≤ ({ doing running (.descRead 0) false with mm := ⟨[⟨.descRead 0, false⟩], 50⟩ }).mm.age ∧
    (let s := { doing running (.descRead 0) false with rep := { running.rep with inflight := [⟨31, 1, 255, 0⟩] } }
     (∀ f ∈ s.rep.inflight, 1 ≤ f.count) ∧ ∀ p : PortNo, s.cache.fillPending[p] = false) ∧
    (let s := { doing running (.reportRead 0) false with rep := { running.rep with phase := .reading, reread := true } }
     (⟨.reportRead 0, false⟩ : MemEntry) ∈ s.mm.ops ∧ s.rep.phase = .reading) ∧
    (doing running (.descRead 0) false).mm.ops = [⟨.descRead 0, false⟩] ∧
    State.reset.mm.ops.head? = none := by decide +kernel

theorem meets_requestChecks :
    (∀ k ∈ [Kind.portEnable, .portDisable, .portRestart, .portQuery, .laneTest, .laneTestStop, .portAwait, .moduleRead,
      .moduleWrite, .capsLimit], CanTake running k (onPort 32) ∧ CanTake running k (onPort 255)) ∧
    32 ≤ (onPort 32).port.toNat ∧ ¬ CanTake State.reset .portEnable (onPort 0) ∧
    ¬ CanTake (testSlot (inState .active)) .portQuery (onPort 0) ∧ running.we.st = .running := by decide +kernel

/-- R142, R161: a MODULE_WRITE whose buffer is still being read holds its index, and counts as one of the four places. -/
theorem test_pendingWrite :
    let j : PassJob := ⟨⟨9, true, 0x1000⟩, 31, ⟨true, 0x50, 0, 0, 64, []⟩⟩
    let q : PassJob := ⟨⟨8, true, 0⟩, 2, identityRead⟩
    let s := doing running (.bufferRead 0x1000 j) false
    let full := { s with arb := { s.arb with queue := [q, q, q] } }
    s.takeStall (some .portQuery) { onPort 31 with index := 9 } = .index 9 ∧
    s.takeStall (some .portQuery) { onPort 31 with index := 8 } = .noStall ∧
    full.takeStall (some .moduleWrite) (onPort 31) = .place ∧ full.takeStall (some .moduleRead) (onPort 31) = .place ∧
    s.takeStall (some .moduleRead) (onPort 31) = .noStall ∧
    (doing running (.bufferRead 0x1000 j) true).takeStall (some .portQuery) { onPort 31 with index := 9 } = .noStall := by
  decide +kernel

/-- R135: the bytes of a read of three are acknowledged but for the last, which is answered with a NACK. -/
theorem test_tryActs :
    (⟨false, 0x50, 1, 2, 3, []⟩ : Transfer).tryActs = [.start, .send 0xA0, .send 1, .send 2, .restart, .send 0xA1,
      .receive, .ack, .receive, .ack, .receive, .nack, .stop] ∧
    (⟨true, 0x50, 1, 2, 2, [7, 8]⟩ : Transfer).tryActs = [.start, .send 0xA0, .send 1, .send 2, .send 7, .send 8, .stop] := by
  decide +kernel

theorem meets_enable :
    CanTake running .portEnable (onPort 31) ∧ Names (onPort 31) 31 ∧
    ({ running with we := { running.we with chassis := 0 } }).we.chassis = 0 ∧ running.we.chassis ≠ 0 ∧
    (running.port 31).st = .off ∧ (running.port 31).present = false ∧
    ((running.setPort 31 (Port.initial true)).port 31).present = true ∧
    ((running.setPort 31 (inState .held)).port 31).st ≠ .off := by decide +kernel

theorem meets_disableAndRestart :
    CanTake running .portDisable (onPort 31) ∧ CanTake running .portRestart (onPort 31) ∧ (running.port 31).st = .off ∧
    ((running.setPort 31 { inState .empty with present := false }).port 31).st = .empty ∧
    (let s := running.setPort 31 (inState .active)
     CanTake s .portDisable (onPort 31) ∧ CanTake s .portRestart (onPort 31) ∧ (s.port 31).st = .active) := by
  decide +kernel

theorem meets_query : CanTake running .portQuery (onPort 31) ∧ (onPort 31).bufLen.toNat < 128 ∧
    128 ≤ ({ onPort 31 with bufLen := 128 }).bufLen.toNat := by decide +kernel

theorem meets_laneTests :
    let s := running.setPort 31 { testing .active .lead .laneTest none 0 with laneSet := 3 }
    let r := { onPort 31 with bufLen := 96, argA := 0x103 }
    CanTake s .laneTest r ∧ CanTake running .laneTest r ∧ (running.port 31).st ≠ .active ∧ (s.port 31).st = .active ∧
    (s.port 31).agreed = some .g4 ∧ (∀ k : Fin 16, s.we.slots[k] = none) ∧
    (r.argA.extractLsb' 0 4 : LaneSet) &&& ~~~(s.port 31).laneSet = 0 ∧ (4#4) &&& ~~~(s.port 31).laneSet ≠ 0 ∧
    (onPort 31).bufLen.toNat < 96 ∧ 96 ≤ r.bufLen.toNat ∧
    ({ r with argB := 0xFFFF0000 }).argB.extractLsb' 16 16 ≠ 0#16 ∧ r.argB.extractLsb' 16 16 = 0#16 ∧
    (let t := testSlot (inState .active)
     CanTake t .laneTest { r with index := 0 } ∧ t.we.slots[0] = some ⟨aTag, 31, .laneTest⟩) := by decide +kernel

theorem meets_testStop :
    (inState .active).test = none ∧
    let s := testSlot (testing .active .lead .laneTest none 3)
    CanTake s .laneTestStop { onPort 31 with index := 0 } ∧
    (∃ T ∈ (s.port 31).test, T.kind = .laneTest ∧ T.ended = false) ∧ s.we.slots[0] = some ⟨aTag, 31, .laneTest⟩ := by
  decide +kernel

theorem meets_awaits :
    CanTake running .portAwait (onPort 31) ∧ (running.port 31).st = .off ∧
    ((running.setPort 31 (inState .signal)).port 31).st ≠ .active ∧
    let s := running.setPort 31 (inState .signal)
    let w := { s with we := { s.we with slots := s.we.slots.set 15 (some ⟨aTag, 31, .await (some 0)⟩) } }
    w.we.slots[15] = some ⟨aTag, 31, .await (some 0)⟩ ∧ s.we.slots[15] = none ∧ (w.port 31).present = true ∧
      CanTake w .portDisable { onPort 31 with index := 0 } := by decide +kernel

/-- Awaits of a port that enters ACTIVE by its COMMIT burst or a COMMIT word, and HELD by several events. -/
theorem meets_awaitedEntries :
    let waits := fun c : Port =>
      let s := running.setPort 31 c
      { s with we := { s.we with slots := s.we.slots.set 15 (some ⟨aTag, 31, .await none⟩) } }
    let lead := agreeing .confirm .lead .commit .locked
    let follow := agreeing .confirm .follow .result .locked
    (waits lead).we.slots[15] = some ⟨aTag, 31, .await none⟩ ∧ (waits lead).port 31 = lead ∧ lead.st = .confirm ∧
    lead.burst = some 0 ∧ lead.phase = .commit ∧ (waits follow).port 31 = follow ∧
    (follow.lane 0).beaconPart.map BeaconPart.sender = some ⟨62, 10, 0, 0⟩ ∧ byteAt (wordOf .commit 1 15).toList 0 = 0x13 ∧
    byteAt (wordOf .heldWord 1 15).toList 0 ≠ 0x13 ∧
    ([(agreeing .confirm .lead .heldWord .locked, Instr.burstSent 31),
      (follow, .trainingWord 31 0 (wordOf .heldWord 1 15)),
      (agreeing .agree .lead .propose .beacon, .phaseWaitExpiry 31),
      (agreeing .train .lead .training .training, .trainTimeout 31),
      (agreeing .agree .follow .hello .beacon, .beaconFrame 31 0 (frameOf .heldBeacon 1 4 12 15)),
      (lanesAll { inState .signal with phaseTimer := some 0 } (hears 62 10 0 0 0xFF), .signalWindowExpiry 31)].all
      fun (c, cmd) => ((after cmd (waits c)).map fun t => (t.port 31).st) = some .held) = true := by decide +kernel

theorem meets_moduleTransfers :
    let s := running.setPort 31 (inState .active)
    let r := { onPort 31 with bufLen := 64, argA := 0x400000D0 }
    CanTake s .moduleRead r ∧ CanTake s .moduleWrite r ∧ (r.argA.extractLsb' 24 8).toNat = 64 ∧
    ((onPort 31).argA.extractLsb' 24 8).toNat = 0 ∧ ((0x41000000#32).extractLsb' 24 8).toNat = 65 ∧
    64 ≤ r.bufLen.toNat ∧ (onPort 31).bufLen.toNat < 64 ∧ (running.port 31).present = false ∧
    (s.port 31).present = true ∧ s.bus.st = .idle ∧ NothingWaits s ∧ s.bus.stuck[31] = false ∧
    CanTake { busWith .transfer .port false false 1 with we := running.we } .moduleRead r ∧
    (let t := { s with bus := { s.bus with stuck := s.bus.stuck.set 31 true } }
     CanTake t .moduleRead r ∧ t.bus.stuck[31] = true) := by decide +kernel

theorem meets_planFlush :
    let s := (running.setPort 31 (inState .dark)).setPort 0 (inState .active)
    let r := { onPort 0 with argA := 1, argB := 9 }
    CanTake s .planFlush r ∧ r.argA.getLsbD 0 = true ∧ r.argA.getLsbD 1 = false ∧
    r.argB.extractLsb' 0 16 ≠ s.cache.epoch ∧ (s.port 31).st = .dark ∧ (s.port 0).st = .active ∧
    ({ r with argA := 2 }).argA.getLsbD 1 = true ∧ (onPort 0).argA.getLsbD 0 = false ∧
    (let c := { agreeing .signal .noRole .hello .beacon with verdict := .epochWait }
     CanTake (running.setPort 31 c) .planFlush r ∧ c.farIdentity c.identifiedSet = some ⟨62, 10⟩) := by decide +kernel

theorem meets_capsAndConfig : CanTake running .capsLimit (onPort 31) ∧ CanTake running .setConfig (onPort 31) ∧
    Names (onPort 31) 31 := by decide +kernel

theorem meets_gradeRule : (1#4) ≠ 0 ∧ hasGrade 1 .g1 = true ∧ Grade.g1.num ≤ Grade.g2.num ∧
    ∀ h ∈ Grade.all, hasGrade 8 h = true → Grade.g1.num < h.num := by decide +kernel

/-- A port with no module and one with a module under a plan; records from the far end in the usable set or none; and a
close with a lower common grade, and with none. -/
theorem meets_capsAndClose :
    (Port.initial true).ident = none ∧ (copperPort.ident.map ModuleId.kind) = some .passiveCopper ∧
    (let c := agreeing .agree .lead .propose .beacon
     c.role ≠ .self ∧ hasLane c.usable 0 = true ∧
     (∃ b ∈ (c.lane 0).beaconPart, c.far = some ⟨b.sender.chassis, b.sender.port⟩) ∧
     (∀ i, hasLane ({ c with usable := 0 }).usable i = false) ∧
     ({ c with agreed := some .g2 }).agreed = some .g2 ∧ hasGrade c.commonGrades .g1 = true ∧
     ∀ h ∈ Grade.all, ¬ h.num < Grade.g1.num) := by decide +kernel

theorem meets_testLengths :
    1 ≤ 65535 ∧ 3 * 10 ^ 6 ≤ Grade.g1.bitsPerMs * 1 ∧ Grade.g1.bitsPerMs * 1 < 3 * 10 ^ 7 ∧
    3 * 10 ^ 11 ≤ Grade.g1.bitsPerMs * 65535 ∧ Grade.g1.bitsPerMs * 65535 < 3 * 10 ^ 12 ∧ 13 ≤ max 6 (min 255 15) ∧
    (3 ≤ 281474976710655 ∧ 2 < 3 * (0 + 1)) := by decide +kernel

/-- The checks of verification, each met by a row of section 4.8 (test_verdicts). -/
theorem meets_verdicts :
    (p4 (Vector.replicate 4 (hears 61 4 0 7 4))).farIdentity 15 = some ⟨61, 4⟩ ∧
    (p4 (Vector.replicate 4 (hears 62 10 0 7 4))).farIdentity 15 = some ⟨62, 10⟩ ∧
    (p4 (Vector.replicate 4 (hears 62 10 0 7 4))).repeatsFarLane 15 = true ∧
    ((p4 (Vector.replicate 4 (hears 62 10 0 7 5))).seenIdentity 15).map (BeaconPart.seesUs ⟨4, 61, 7, .initial⟩) =
      some false := by
  decide +kernel

/-- The seen identity of a verified set whose lane 0 holds a record of another sender: lane 1's. -/
theorem meets_seenIdentity :
    let h := hears 62 10 0 7 5
    let stray := { h with far := some ⟨63, 1, 0, 7⟩ }
    let c := p4 #v[stray, h, h, h]
    (∃ b, SeenIdentity c 15 b ∧ b.seenPort = 5) ∧ c.farIdentity 15 = some ⟨63, 1⟩ ∧ hasLane 15 0 = true ∧
    (∀ j : LaneNo, ¬ j < 0) ∧ (c.lane 0).far = some ⟨63, 1, 0, 7⟩ ∧ ∀ j, ((p4 (Vector.replicate 4 Lane.initial)).lane j).far =
      none := by
  refine ⟨⟨_, (Port.seenIdentity_iff _ _ _).1 (by rfl), by rfl⟩, ?_⟩
  decide +kernel

theorem meets_framesReadBack : (inState .signal).phase = .hello ∧
    ({ inState .confirm with phase := .heldWord }).phase = .heldWord ∧ (7#16) ≠ 0 := by decide +kernel

theorem meets_invariants : OutputsMatchState State.reset ∧ AttemptsWithinBudget State.reset ∧
    CacheWellFormed State.reset ∧ ReportQueueMatchesRecords State.reset := by
  unfold OutputsMatchState AttemptsWithinBudget CacheWellFormed ReportQueueMatchesRecords
  decide +kernel

end Sys2Proof.Tests
end

/-!
# The port invariants (R1, R5, R29, R90, R151)

What an event may do to a port is said once, as `Port.KeptWithin`; every operation of a port controller, and with it every
command of the part, is shown to do no more.
-/

namespace Sys2Proof.Machine

/-! ## The port invariants at one port (R1, R5, R90) -/

/-- R1, R5 at one port: the sub-step and the two sideband outputs are as the port state gives them. -/
def Port.OutputsMatch (c : Port) : Prop :=
  (c.sub.isSome ↔ c.st = .identify) ∧ (c.lowPower = true ↔ c.st = .off ∨ c.st = .empty) ∧
  (c.modReset = true ↔ c.sub = some .resetting)

/-- What an event may do to a port under an attempt budget: it keeps R1 and R5, and attempts left rise no higher than
the budget. -/
def Port.KeptWithin (budget : Nat) (c d : Port) : Prop :=
  (c.OutputsMatch → d.OutputsMatch) ∧ d.left ≤ max c.left budget

theorem Port.KeptWithin.trans {b : Nat} {c d e : Port} (h : c.KeptWithin b d) (g : d.KeptWithin b e) :
    c.KeptWithin b e :=
  ⟨g.1 ∘ h.1, by have := h.2; have := g.2; omega⟩

/-- A change of other fields of the port. -/
theorem Port.KeptWithin.of_same {b : Nat} {c d : Port} (hst : d.st = c.st) (hsub : d.sub = c.sub)
    (hlow : d.lowPower = c.lowPower) (hres : d.modReset = c.modReset) (hleft : d.left = c.left) : c.KeptWithin b d := by
  unfold Port.KeptWithin Port.OutputsMatch
  rw [hst, hsub, hlow, hres, hleft]
  exact ⟨id, by omega⟩

theorem Port.KeptWithin.refl (b : Nat) (c : Port) : c.KeptWithin b c := .of_same rfl rfl rfl rfl rfl

/-- A new number of attempts left within the budget, whatever the port state. -/
theorem Port.KeptWithin.setLeft {b : Nat} {c d : Port} (hst : d.st = c.st) (hsub : d.sub = c.sub)
    (hlow : d.lowPower = c.lowPower) (hres : d.modReset = c.modReset) (hleft : d.left ≤ b) : c.KeptWithin b d := by
  unfold Port.KeptWithin Port.OutputsMatch
  rw [hst, hsub, hlow, hres]
  exact ⟨id, by omega⟩

/-- A change of the port that keeps it within the budget, after what has been done. -/
theorem Port.KeptWithin.mod {b : Nat} {c : Port} {d : Ctl} {f : Port → Port} (h : c.KeptWithin b d.port)
    (hf : ∀ p : Port, p.KeptWithin b (f p)) : c.KeptWithin b (d.mod f).port := h.trans (hf _)

/-- Commands to the lanes keep the port's own fields. -/
theorem Port.KeptWithin.commandAll {b : Nat} {c : Port} {d : Ctl} {self : PortNo} {f : LaneNo → LaneCmd}
    (h : c.KeptWithin b d.port) : c.KeptWithin b (d.commandAll self f).port := by
  rw [Ctl.commandAll_port]; exact h.trans (.of_same rfl rfl rfl rfl rfl)

theorem Port.KeptWithin.command {b : Nat} {c : Port} {d : Ctl} {self : PortNo} {i : LaneNo} {cmd : LaneCmd}
    (h : c.KeptWithin b d.port) : c.KeptWithin b (d.command self i cmd).port := by
  rw [Ctl.command_port]; exact h.trans (.of_same rfl rfl rfl rfl rfl)

/-! ## The entries into a state -/

/-- A change of state to any but IDENTIFY puts the outputs as R5 gives. -/
theorem Ctl.goTo_kept (b : Nat) (st : PortState) (h : st ≠ .identify) (c : Ctl) :
    c.port.KeptWithin b (c.goTo st).port := by
  rw [Ctl.goTo_port]
  refine ⟨fun _ => ?_, Nat.le_max_left _ _⟩
  cases st <;> simp_all [Port.OutputsMatch, PortState.lowPower]

theorem Ctl.enterOff_kept (b : Nat) (self : PortNo) (c : Ctl) : c.port.KeptWithin b (c.enterOff self).port := by
  unfold Ctl.enterOff
  exact (c.goTo_kept b .off (by decide)).commandAll.mod fun p => .setLeft rfl rfl rfl rfl (Nat.zero_le _)

theorem Ctl.enterEmpty_kept (b : Nat) (self : PortNo) (c : Ctl) : c.port.KeptWithin b (c.enterEmpty self).port := by
  unfold Ctl.enterEmpty
  exact (c.goTo_kept b .empty (by decide)).commandAll.mod fun p => .setLeft rfl rfl rfl rfl (Nat.zero_le _)

theorem Ctl.enterIdentify_kept (b : Nat) (self : PortNo) (restart : Bool) (c : Ctl) :
    c.port.KeptWithin b (c.enterIdentify self restart).port := by
  obtain ⟨hst, hsub, ⟨-, -, -, -, -, -, -, -, hleft, -⟩, -, -, hlow, hres, -⟩ := c.enterIdentify_is self restart
  exact ⟨fun _ => by simp [Port.OutputsMatch, hst, hsub, hlow, hres], by omega⟩

theorem Ctl.enterSignal_kept (env : Env) (c : Ctl) :
    c.port.KeptWithin env.cfg.attemptBudget (c.enterSignal env).port := by
  unfold Ctl.enterSignal
  dsimp only
  refine .commandAll (.mod (.mod (c.goTo_kept _ .signal (by decide)) fun p => ?_) fun p => ?_)
  · exact .setLeft rfl rfl rfl rfl le_rfl
  · exact .of_same rfl rfl rfl rfl rfl

theorem Ctl.returnToSignal_kept (b : Nat) (env : Env) (c : Ctl) : c.port.KeptWithin b (c.returnToSignal env).port := by
  unfold Ctl.returnToSignal
  exact (c.goTo_kept b .signal (by decide)).mod fun p => .of_same rfl rfl rfl rfl rfl

theorem Ctl.enterWait_kept (env : Env) (c : Ctl) : c.port.KeptWithin env.cfg.attemptBudget (c.enterWait env).port := by
  unfold Ctl.enterWait
  exact (c.goTo_kept _ .signal (by decide)).mod fun p => .setLeft rfl rfl rfl rfl le_rfl

theorem Ctl.enterDark_kept (b : Nat) (c : Ctl) : c.port.KeptWithin b c.enterDark.port := by
  unfold Ctl.enterDark
  exact (c.goTo_kept b .dark (by decide)).mod fun p => .of_same rfl rfl rfl rfl rfl

theorem Ctl.enterHeld_kept (b : Nat) (self : PortNo) (why : HoldReason) (c : Ctl) :
    c.port.KeptWithin b (c.enterHeld self why).port := by
  unfold Ctl.enterHeld
  dsimp only
  refine .commandAll (.mod (c.goTo_kept b .held (by decide)) fun p => ?_)
  exact .of_same rfl rfl rfl rfl rfl

theorem Ctl.enterActive_kept (env : Env) (c : Ctl) :
    c.port.KeptWithin env.cfg.attemptBudget (c.enterActive env).port := by
  unfold Ctl.enterActive
  dsimp only
  refine .commandAll (.mod (c.goTo_kept _ .active (by decide)) fun p => ?_)
  exact .setLeft rfl rfl rfl rfl le_rfl

theorem Ctl.enterTrain_kept (b : Nat) (env : Env) (c : Ctl) : c.port.KeptWithin b (c.enterTrain env).port := by
  have entry : c.port.KeptWithin b ((c.goTo .train).mod fun p =>
      { p.setPhase .training .noReason with phaseTimer := some env.cfg.trainTimeout }).port :=
    (c.goTo_kept b .train (by decide)).mod fun p => .of_same rfl rfl rfl rfl rfl
  unfold Ctl.enterTrain
  dsimp only
  split
  · exact entry
  · exact entry.commandAll

theorem Ctl.enterQualify_kept (b : Nat) (env : Env) (c : Ctl) : c.port.KeptWithin b (c.enterQualify env).port := by
  unfold Ctl.enterQualify
  refine (c.goTo_kept b .qualify (by decide)).mod fun p => ?_
  dsimp only
  split <;> exact .of_same rfl rfl rfl rfl rfl

/-! ## Agreement, training and confirmation -/

theorem Ctl.checkTrain_kept (b : Nat) (env : Env) (c : Ctl) : c.port.KeptWithin b (c.checkTrain env).port := by
  unfold Ctl.checkTrain
  split_ifs
  · exact c.enterQualify_kept b env
  · exact .refl b _

theorem Port.closeFailed_kept (b : Nat) (c : Port) (G : LaneSet) : c.KeptWithin b (c.closeFailed G) := by
  unfold Port.closeFailed
  split <;> exact .of_same rfl rfl rfl rfl rfl

theorem Ctl.decideFailed_kept (b : Nat) (env : Env) (G : LaneSet) (c : Ctl) :
    c.port.KeptWithin b (c.decideFailed env G).port := by
  unfold Ctl.decideFailed
  refine (Port.KeptWithin.refl b c.port).mod fun p => ?_
  have closed : p.KeptWithin b ({ p with good := G }.closeFailed G) :=
    Port.KeptWithin.trans (d := { p with good := G }) (.of_same rfl rfl rfl rfl rfl) (Port.closeFailed_kept b _ G)
  dsimp only
  split_ifs <;> exact closed.trans (.of_same rfl rfl rfl rfl rfl)

theorem Ctl.decide_kept (b : Nat) (env : Env) (F : LaneSet) (c : Ctl) :
    c.port.KeptWithin b (c.decide env F).port := by
  unfold Ctl.decide
  dsimp only
  split_ifs
  · exact .of_same rfl rfl rfl rfl rfl
  · exact c.decideFailed_kept b env _

theorem Ctl.enterConfirm_kept (b : Nat) (env : Env) (c : Ctl) : c.port.KeptWithin b (c.enterConfirm env).port := by
  have entry : c.port.KeptWithin b ((c.goTo .confirm).mod fun p =>
      { p.setPhase .result .noReason with good := p.ownGood, phaseTimer := some env.cfg.phaseWait }).port :=
    (c.goTo_kept b .confirm (by decide)).mod fun p => .of_same rfl rfl rfl rfl rfl
  unfold Ctl.enterConfirm
  dsimp only
  split
  · split
    · exact entry.trans (Ctl.decide_kept b env _ _)
    · exact entry
  · exact entry.trans (Ctl.decide_kept b env _ _)
  · exact entry
  · exact entry

theorem Port.computeCaps_kept (b : Nat) (c : Port) : c.KeptWithin b c.computeCaps := by
  unfold Port.computeCaps
  split <;> exact .of_same rfl rfl rfl rfl rfl

/-- The caps are computed anew on an entry into AGREE. -/
theorem Port.computeCaps_reset_kept (b : Nat) (c : Port) :
    c.KeptWithin b ({ c with agreed := none, laneSet := 0 }.computeCaps) :=
  Port.KeptWithin.trans (d := { c with agreed := none, laneSet := 0 }) (.of_same rfl rfl rfl rfl rfl)
    (Port.computeCaps_kept b _)

/-- The lanes and caps of a lead or SELF port that enters AGREE, before step 2 of R97. -/
def Ctl.openAgree (env : Env) (c : Ctl) : Ctl :=
  ((c.goTo .agree).commandAll env.self (c.goTo .agree).port.beaconing).mod fun p =>
    { p with agreed := none, laneSet := 0 }.computeCaps

/-- One attempt is taken from those left (R97). -/
def Port.spendAttempt (c : Port) : Port := { c with attempt := nextAttempt c.attempt, left := c.left - 1 }

/-- The grade and the lane set of the attempt are chosen (R97). -/
def Port.choose (S : LaneSet) (c : Port) : Port :=
  { c with agreed := gradeRule c.commonGrades c.nextGrade, laneSet := S }

/-- The lead proposes (R97). -/
def Port.propose (env : Env) (c : Port) : Port :=
  { c.setPhase .propose .noReason with phaseTimer := some env.cfg.phaseWait }

/-- The entry into AGREE of a lead or SELF port, by the steps of R97. -/
theorem Ctl.enterAgreeLead_steps (env : Env) (c : Ctl) :
    c.enterAgreeLead env =
      if (c.openAgree env).port.left = 0 then
        (c.openAgree env).enterHeld env.self
          (if (c.openAgree env).port.qualReached then .qualifyFailed else .noAgreement)
      else
        let d := (c.openAgree env).mod Port.spendAttempt
        if d.port.commonGrades = 0 ∨ d.port.commonWidths = 0 then d.enterHeld env.self .noAgreement
        else match laneSetRule d.port.commonWidths d.port.usable with
          | none => d.enterHeld env.self .noUsableLanes
          | some S =>
            if (d.mod (Port.choose S)).port.role = .self then (d.mod (Port.choose S)).enterTrain env
            else (d.mod (Port.choose S)).mod (Port.propose env) := rfl

theorem Ctl.openAgree_kept (b : Nat) (env : Env) (c : Ctl) : c.port.KeptWithin b (c.openAgree env).port :=
  .mod (.commandAll (c.goTo_kept b .agree (by decide))) (Port.computeCaps_reset_kept b)

theorem Ctl.enterAgreeLead_kept (b : Nat) (env : Env) (c : Ctl) :
    c.port.KeptWithin b (c.enterAgreeLead env).port := by
  rw [Ctl.enterAgreeLead_steps]
  refine (c.openAgree_kept b env).trans ?_
  generalize c.openAgree env = d
  have spent : d.port.KeptWithin b (d.mod Port.spendAttempt).port :=
    ⟨id, by simp only [Ctl.mod_port, Port.spendAttempt]; omega⟩
  have chosen : ∀ S, d.port.KeptWithin b ((d.mod Port.spendAttempt).mod (Port.choose S)).port :=
    fun S => .mod spent fun p => .of_same rfl rfl rfl rfl rfl
  dsimp only
  split
  · exact d.enterHeld_kept b _ _
  · split
    · exact .trans spent (Ctl.enterHeld_kept b _ _ _)
    · split
      · exact .trans spent (Ctl.enterHeld_kept b _ _ _)
      · split
        · exact .trans (chosen _) (Ctl.enterTrain_kept b env _)
        · exact .mod (chosen _) fun p => .of_same rfl rfl rfl rfl rfl

theorem Port.examine_kept (b : Nat) (env : Env) (a g : Byte) (S : LaneSet) (c : Port) :
    c.KeptWithin b (c.examine env a g S) := by
  unfold Port.examine
  dsimp only
  split
  · split_ifs <;> exact .of_same rfl rfl rfl rfl rfl
  · exact .of_same rfl rfl rfl rfl rfl

theorem Ctl.enterAgreeFollow_kept (b : Nat) (env : Env) (c : Ctl) :
    c.port.KeptWithin b (c.enterAgreeFollow env).port := by
  unfold Ctl.enterAgreeFollow
  dsimp only
  refine .mod (.mod (.commandAll (c.goTo_kept b .agree (by decide))) fun p => ?_) fun p => ?_
  · exact (Port.computeCaps_reset_kept b p).trans (.of_same rfl rfl rfl rfl rfl)
  · split
    · exact Port.examine_kept b env _ _ _ _
    · exact .refl b _

theorem Ctl.enterAgree_kept (b : Nat) (env : Env) (c : Ctl) : c.port.KeptWithin b (c.enterAgree env).port := by
  unfold Ctl.enterAgree
  split
  · exact c.enterAgreeLead_kept b env
  · exact c.enterAgreeLead_kept b env
  · exact c.enterAgreeFollow_kept b env
  · exact .refl b _

theorem Ctl.attemptFailed_kept (env : Env) (c : Ctl) :
    c.port.KeptWithin env.cfg.attemptBudget (c.attemptFailed env).port := by
  have closed : c.port.KeptWithin env.cfg.attemptBudget ((c.mod fun p => p.closeFailed 0).enterAgreeLead env).port :=
    ((Port.KeptWithin.refl _ c.port).mod fun p => p.closeFailed_kept _ 0).trans (Ctl.enterAgreeLead_kept _ env _)
  unfold Ctl.attemptFailed
  split
  · exact closed
  · exact closed
  · exact c.enterSignal_kept env
  · exact c.enterSignal_kept env

/-! ## What a port hears in an attempt -/

theorem Ctl.leadHears_kept (b : Nat) (env : Env) (r : NegRecord) (x : BeaconPart) (c : Ctl) :
    c.port.KeptWithin b (c.leadHears env r x).port := by
  unfold Ctl.leadHears
  split_ifs
  · exact c.enterHeld_kept b _ _
  · exact .of_same rfl rfl rfl rfl rfl
  · exact .refl b _
  · exact c.enterHeld_kept b _ _
  · exact .refl b _

theorem Ctl.followHears_kept (b : Nat) (env : Env) (r : NegRecord) (x : BeaconPart) (c : Ctl) :
    c.port.KeptWithin b (c.followHears env r x).port := by
  unfold Ctl.followHears
  split_ifs
  · exact c.enterHeld_kept b _ _
  · exact .refl b _
  · exact Port.examine_kept b env _ _ _ _
  · exact c.enterTrain_kept b env
  · exact .refl b _

theorem Ctl.agreeHears_kept (b : Nat) (env : Env) (r : NegRecord) (c : Ctl) :
    c.port.KeptWithin b (c.agreeHears env r).port := by
  unfold Ctl.agreeHears
  split
  · exact .refl b _
  · split_ifs
    · split
      · exact c.leadHears_kept b env r _
      · exact c.followHears_kept b env r _
      · exact .refl b _
      · exact .refl b _
    · exact .refl b _

theorem Port.recordWordMask_kept (b : Nat) (F : LaneSet) (c : Port) : c.KeptWithin b (c.recordWordMask F) := by
  unfold Port.recordWordMask
  split_ifs
  · exact .of_same rfl rfl rfl rfl rfl
  · exact .refl b _

theorem Ctl.wordHears_kept (env : Env) (r : NegRecord) (c : Ctl) :
    c.port.KeptWithin env.cfg.attemptBudget (c.wordHears env r).port := by
  have masked : c.port.KeptWithin env.cfg.attemptBudget (c.mod (Port.recordWordMask r.good)).port :=
    (Port.KeptWithin.refl _ c.port).mod fun p => p.recordWordMask_kept _ _
  unfold Ctl.wordHears
  split
  · split
    · exact c.enterHeld_kept _ _ _
    · exact c.enterHeld_kept _ _ _
    · exact .trans masked (Ctl.enterAgreeFollow_kept _ env _)
    · split_ifs
      · exact .trans masked (Ctl.enterActive_kept env _)
      · exact .refl _ _
    · split_ifs
      · exact c.decide_kept _ env _
      · exact .refl _ _
    · split_ifs
      · exact .of_same rfl rfl rfl rfl rfl
      · exact .refl _ _
    · split_ifs
      · exact .of_same rfl rfl rfl rfl rfl
      · exact .refl _ _
    · exact .refl _ _
  · exact .refl _ _

/-! ## Timers, bursts and lock losses of an attempt -/

theorem Ctl.burstDone_kept (env : Env) (c : Ctl) :
    c.port.KeptWithin env.cfg.attemptBudget (c.burstDone env).port := by
  unfold Ctl.burstDone
  split
  · exact c.enterTrain_kept _ env
  · exact c.enterHeld_kept _ _ _
  · exact c.enterActive_kept env
  · exact c.enterAgreeLead_kept _ env
  · exact c.enterHeld_kept _ _ _
  · exact .refl _ _

theorem Ctl.phaseWaitOver_kept (env : Env) (c : Ctl) :
    c.port.KeptWithin env.cfg.attemptBudget (c.phaseWaitOver env).port := by
  have closing : c.port.KeptWithin env.cfg.attemptBudget (match c.port.phase with
      | .retry => c.enterAgreeLead env
      | .heldWord => c.enterHeld env.self c.port.phaseReason
      | _ => c.decideFailed env 0).port := by
    split
    · exact c.enterAgreeLead_kept _ env
    · exact c.enterHeld_kept _ _ _
    · exact c.decideFailed_kept _ env 0
  unfold Ctl.phaseWaitOver
  split
  · split_ifs
    · exact c.enterHeld_kept _ _ _
    · exact c.enterSignal_kept env
  · exact c.enterAgreeLead_kept _ env
  · exact c.enterAgreeLead_kept _ env
  · exact c.enterAgreeFollow_kept _ env
  · exact closing
  · exact closing
  · exact .refl _ _

theorem Ctl.trainOver_kept (env : Env) (c : Ctl) :
    c.port.KeptWithin env.cfg.attemptBudget (c.trainOver env).port := by
  have failed : ∀ (m : LaneSet) (l : List LaneNo) (d : Ctl), d.port.KeptWithin env.cfg.attemptBudget
      (l.foldl (fun c i => if hasLane m i then c.command env.self i .failed else c) d).port := by
    intro m l
    induction l with
    | nil => exact fun d => .refl _ _
    | cons i l ih =>
      intro d
      rw [List.foldl_cons]
      refine .trans ?_ (ih _)
      split_ifs
      · exact (Port.KeptWithin.refl _ d.port).command
      · exact .refl _ _
  unfold Ctl.trainOver
  dsimp only
  split_ifs
  · exact (failed _ _ c).trans (Ctl.enterQualify_kept _ env _)
  · exact (failed _ _ c).trans (Ctl.attemptFailed_kept env _)

theorem Ctl.bringUpOver_kept (b : Nat) (env : Env) (c : Ctl) : c.port.KeptWithin b (c.bringUpOver env).port :=
  ((Port.KeptWithin.refl b c.port).mod (f := Port.closeTest) fun _ => .of_same rfl rfl rfl rfl rfl).trans
    (Ctl.enterConfirm_kept b env _)

theorem Ctl.lockLossInAttempt_kept (env : Env) (c : Ctl) :
    c.port.KeptWithin env.cfg.attemptBudget (c.lockLossInAttempt env).port := by
  unfold Ctl.lockLossInAttempt
  split
  · split
    · exact c.burstDone_kept env
    · exact c.attemptFailed_kept env
  · split
    · exact c.checkTrain_kept _ env
    · split_ifs
      · exact c.bringUpOver_kept _ env
      · exact .refl _ _
    · exact .refl _ _

/-! ## Tests and drops -/

theorem Ctl.endLaneTest_kept (b : Nat) (st : Status) (f : PortTest → LaneNo → TestRecord → LaneVerdict) (c : Ctl) :
    c.port.KeptWithin b (c.endLaneTest st f).port := by
  unfold Ctl.endLaneTest
  split
  · exact .refl b _
  · exact .of_same rfl rfl rfl rfl rfl

/-- R22: the drop is counted. -/
def Port.countDrop (c : Port) : Port := { c with drops := min (c.drops + 1) 255 }

/-- A drop on lane i is counted and ends a running LANE_TEST: lane i gets LOST, the others what a stop gives (R128). -/
def Ctl.endByDrop (i : LaneNo) (c : Ctl) : Ctl :=
  (c.mod Port.countDrop).endLaneTest .portLost fun t j r => if j = i then .lost else t.stopVerdict r

theorem Ctl.drop_steps (env : Env) (i : LaneNo) (c : Ctl) :
    c.drop env i =
      if c.port.st = .active ∧ hasLane c.port.laneSet i then
        if (c.endByDrop i).port.holdOnDrop then (c.endByDrop i).enterHeld env.self .linkDropped
        else if env.cfg.dropLimit ≠ 0 ∧ env.cfg.dropLimit ≤ (c.endByDrop i).port.drops then
          (c.endByDrop i).enterHeld env.self .flapping
        else (c.endByDrop i).enterSignal env
      else c := rfl

theorem Ctl.drop_kept (env : Env) (i : LaneNo) (c : Ctl) :
    c.port.KeptWithin env.cfg.attemptBudget (c.drop env i).port := by
  have counted : c.port.KeptWithin env.cfg.attemptBudget (c.endByDrop i).port := by
    refine .trans ?_ (Ctl.endLaneTest_kept _ _ _ _)
    exact .of_same rfl rfl rfl rfl rfl
  rw [Ctl.drop_steps]
  split_ifs
  · exact .trans counted (Ctl.enterHeld_kept _ _ _ _)
  · exact .trans counted (Ctl.enterHeld_kept _ _ _ _)
  · exact .trans counted (Ctl.enterSignal_kept env _)
  · exact .refl _ _

/-! ## Verification -/

theorem Ctl.proceed_kept (env : Env) (waiting : Bool) (v : Verdict) (c : Ctl) :
    c.port.KeptWithin env.cfg.attemptBudget (c.proceed env waiting v).port := by
  unfold Ctl.proceed
  split_ifs
  · refine .trans ?_ (Ctl.enterAgree_kept _ env _)
    exact .setLeft rfl rfl rfl rfl le_rfl
  · exact c.enterAgree_kept _ env
  · exact c.enterWait_kept env
  · exact .refl _ _
  · exact .refl _ _
  · exact .of_same rfl rfl rfl rfl rfl
  · exact c.enterHeld_kept _ _ _

theorem Ctl.verify_kept (env : Env) (vs : LaneSet) (c : Ctl) :
    c.port.KeptWithin env.cfg.attemptBudget (c.verify env vs).port := by
  unfold Ctl.verify
  split
  · exact .refl _ _
  · refine .trans ?_ (Ctl.proceed_kept env _ _ _)
    exact .of_same rfl rfl rfl rfl rfl

theorem Ctl.arrival_kept (env : Env) (mark : ArrivalMark) (r : NegRecord) (c : Ctl) :
    c.port.KeptWithin env.cfg.attemptBudget (c.arrival env mark r).port := by
  unfold Ctl.arrival
  split
  · unfold Ctl.waitHears Ctl.signalHears
    split_ifs
    · exact c.enterHeld_kept _ _ _
    · exact .refl _ _
    · exact c.verify_kept env _
    · exact c.enterHeld_kept _ _ _
    · exact c.verify_kept env _
    · exact .refl _ _
  · unfold Ctl.darkHears
    dsimp only
    split_ifs
    · exact (c.returnToSignal_kept _ env).trans (Ctl.verify_kept env _ _)
    · exact c.returnToSignal_kept _ env
    · exact .refl _ _
  · exact c.agreeHears_kept _ env r
  · unfold Ctl.heldHears
    split_ifs
    · exact .refl _ _
    · exact c.verify_kept env _
    · exact c.enterSignal_kept env
    · exact .refl _ _
  all_goals exact .refl _ _

theorem Ctl.windowOver_kept (env : Env) (c : Ctl) :
    c.port.KeptWithin env.cfg.attemptBudget (c.windowOver env).port := by
  unfold Ctl.windowOver
  dsimp only
  split
  · exact c.enterDark_kept _
  · split_ifs
    · exact c.verify_kept env _
    · refine .trans ?_ (Ctl.enterHeld_kept _ _ _ _)
      exact .of_same rfl rfl rfl rfl rfl

theorem Ctl.epochChange_kept (env : Env) (c : Ctl) :
    c.port.KeptWithin env.cfg.attemptBudget (c.epochChange env).port := by
  unfold Ctl.epochChange
  split
  · split_ifs
    · exact c.verify_kept env _
    · exact c.enterIdentify_kept _ _ _
  · exact c.enterIdentify_kept _ _ _
  · exact c.enterIdentify_kept _ _ _
  all_goals exact .refl _ _

/-! ## The events of the rows -/

theorem Ctl.goOn_kept (env : Env) (c : Ctl) : c.port.KeptWithin env.cfg.attemptBudget (c.goOn env).port := by
  unfold Ctl.goOn
  refine .trans ?_ (Ctl.enterSignal_kept env _)
  exact Port.computeCaps_kept _ _

theorem Ctl.raisePresence_kept (b : Nat) (env : Env) (c : Ctl) : c.port.KeptWithin b (c.raisePresence env).port := by
  unfold Ctl.raisePresence
  dsimp only
  split_ifs
  · refine .trans ?_ (Ctl.enterIdentify_kept b _ _ _)
    exact .of_same rfl rfl rfl rfl rfl
  · exact .of_same rfl rfl rfl rfl rfl

theorem Ctl.gainLock_kept (b : Nat) (i : LaneNo) (env : Env) (c : Ctl) :
    c.port.KeptWithin b (c.gainLock i env).port := by
  unfold Ctl.gainLock
  refine .trans ?_ (Ctl.checkTrain_kept b env _)
  exact .of_same rfl rfl rfl rfl rfl

theorem Port.loseRunning_kept (b : Nat) (i : LaneNo) (c : Port) : c.KeptWithin b (c.loseRunning i) := by
  unfold Port.loseRunning
  split
  · exact .of_same rfl rfl rfl rfl rfl
  · exact .refl b _

theorem Ctl.loseLock_kept (i : LaneNo) (env : Env) (c : Ctl) :
    c.port.KeptWithin env.cfg.attemptBudget (c.loseLock i env).port := by
  have failed : c.port.KeptWithin env.cfg.attemptBudget
      ((c.mod fun p => p.loseRunning i).command env.self i .failed).port :=
    .command (.mod (.refl _ _) fun p => p.loseRunning_kept _ i)
  unfold Ctl.loseLock
  dsimp only
  split_ifs
  · exact .trans failed (Ctl.lockLossInAttempt_kept env _)
  · exact failed

theorem Ctl.hearBeacon_kept (i : LaneNo) (id : Ident) (r : NegRecord) (env : Env) (c : Ctl) :
    c.port.KeptWithin env.cfg.attemptBudget (c.hearBeacon i id r env).port := by
  unfold Ctl.hearBeacon
  dsimp only
  split_ifs
  · refine .trans ?_ (Ctl.arrival_kept env _ r _)
    exact .of_same rfl rfl rfl rfl rfl
  · exact .of_same rfl rfl rfl rfl rfl

theorem Ctl.hearWord_kept (i : LaneNo) (r : NegRecord) (env : Env) (c : Ctl) :
    c.port.KeptWithin env.cfg.attemptBudget (c.hearWord i r env).port := by
  unfold Ctl.hearWord
  refine .trans ?_ (Ctl.wordHears_kept env r _)
  exact .of_same rfl rfl rfl rfl rfl

theorem Ctl.laneFailed_kept (b : Nat) (t : PortTest) (env : Env) (c : Ctl) :
    c.port.KeptWithin b (c.laneFailed t env).port := by
  unfold Ctl.laneFailed
  split
  · split_ifs
    · exact c.bringUpOver_kept b env
    · exact .refl b _
  · split_ifs
    · exact .trans (c.endLaneTest_kept b _ _) (Ctl.enterHeld_kept b _ _ _)
    · exact c.endLaneTest_kept b _ _
    · exact .refl b _

theorem Ctl.countErrors_kept (b : Nat) (i : LaneNo) (n : Nat) (env : Env) (c : Ctl) :
    c.port.KeptWithin b (c.countErrors i n env).port := by
  unfold Ctl.countErrors Ctl.addToTest
  dsimp only
  split
  · split_ifs
    · refine .trans ?_ (Ctl.laneFailed_kept b _ env _)
      exact .of_same rfl rfl rfl rfl rfl
    · exact .of_same rfl rfl rfl rfl rfl
  · exact .of_same rfl rfl rfl rfl rfl

theorem Ctl.endBurst_kept (env : Env) (c : Ctl) :
    c.port.KeptWithin env.cfg.attemptBudget (c.endBurst env).port := by
  unfold Ctl.endBurst
  refine .trans ?_ (Ctl.burstDone_kept env _)
  exact .of_same rfl rfl rfl rfl rfl

/-- The phase timer, expired, is stopped before the port acts. -/
theorem Ctl.stopPhase_kept (b : Nat) (c : Ctl) : c.port.KeptWithin b c.stopPhase.port :=
  .of_same rfl rfl rfl rfl rfl

theorem Port.passRunning_kept (b : Nat) (c : Port) : c.KeptWithin b c.passRunning := by
  unfold Port.passRunning
  split
  · exact .refl b _
  · exact .of_same rfl rfl rfl rfl rfl

/-! ## The ports of the whole part -/

/-- The configuration stands, and every port is kept within its attempt budget. -/
def State.PortsKept (s t : State) : Prop :=
  t.we.cfg = s.we.cfg ∧ ∀ p, (s.port p).KeptWithin s.we.cfg.attemptBudget (t.port p)

namespace State.PortsKept

variable {s t u : State}

theorem trans (h : s.PortsKept t) (g : t.PortsKept u) : s.PortsKept u :=
  ⟨g.1.trans h.1, fun p => (h.2 p).trans (h.1 ▸ g.2 p)⟩

/-- No port changes. -/
theorem of_ports (hc : t.we.cfg = s.we.cfg) (hp : t.ports = s.ports) : s.PortsKept t :=
  ⟨hc, fun p => by rw [State.port_congr hp]; exact .refl _ _⟩

theorem refl (s : State) : s.PortsKept s := of_ports rfl rfl

/-- What is done after a change that no port and no configuration takes part in. -/
theorem after (g : t.PortsKept u) (hc : t.we.cfg = s.we.cfg) (hp : t.ports = s.ports) : s.PortsKept u :=
  (of_ports hc hp).trans g

/-- What leaves the ports and the engine's configuration alone. -/
theorem of_shared (h : SharedFrame s t) (hp : t.ports = s.ports) : s.PortsKept t := by
  obtain ⟨-, -, -, -, ⟨-, -, -, -, -, hcfg, -⟩, -⟩ := h
  exact of_ports hcfg hp

/-- A command that acts under a condition, and else changes nothing. -/
theorem onlyIf {P : Prop} [Decidable P] (h : P → s.PortsKept t) : s.PortsKept (if P then t else s) := by
  split_ifs with hP
  · exact h hP
  · exact refl s

theorem setPort {p : PortNo} {c : Port} (h : (s.port p).KeptWithin s.we.cfg.attemptBudget c) :
    s.PortsKept (s.setPort p c) := by
  refine ⟨rfl, fun q => ?_⟩
  by_cases hq : q = p
  · subst hq; rw [State.port_setPort]; exact h
  · rw [State.port_setPort_of_ne _ _ _ _ hq]; exact .refl _ _

theorem settle {p : PortNo} {c : Ctl} (h : (s.port p).KeptWithin s.we.cfg.attemptBudget c.port) :
    s.PortsKept (s.settle p c) := by
  obtain ⟨-, -, -, -, ⟨-, -, -, -, -, hcfg, -⟩, -⟩ := SharedFrame.settle s p c
  refine ⟨hcfg, fun q => ?_⟩
  by_cases hq : q = p
  · subst hq; rw [State.port_settle]; exact h
  · rw [State.port_settle_of_ne _ _ _ _ hq]; exact .refl _ _

theorem foldl {β : Type} (f : State → β → State) (h : ∀ (s : State) (b : β), s.PortsKept (f s b)) (l : List β) (s : State) :
    s.PortsKept (l.foldl f s) := by
  induction l generalizing s with
  | nil => exact refl s
  | cons b l ih => exact (h s b).trans (ih _)

/-- One event of one port, with the drops that follow an entry into ACTIVE. -/
theorem runPort {p : PortNo} {f : Env → Ctl → Ctl}
    (h : ∀ (env : Env) (c : Ctl), c.port.KeptWithin env.cfg.attemptBudget (f env c).port) : s.PortsKept (s.runPort p f) := by
  have event : s.PortsKept (s.settle p (f (s.env p) (Ctl.start (s.port p)))) :=
    settle (h (s.env p) (Ctl.start (s.port p)))
  unfold State.runPort
  dsimp only
  split_ifs
  · refine event.trans (foldl _ (fun t i => ?_) _ _)
    split_ifs
    · exact settle (Ctl.drop_kept (t.env p) i (Ctl.start (t.port p)))
    · exact refl t
  · exact event

end State.PortsKept

open State (PortsKept)

theorem State.triggerScan_portsKept (s : State) : s.PortsKept s.triggerScan :=
  .of_shared (.triggerScan s) (by simp)

theorem State.triggerReport_portsKept (s : State) : s.PortsKept s.triggerReport :=
  .of_shared (.triggerReport s) (by simp)

theorem State.meetStall_portsKept (s : State) (f : Stall → Bool) : s.PortsKept (s.meetStall f) :=
  .of_shared (.meetStall s f) (by simp)

/-! ## Plans and fills -/

theorem State.holdPort_portsKept (s : State) (p : PortNo) (why : HoldReason) : s.PortsKept (s.holdPort p why) :=
  .runPort fun env c => c.enterHeld_kept _ env.self why

theorem State.unplannedPort_portsKept (s : State) (p : PortNo) : s.PortsKept (s.unplannedPort p) := by
  refine .runPort fun env c => ?_
  have planned : c.port.KeptWithin env.cfg.attemptBudget (c.mod fun q => { q with plan := .unplanned }).port :=
    .of_same rfl rfl rfl rfl rfl
  dsimp only
  split
  · exact .trans planned (Ctl.goOn_kept env _)
  · exact .trans planned (Ctl.enterHeld_kept _ _ _ _)

theorem State.givePlan_portsKept (s : State) (p : PortNo) (e : List Byte) : s.PortsKept (s.givePlan p e) := by
  unfold State.givePlan
  split
  · refine .runPort fun env c => ?_
    refine .trans ?_ (Ctl.goOn_kept env _)
    exact .of_same rfl rfl rfl rfl rfl
  · exact s.unplannedPort_portsKept p

theorem State.lookup_portsKept (s : State) (p : PortNo) : s.PortsKept (s.lookup p) := by
  unfold State.lookup
  split
  · split
    · exact s.unplannedPort_portsKept p
    · split
      · exact .after (State.givePlan_portsKept _ _ _) rfl rfl
      · dsimp only
        split <;> exact .of_ports rfl rfl
  · exact s.holdPort_portsKept p _

theorem State.failFills_portsKept (s : State) : s.PortsKept s.failFills := by
  unfold State.failFills forPorts
  refine .foldl _ (fun t p => ?_) _ _
  dsimp only
  split
  · exact .after (State.holdPort_portsKept _ _ _) rfl rfl
  · exact .refl t

theorem State.epochChanges_portsKept (s : State) : s.PortsKept s.epochChanges := by
  unfold State.epochChanges forPorts
  exact .foldl _ (fun t p => .runPort Ctl.epochChange_kept) _ _

/-! ## The module bus -/

/-- READING gives way to PLANNING: module reset stands deasserted in both. -/
theorem State.identityOutcome_portsKept (s : State) (p : PortNo) (o : BusOutcome) :
    s.PortsKept (s.identityOutcome p o) := by
  unfold State.identityOutcome
  split
  · rename_i reading
    split
    · split
      · exact s.holdPort_portsKept p _
      · exact s.holdPort_portsKept p _
      · refine .trans (.setPort ?_) (State.lookup_portsKept _ p)
        refine ⟨?_, Nat.le_max_left _ _⟩
        rintro ⟨-, hlow, hres⟩
        simp_all [Port.OutputsMatch]
    · exact s.holdPort_portsKept p _
  · exact .refl s

theorem State.complete_portsKept (s : State) (i : Nat) (b : Bool) (l : List MemOp) (st : Status) (r : Nat) :
    s.PortsKept (s.complete i b l st r) := .of_ports (by simp) (by simp)

theorem State.completeReq_portsKept (s : State) (r : Request) (l : List MemOp) (st : Status) (n : Nat) :
    s.PortsKept (s.completeReq r l st n) := .of_ports (by simp) (by simp)

theorem State.jobOutcome_portsKept (s : State) (tag : JobTag) (x : Transfer) (o : BusOutcome) :
    s.PortsKept (s.jobOutcome tag x o) := by
  unfold State.jobOutcome
  exact .trans (s.complete_portsKept _ _ _ _ _) (State.meetStall_portsKept _ _)

theorem State.deliver_portsKept (s : State) (r : Requester) (p : PortNo) (x : Transfer) (o : BusOutcome) :
    s.PortsKept (s.deliver r p x o) := by
  cases r with
  | port => exact s.identityOutcome_portsKept p o
  | job tag => exact s.jobOutcome_portsKept tag x o

/-- A grant at the arbiter, with the scan that a freed queue place triggers (R142, R143). -/
def State.takeGrant (s : State) (g : Grant) : State :=
  let t := { s with arb := s.arb.granted g }
  match g with
  | .job _ => t.meetStall (fun st => st = Stall.place)
  | .port _ => t

/-- A transaction that ends as it is granted (R134). -/
def State.endAtOnce (s : State) (x : Txn) (st : Status) : State :=
  (s.emit [.busStop]).deliver x.requester x.port x.xfer ⟨st, 0, 0, []⟩

/-- A transaction that goes to the bus (R134, R135). -/
def State.beginTxn (s : State) (x : Txn) : State :=
  { s with bus := { s.bus with
      st := .transfer, current := some x, selected := some x.port, watchdog := some x.watchdogMs } }.emit
    [.busTry x.xfer.tryActs]

/-- One grant: at the arbiter, and then at once or at the bus (R134). -/
theorem State.grant_steps (s : State) (g : Grant) :
    s.grant g =
      let t := s.takeGrant g
      let x := g.txn t.we.cfg
      if x.requester ≠ .port ∧ !(t.port x.port).present then t.endAtOnce x .noModule
      else if t.bus.stuck[x.port] then t.endAtOnce x .busStuck
      else t.beginTxn x := rfl

theorem State.takeGrant_portsKept (s : State) (g : Grant) : s.PortsKept (s.takeGrant g) := by
  unfold State.takeGrant
  split
  · exact .after (State.meetStall_portsKept _ _) rfl rfl
  · exact .of_ports rfl rfl

theorem State.endAtOnce_portsKept (s : State) (x : Txn) (st : Status) : s.PortsKept (s.endAtOnce x st) := by
  unfold State.endAtOnce
  exact .after (State.deliver_portsKept _ _ _ _ _) rfl rfl

theorem State.grant_portsKept (s : State) (g : Grant) : s.PortsKept (s.grant g) := by
  have taken := s.takeGrant_portsKept g
  rw [State.grant_steps]
  dsimp only
  split_ifs
  · exact taken.trans (State.endAtOnce_portsKept _ _ _)
  · exact taken.trans (State.endAtOnce_portsKept _ _ _)
  · exact taken.trans (.of_ports rfl rfl)

theorem State.grantLoop_portsKept (n : Nat) (s : State) : s.PortsKept (State.grantLoop n s) := by
  induction n generalizing s with
  | zero => exact .refl s
  | succ n ih =>
    unfold State.grantLoop
    split
    · split
      · exact .refl s
      · exact (s.grant_portsKept _).trans (ih _)
    · exact .refl s

theorem State.postRequest_portsKept (s : State) (p : PortNo) : s.PortsKept (s.postRequest p) := by
  unfold State.postRequest
  exact .after (State.grantLoop_portsKept _ _) rfl rfl

theorem State.queueJob_portsKept (s : State) (j : PassJob) : s.PortsKept (s.queueJob j) := by
  unfold State.queueJob
  exact .after (State.grantLoop_portsKept _ _) rfl rfl

theorem State.txnOutcome_portsKept (s : State) (t : Txn) (st : Status) (d : List Byte) :
    s.PortsKept (s.txnOutcome t st d) := by
  unfold State.txnOutcome
  split
  · exact .refl s
  · split
    · exact s.deliver_portsKept _ _ _ _
    · split <;> exact s.deliver_portsKept _ _ _ _

theorem State.endTxn_portsKept (s : State) (t : Txn) (st : Status) (d : List Byte) : s.PortsKept (s.endTxn t st d) := by
  unfold State.endTxn State.grants
  refine .trans ?_ (State.grantLoop_portsKept _ _)
  exact .after (State.txnOutcome_portsKept _ _ _ _) rfl rfl

/-! ## Engine states -/

theorem State.abandonJob_portsKept (s : State) (k : Fin 16) : s.PortsKept (s.abandonJob k) := by
  unfold State.abandonJob
  split
  · exact .refl s
  · dsimp only
    split
    · refine .after (.setPort ?_) rfl rfl
      exact .of_same rfl rfl rfl rfl rfl
    · exact .of_ports rfl rfl

theorem State.abandonWork_portsKept (s : State) : s.PortsKept s.abandonWork := by
  unfold State.abandonWork
  refine .trans (.foldl State.abandonJob State.abandonJob_portsKept allSlots s) ?_
  generalize allSlots.foldl State.abandonJob s = t
  exact .of_ports rfl rfl

theorem State.enterStopped_portsKept (s : State) : s.PortsKept s.enterStopped := by
  unfold State.enterStopped
  exact .after (State.failFills_portsKept _) rfl rfl

theorem State.enterHalted_portsKept (s : State) (cause : HaltCause) : s.PortsKept (s.enterHalted cause) := by
  unfold State.enterHalted
  refine s.abandonWork_portsKept.trans ?_
  generalize s.abandonWork = t
  exact .after (State.failFills_portsKept _) rfl rfl

theorem State.setRun_portsKept (s : State) : s.PortsKept s.setRun := by
  unfold State.setRun
  split
  · exact .of_ports rfl rfl
  · exact .of_ports rfl rfl
  · exact .after ((State.triggerReport_portsKept _).trans (State.triggerScan_portsKept _)) rfl rfl
  · exact .refl s
  · exact .refl s

theorem State.clearRun_portsKept (s : State) : s.PortsKept s.clearRun := by
  have drains : s.PortsKept
      ({ s.stopScan with we := { s.stopScan.we with st := .draining, run := false } } : State).triggerReport :=
    .after (State.triggerReport_portsKept _) rfl rfl
  unfold State.clearRun
  split
  · exact .of_ports rfl rfl
  · dsimp only
    split
    · exact .trans drains (.after (State.enterStopped_portsKept _) rfl rfl)
    · exact drains
  all_goals exact .refl s

theorem State.restartEngine_portsKept (s : State) : s.PortsKept s.restartEngine := by
  have cleared : s.PortsKept s.abandonWork.restartReports.restartMemory :=
    s.abandonWork_portsKept.trans (.of_ports (by simp) (by simp))
  unfold State.restartEngine
  refine cleared.trans ?_
  generalize s.abandonWork.restartReports.restartMemory = t
  exact .after (State.enterStopped_portsKept _) rfl rfl

/-! ## Requests -/

theorem State.reverify_portsKept (s : State) (p : PortNo) : s.PortsKept (s.reverify p) := by
  unfold State.reverify
  split
  · exact .refl s
  · refine .after (.runPort fun env c => ?_) rfl rfl
    exact .trans (c.endLaneTest_kept _ _ _) (Ctl.enterIdentify_kept _ _ _ _)

theorem State.flushPlans_portsKept (s : State) (n r : Bool) (e : BitVec 16) : s.PortsKept (s.flushPlans n r e) := by
  unfold State.flushPlans
  dsimp only
  split
  · exact .after (.foldl _ (fun t p => t.reverify_portsKept p) _ _) rfl rfl
  · split
    · exact .after (State.epochChanges_portsKept _) rfl rfl
    · exact .of_ports rfl rfl

theorem State.enablePort_portsKept (s : State) (p : PortNo) (hold : Bool) : s.PortsKept (s.enablePort p hold).1 := by
  unfold State.enablePort
  split
  · exact .refl s
  · split
    · dsimp only
      refine .runPort fun env c => ?_
      have opened : c.port.KeptWithin env.cfg.attemptBudget
          (c.mod fun q => { q with holdOnDrop := hold, sendClock := some env.cfg.beaconInterval }).port :=
        .of_same rfl rfl rfl rfl rfl
      split
      · exact .trans opened (Ctl.enterIdentify_kept _ _ _ _)
      · exact .trans opened (Ctl.enterEmpty_kept _ _ _)
    · exact .setPort (.of_same rfl rfl rfl rfl rfl)

theorem State.disablePort_portsKept (s : State) (p : PortNo) : s.PortsKept (s.disablePort p) := by
  unfold State.disablePort
  dsimp only
  split
  · exact .of_ports rfl rfl
  · refine .after (.runPort fun env c => ?_) rfl rfl
    exact .trans (c.endLaneTest_kept _ _ _) (Ctl.enterOff_kept _ _ _)

theorem State.restartPort_portsKept (s : State) (p : PortNo) : s.PortsKept (s.restartPort p).1 := by
  unfold State.restartPort
  split
  · exact .refl s
  · split
    · exact .refl s
    · dsimp only
      refine .after (.runPort fun env c => ?_) rfl rfl
      exact .trans (c.endLaneTest_kept _ _ _) (Ctl.enterIdentify_kept _ _ _ _)

/-- A request on a port, when its work on every port keeps the ports. -/
theorem State.onPort_portsKept (s : State) (r : Request) (f : PortNo → State) (h : ∀ p, s.PortsKept (f p)) :
    s.PortsKept (s.onPort r f) := by
  unfold State.onPort
  split
  · exact s.completeReq_portsKept _ _ _ _
  · exact h _

theorem State.occupy_portsKept (s : State) (j : Job) : s.PortsKept (s.occupy j) := by
  unfold State.occupy
  split <;> exact .of_ports rfl rfl

theorem State.startEnable_portsKept (s : State) (r : Request) : s.PortsKept (s.startEnable r) :=
  s.onPort_portsKept r _ fun p => (s.enablePort_portsKept p _).trans (State.completeReq_portsKept _ _ _ _ _)

theorem State.startDisable_portsKept (s : State) (r : Request) : s.PortsKept (s.startDisable r) :=
  s.onPort_portsKept r _ fun p => (s.disablePort_portsKept p).trans (State.completeReq_portsKept _ _ _ _ _)

theorem State.startRestart_portsKept (s : State) (r : Request) : s.PortsKept (s.startRestart r) :=
  s.onPort_portsKept r _ fun p => (s.restartPort_portsKept p).trans (State.completeReq_portsKept _ _ _ _ _)

theorem State.startLaneTest_portsKept (s : State) (r : Request) : s.PortsKept (s.startLaneTest r) := by
  refine s.onPort_portsKept r _ fun p => ?_
  dsimp only
  split
  · exact s.completeReq_portsKept _ _ _ _
  · split
    · exact s.completeReq_portsKept _ _ _ _
    · split
      · exact s.completeReq_portsKept _ _ _ _
      · split
        · exact s.completeReq_portsKept _ _ _ _
        · refine .trans (.setPort ?_) (State.occupy_portsKept _ _)
          exact .of_same rfl rfl rfl rfl rfl

theorem State.startTestStop_portsKept (s : State) (r : Request) : s.PortsKept (s.startTestStop r) := by
  refine s.onPort_portsKept r _ fun p => ?_
  split
  · exact s.completeReq_portsKept _ _ _ _
  · refine .trans (.runPort fun env c => ?_) (State.completeReq_portsKept _ _ _ _ _)
    exact c.endLaneTest_kept _ _ _

theorem State.startAwait_portsKept (s : State) (r : Request) : s.PortsKept (s.startAwait r) := by
  refine s.onPort_portsKept r _ fun p => ?_
  split
  · exact s.completeReq_portsKept _ _ _ _
  · exact s.occupy_portsKept _

theorem State.startModuleRead_portsKept (s : State) (r : Request) : s.PortsKept (s.startModuleRead r) := by
  refine s.onPort_portsKept r _ fun p => ?_
  split
  · exact s.completeReq_portsKept _ _ _ _
  · exact s.queueJob_portsKept _

theorem State.startFlush_portsKept (s : State) (r : Request) : s.PortsKept (s.startFlush r) :=
  (s.flushPlans_portsKept _ _ _).trans (State.completeReq_portsKept _ _ _ _ _)

theorem State.startCapsLimit_portsKept (s : State) (r : Request) : s.PortsKept (s.startCapsLimit r) := by
  refine s.onPort_portsKept r _ fun p => ?_
  refine .trans (.setPort ?_) (State.completeReq_portsKept _ _ _ _ _)
  exact .of_same rfl rfl rfl rfl rfl

theorem State.startKind_portsKept (s : State) (k : Kind) (r : Request) : s.PortsKept (s.startKind k r) := by
  cases k with
  | portEnable => exact s.startEnable_portsKept r
  | portDisable => exact s.startDisable_portsKept r
  | portRestart => exact s.startRestart_portsKept r
  | portQuery => exact .of_ports (by simp [State.startKind]) (by simp [State.startKind])
  | laneTest => exact s.startLaneTest_portsKept r
  | laneTestStop => exact s.startTestStop_portsKept r
  | portAwait => exact s.startAwait_portsKept r
  | moduleRead => exact s.startModuleRead_portsKept r
  | moduleWrite => exact .of_ports (by simp [State.startKind]) (by simp [State.startKind])
  | planFlush => exact s.startFlush_portsKept r
  | capsLimit => exact s.startCapsLimit_portsKept r
  | setConfig => exact .of_ports rfl rfl

/-! ## Takes, fills and reports -/

theorem State.scanOn_portsKept (s : State) : s.PortsKept s.scanOn := by
  unfold State.scanOn
  split <;> exact .of_ports rfl rfl

theorem State.scanAfterTake_portsKept (s : State) : s.PortsKept s.scanAfterTake := by
  unfold State.scanAfterTake
  split <;> exact .of_ports rfl rfl

theorem State.endScan_portsKept (s : State) (st : Stall) : s.PortsKept (s.endScan st) := by
  unfold State.endScan
  dsimp only
  split <;> exact .of_ports rfl rfl

theorem State.take_portsKept (s : State) (k : Option Kind) (r : Request) : s.PortsKept (s.take k r) := by
  have taken : s.PortsKept { s.push (.takenWrite (s.descAddr s.we.cursor) (takenByte r.iFlag)) with
      we := { s.we with cursor := (s.we.cursor + 1) % s.we.anchor.workCount } } := .of_ports rfl rfl
  unfold State.take
  refine .trans ?_ (State.scanAfterTake_portsKept _)
  cases k with
  | none => exact taken.trans (State.completeReq_portsKept _ _ _ _ _)
  | some k => exact taken.trans (State.startKind_portsKept _ k r)

theorem State.descReturned_portsKept (s : State) (d : List Byte) : s.PortsKept (s.descReturned d) := by
  unfold State.descReturned
  split
  · split
    · exact s.endScan_portsKept _
    · dsimp only
      split
      · exact s.take_portsKept _ _
      · exact s.endScan_portsKept _
  · exact .refl s

theorem State.fillReturned_portsKept (s : State) (p : PortNo) (g : BitVec 32) (e : Vector Byte 16) :
    s.PortsKept (s.fillReturned p g e) := by
  unfold State.fillReturned
  split
  · split
    · exact .of_ports rfl rfl
    · dsimp only
      split
      · exact .after (State.givePlan_portsKept _ _ _) rfl rfl
      · exact .after (State.unplannedPort_portsKept _ _) rfl rfl
  · exact .refl s

theorem State.fault_portsKept (s : State) : s.PortsKept s.fault := by
  unfold State.fault
  dsimp only
  split <;> exact .after (State.enterHalted_portsKept _ _) rfl rfl

/-! ## The invariants along a command -/

/-- Both invariants of the ports, each by itself, hold on. -/
def State.InvariantsKept (s t : State) : Prop :=
  (OutputsMatchState s → OutputsMatchState t) ∧ (AttemptsWithinBudget s → AttemptsWithinBudget t)

namespace State.InvariantsKept

variable {s t u : State}

theorem trans (h : s.InvariantsKept t) (g : t.InvariantsKept u) : s.InvariantsKept u := ⟨g.1 ∘ h.1, g.2 ∘ h.2⟩

theorem of_portsKept (h : s.PortsKept t) : s.InvariantsKept t := by
  refine ⟨fun hs p => (h.2 p).1 (hs p), ?_⟩
  rintro ⟨hlow, hhigh, hleft⟩
  refine ⟨by rw [h.1]; exact hlow, by rw [h.1]; exact hhigh, fun p => ?_⟩
  have := (h.2 p).2
  have := hleft p
  rw [h.1]
  omega

/-- The invariants do not speak of the lines. -/
theorem lines (s : State) (o : List Out) : s.InvariantsKept { s with out := o } := ⟨id, id⟩

/-- A state with the ports of R1's reset values meets both. -/
theorem of_initial (hold : ResetHold) (straps : BitVec 12) (presence : BitVec 32) (pending : List Instr) :
    s.InvariantsKept (State.initial hold straps presence pending) := by
  have port : ∀ p, (State.initial hold straps presence pending).port p = Port.initial (presence.getLsbD p.val) := by
    intro p; simp [State.port, State.initial]
  refine ⟨fun _ p => ?_, fun _ => ⟨Nat.le_of_ble_eq_true rfl, Nat.le_of_ble_eq_true rfl, fun p => ?_⟩⟩
  · rw [port]; simp [Port.initial]
  · rw [port]; exact Nat.zero_le _

end State.InvariantsKept

open State (InvariantsKept)

/-- Attempts left are brought down to the budget in force; the outputs stand. -/
theorem State.port_lowerBudget (s : State) (p : PortNo) :
    s.lowerBudget.port p = { s.port p with left := min (s.port p).left s.we.cfg.attemptBudget } := by
  simp [State.port, State.lowerBudget]

/-- R151: the attempt budget of a configuration block reads as 1 to 8. -/
theorem configOf_attemptBudget (b : List Byte) : 1 ≤ (configOf b).attemptBudget ∧ (configOf b).attemptBudget ≤ 8 := by
  simp only [configOf, orDefault]
  split_ifs <;> omega

/-- A new configuration block in force, with attempts left lowered (R29, R151). -/
theorem State.lowerBudget_invariantsKept (s t : State) (b : List Byte) (hc : t.we.cfg = configOf b)
    (hp : t.ports = s.ports) : s.InvariantsKept t.lowerBudget := by
  have budget := configOf_attemptBudget b
  refine ⟨fun hs p => ?_, fun _ => ⟨?_, ?_, fun p => ?_⟩⟩
  · rw [State.port_lowerBudget, State.port_congr hp]; exact hs p
  · rw [State.lowerBudget_we, hc]; exact budget.1
  · rw [State.lowerBudget_we, hc]; exact budget.2
  · rw [State.port_lowerBudget]; exact Nat.min_le_right _ _

theorem State.enterRunning_invariantsKept (s : State) (b : List Byte) : s.InvariantsKept (s.enterRunning b) := by
  unfold State.enterRunning
  dsimp only
  refine .trans ?_ (.of_portsKept (State.triggerScan_portsKept _))
  refine .trans ?_ (.of_portsKept (State.triggerReport_portsKept _))
  split
  · exact State.lowerBudget_invariantsKept s _ b rfl rfl
  · refine .trans ?_ (.of_portsKept (State.epochChanges_portsKept _))
    exact State.lowerBudget_invariantsKept s _ b rfl rfl

theorem State.anchorReturned_invariantsKept (s : State) (b : List Byte) : s.InvariantsKept (s.anchorReturned b) := by
  unfold State.anchorReturned
  split
  · split
    · exact .of_portsKept s.enterStopped_portsKept
    · split
      · exact s.enterRunning_invariantsKept b
      · exact .of_portsKept (s.enterHalted_portsKept _)
  · exact .of_portsKept (.refl s)

theorem State.configReturned_invariantsKept (s : State) (b : List Byte) (r : Request) :
    s.InvariantsKept (s.configReturned b r) := by
  unfold State.configReturned
  dsimp only
  split
  · refine .trans ?_ (.of_portsKept (State.completeReq_portsKept _ _ _ _ _))
    have applied := State.lowerBudget_invariantsKept s { s with we := { s.we with
      cfg := configOf b, chassis := s.newChassis (configOf b) } } b rfl rfl
    exact applied.trans (.of_portsKept (.of_ports rfl rfl))
  · exact .of_portsKept (s.completeReq_portsKept _ _ _ _)

/-- The tick counts the ports' timers and tests; their states, outputs and attempts stand. -/
theorem State.tick_portsKept (s : State) : s.PortsKept s.tick := by
  refine ⟨rfl, fun p => ?_⟩
  have : s.tick.port p = (s.port p).tick := by simp [State.port, State.tick]
  rw [this]
  exact .of_same rfl rfl rfl rfl rfl

/-- A command keeps the invariants when its effect does, from quiet lines. -/
theorem act_invariantsKept {s t : State} {f : State → State} (h : act s f = .next t)
    (hf : ∀ u : State, u.InvariantsKept (f u)) : s.InvariantsKept t := by
  unfold act at h
  split_ifs at h <;> obtain rfl := Host.Outcome.next.inj h
  · exact ((State.InvariantsKept.lines s []).trans (hf _)).trans (.lines _ _)
  · exact .lines s []

theorem act_portsKept {s t : State} {f : State → State} (h : act s f = .next t) (hf : ∀ u, State.PortsKept u (f u)) :
    s.InvariantsKept t :=
  act_invariantsKept h fun u => .of_portsKept (hf u)

/-- A reset leaves both invariants met (R185). -/
theorem State.resetPart_invariantsKept (s : State) (hold : ResetHold) : s.InvariantsKept (s.resetPart hold) :=
  (State.InvariantsKept.of_initial hold s.straps 0 s.pending).trans (.lines _ _)

/-! ## The rows -/

theorem State.presenceLost_portsKept (s : State) (p : PortNo) : s.PortsKept (s.presenceLost p) := by
  have lost : ∀ (b : Nat) (c : Ctl), c.port.KeptWithin b c.losePresence.port :=
    fun b c => .of_same rfl rfl rfl rfl rfl
  unfold State.presenceLost
  dsimp only
  split
  · exact .after (.runPort fun env c => lost _ c) rfl rfl
  · refine .after (.runPort fun env c => ?_) rfl rfl
    exact .trans (.trans (lost _ c) (Ctl.endLaneTest_kept _ _ _ _)) (Ctl.enterEmpty_kept _ _ _)

theorem State.takeBeacon_portsKept (s : State) (p : PortNo) (i : LaneNo) (bytes : List Byte) :
    s.PortsKept (s.takeBeacon p i bytes) := by
  have hunting : s.PortsKept (s.setPort p ((s.port p).modLane i fun l => { l with rx := .hunt })) :=
    .setPort (.of_same rfl rfl rfl rfl rfl)
  unfold State.takeBeacon
  refine hunting.trans ?_
  dsimp only
  split
  · split
    · exact .runPort fun env c => c.hearBeacon_kept i _ _ env
    · exact .refl _
    · exact .refl _
  · exact .setPort (.of_same rfl rfl rfl rfl rfl)

theorem State.takeWord_portsKept (s : State) (p : PortNo) (i : LaneNo) (b : List Byte) :
    s.PortsKept (s.takeWord p i b) := by
  unfold State.takeWord
  dsimp only
  split
  · split
    · exact .refl s
    · exact .onlyIf fun _ => .runPort fun env c => c.hearWord_kept i _ env
  · exact .setPort (.of_same rfl rfl rfl rfl rfl)

/-- RESETTING gives way to SETTLING: module reset is deasserted (R11, R12). -/
theorem Port.settling_kept (b : Nat) (c : Port) (t : Timer) (h : c.st = .identify) :
    c.KeptWithin b { c with modReset := false, sub := some .settling, phaseTimer := t } := by
  refine ⟨?_, Nat.le_max_left _ _⟩
  rintro ⟨-, hlow, -⟩
  exact ⟨by simp [h], hlow, by simp⟩

/-- SETTLING gives way to READING: module reset stands deasserted in both (R12). -/
theorem Port.reading_kept (b : Nat) (c : Port) (h : c.st = .identify) (hs : c.sub = some .settling) :
    c.KeptWithin b { c with sub := some .reading, phaseTimer := none } := by
  refine ⟨?_, Nat.le_max_left _ _⟩
  rintro ⟨-, hlow, hres⟩
  exact ⟨by simp [h], hlow, by simpa [hs] using hres⟩

theorem State.writeNudge_portsKept (s : State) (v : Word) : s.PortsKept (s.writeNudge v) := by
  have work : ∀ t : State, t.PortsKept (if v.getLsbD 0 then t.nudgeWork else t) :=
    fun t => .onlyIf fun _ => t.triggerScan_portsKept
  have reports : ∀ t : State, t.PortsKept (if v.getLsbD 1 then t.nudgeReports else t) :=
    fun t => .onlyIf fun _ => .onlyIf fun _ => t.triggerReport_portsKept
  unfold State.writeNudge
  dsimp only
  split
  · exact (work s).trans (reports _)
  · exact (reports s).trans (work _)

theorem State.writeRegister_portsKept (s : State) (offset : BitVec 6) (v : Word) :
    s.PortsKept (s.writeRegister offset v) := by
  unfold State.writeRegister State.writeControl
  split
  · split
    · exact s.restartEngine_portsKept
    · split
      · exact s.setRun_portsKept
      · exact s.clearRun_portsKept
  · split
    · exact .of_ports rfl rfl
    · split
      · exact s.writeNudge_portsKept v
      · split
        · exact .of_ports rfl rfl
        · exact .onlyIf fun _ => .of_ports rfl rfl

/-- A request row keeps the ports when the request's start does. -/
theorem takeRequest_invariantsKept {s t : State} {k : Kind} {r : Request} {f : State → State}
    (h : act s (fun s => s.takeRequest k r f) = .next t) (hf : ∀ u : State, u.PortsKept (f u)) :
    s.InvariantsKept t :=
  act_portsKept h fun u => .onlyIf fun _ => hf u

/-- Every command keeps both invariants of the ports. -/
theorem exec_invariantsKept (c : Instr) (s t : State) (h : exec c s = .next t) : s.InvariantsKept t := by
  cases c <;> dsimp only [exec,
    execEngineRestart, execRunSet, execRunClear, execNudgeWork, execNudgeReports, execEventsClear,
    execEventMaskWrite, execRegisterWrite, execPresenceRaised, execPresenceLost, execAlertAsserted, execLockGained,
    execLockLost, execDelimiterFound, execBeaconFrame, execTrainingWord, execLineErrorIncrement, execSendInstant,
    execBurstSent, execResetPulseExpiry, execSettleExpiry, execSignalWindowExpiry, execPhaseWaitExpiry,
    execTrainTimeout, execDwellExpiry, execTestTimerExpiry, execTestSaturated, execAwaitTimeout,
    execScanTimerExpiry, execWatchdogExpiry, execRecoveryEnd, execAddressNack, execByteNack, execTryComplete,
    execAnchorReadDone, execConfigReadDone, execDescriptorReadDone, execBufferReadDone, execFillComplete,
    execReportReadDone, execReportWriteDone, execCompletionWriteDone, execMemoryFault, execDrainEnd, execPortEnable,
    execPortDisable, execPortRestart, execPortQuery, execLaneTest, execLaneTestStop, execPortAwait, execModuleRead,
    execModuleWrite, execPlanFlush, execCapsLimit, execSetConfig, execTick, execPowerOn, execResetN, execResetEnd,
    execDeviceReset] at h
  case powerOn => obtain rfl := Host.Outcome.next.inj h; exact s.resetPart_invariantsKept _
  case resetN => obtain rfl := Host.Outcome.next.inj h; exact s.resetPart_invariantsKept _
  case resetEnd straps presence =>
    obtain rfl := Host.Outcome.next.inj h
    split
    · exact .of_initial _ _ _ _
    · exact .lines s []
  case deviceReset =>
    obtain rfl := Host.Outcome.next.inj h
    unfold State.deviceReset
    split
    · exact s.resetPart_invariantsKept _
    · exact .lines s []
  case engineRestart => exact act_portsKept h State.restartEngine_portsKept
  case runSet => exact act_portsKept h State.setRun_portsKept
  case runClear => exact act_portsKept h State.clearRun_portsKept
  case nudgeWork => exact act_portsKept h State.triggerScan_portsKept
  case nudgeReports => exact act_portsKept h fun u => .onlyIf fun _ => u.triggerReport_portsKept
  case eventsClear v => exact act_portsKept h fun u => .of_ports rfl rfl
  case eventMaskWrite v => exact act_portsKept h fun u => .of_ports rfl rfl
  case registerWrite offset v =>
    unfold State.deviceReset at h
    split at h
    · obtain rfl := Host.Outcome.next.inj h
      split
      · exact s.resetPart_invariantsKept _
      · exact .lines s []
    · exact act_portsKept h fun u => u.writeRegister_portsKept offset v
  case presenceRaised p =>
    refine act_portsKept h fun u => ?_
    split
    · exact .refl u
    · exact .runPort fun env c => c.raisePresence_kept _ env
  case presenceLost p => exact act_portsKept h fun u => .onlyIf fun _ => u.presenceLost_portsKept p
  case alertAsserted p =>
    exact act_portsKept h fun u => .of_shared (.handOver u p kindAlert) (State.handOver_ports _ _ _)
  case lockGained p i =>
    exact act_portsKept h fun u => .onlyIf fun _ => .runPort fun env c => c.gainLock_kept _ i env
  case lockLost p i =>
    refine act_portsKept h fun u => ?_
    split
    · exact .runPort fun env c => c.loseLock_kept i env
    · exact .runPort fun env c => c.drop_kept env i
    all_goals exact .refl u
  case delimiterFound p i sense =>
    exact act_portsKept h fun u => .onlyIf fun _ => .setPort (.of_same rfl rfl rfl rfl rfl)
  case beaconFrame p i bytes => exact act_portsKept h fun u => .onlyIf fun _ => u.takeBeacon_portsKept p i _
  case trainingWord p i bytes => exact act_portsKept h fun u => .onlyIf fun _ => u.takeWord_portsKept p i _
  case lineErrorIncrement p i n => exact act_portsKept h fun u => .runPort fun env c => c.countErrors_kept _ i n env
  case sendInstant p =>
    exact act_portsKept h fun u => .onlyIf fun _ => .runPort fun env c => .of_same rfl rfl rfl rfl rfl
  case burstSent p => exact act_portsKept h fun u => .onlyIf fun _ => .runPort Ctl.endBurst_kept
  case resetPulseExpiry p =>
    exact act_portsKept h fun u => .onlyIf fun due => .setPort (Port.settling_kept _ _ _ due.1)
  case settleExpiry p =>
    exact act_portsKept h fun u => .onlyIf fun due =>
      .trans (.setPort (Port.reading_kept _ _ due.1 due.2.1)) (State.postRequest_portsKept _ p)
  case signalWindowExpiry p =>
    exact act_portsKept h fun u => .onlyIf fun _ => .runPort fun env c =>
      (c.stopPhase_kept _).trans (Ctl.windowOver_kept env _)
  case phaseWaitExpiry p =>
    exact act_portsKept h fun u => .onlyIf fun _ => .runPort fun env c =>
      (c.stopPhase_kept _).trans (Ctl.phaseWaitOver_kept env _)
  case trainTimeout p =>
    exact act_portsKept h fun u => .onlyIf fun _ => .runPort fun env c =>
      (c.stopPhase_kept _).trans (Ctl.trainOver_kept env _)
  case dwellExpiry p =>
    exact act_portsKept h fun u => .onlyIf fun _ => .runPort fun env c =>
      (Port.passRunning_kept _ c.port).trans (Ctl.bringUpOver_kept _ env (c.mod Port.passRunning))
  case testTimerExpiry p =>
    exact act_portsKept h fun u => .onlyIf fun _ => .runPort fun env c => c.endLaneTest_kept _ _ _
  case testSaturated p =>
    refine act_portsKept h fun u => .onlyIf fun _ => .runPort fun env c => ?_
    refine .trans ?_ (Ctl.endLaneTest_kept _ _ _ _)
    exact .of_same rfl rfl rfl rfl rfl
  case awaitTimeout slot =>
    refine act_portsKept h fun u => ?_
    split
    · exact .refl u
    · exact .onlyIf fun _ => .of_shared (.completeSlot _ _ _ _ _ _) (by simp)
  case scanTimerExpiry =>
    refine act_portsKept h fun u => .onlyIf fun _ => .trans ?_ (State.triggerScan_portsKept _)
    exact .after (State.triggerReport_portsKept _) rfl rfl
  case watchdogExpiry n =>
    refine act_portsKept h fun u => ?_
    split
    · exact .refl u
    · exact .onlyIf fun _ => .of_ports rfl rfl
  case recoveryEnd high =>
    refine act_portsKept h fun u => ?_
    split
    · exact .refl u
    · split
      · exact u.endTxn_portsKept _ _ _
      · exact .after (State.endTxn_portsKept _ _ _ _) (by simp) (by simp)
  case addressNack =>
    refine act_portsKept h fun u => ?_
    split
    · exact .refl u
    · split
      · exact .of_ports rfl rfl
      · exact .after (State.endTxn_portsKept _ _ _ _) rfl rfl
  case byteNack n =>
    refine act_portsKept h fun u => ?_
    split
    · exact .refl u
    · exact .after (State.endTxn_portsKept _ _ _ _) rfl rfl
  case tryComplete data =>
    refine act_portsKept h fun u => ?_
    split
    · exact .refl u
    · exact .onlyIf fun _ => u.endTxn_portsKept _ _ _
  case anchorReadDone block =>
    refine act_invariantsKept h fun u => ?_
    have popped : u.InvariantsKept u.popMem := .of_portsKept (.of_ports rfl rfl)
    split
    · split
      · exact popped
      · exact popped.trans (State.anchorReturned_invariantsKept _ _)
    · exact .of_portsKept (.refl u)
  case configReadDone block =>
    refine act_invariantsKept h fun u => ?_
    have popped : u.InvariantsKept u.popMem := .of_portsKept (.of_ports rfl rfl)
    split
    · split
      · exact popped
      · exact (popped.trans (State.configReturned_invariantsKept _ _ _)).trans (.of_portsKept (State.scanOn_portsKept _))
    · exact .of_portsKept (.refl u)
  case descriptorReadDone desc =>
    refine act_portsKept h fun u => ?_
    split
    · split
      · exact .of_ports rfl rfl
      · exact .after (State.descReturned_portsKept _ _) rfl rfl
    · exact .refl u
  case bufferReadDone data =>
    refine act_portsKept h fun u => ?_
    split
    · refine .onlyIf fun _ => ?_
      split
      · exact .of_ports rfl rfl
      · exact .after ((State.queueJob_portsKept _ _).trans (State.scanOn_portsKept _)) rfl rfl
    · exact .refl u
  case fillComplete e =>
    refine act_portsKept h fun u => ?_
    split
    · exact .after (State.fillReturned_portsKept _ _ _ _) rfl rfl
    · exact .refl u
  case reportReadDone owner =>
    refine act_portsKept h fun u => ?_
    split
    · split
      · exact .of_ports rfl rfl
      · exact .of_ports (by simp) (by simp)
    · exact .refl u
  case reportWriteDone =>
    refine act_portsKept h fun u => ?_
    split
    · exact .of_ports rfl rfl
    · exact .of_ports (by simp) (by simp)
    · exact .refl u
  case completionWriteDone =>
    refine act_portsKept h fun u => ?_
    split
    · split
      · exact .of_ports rfl rfl
      · exact .refl u
    · exact .refl u
  case memoryFault cause => exact act_portsKept h fun u => .onlyIf fun _ => u.fault_portsKept
  case drainEnd =>
    exact act_portsKept h fun u => .onlyIf fun _ => .after (State.enterStopped_portsKept _) rfl rfl
  case portEnable r => exact takeRequest_invariantsKept h fun u => u.startEnable_portsKept r
  case portDisable r => exact takeRequest_invariantsKept h fun u => u.startDisable_portsKept r
  case portRestart r => exact takeRequest_invariantsKept h fun u => u.startRestart_portsKept r
  case portQuery r => exact takeRequest_invariantsKept h fun u => u.startKind_portsKept .portQuery r
  case laneTest r => exact takeRequest_invariantsKept h fun u => u.startLaneTest_portsKept r
  case laneTestStop r => exact takeRequest_invariantsKept h fun u => u.startTestStop_portsKept r
  case portAwait r => exact takeRequest_invariantsKept h fun u => u.startAwait_portsKept r
  case moduleRead r => exact takeRequest_invariantsKept h fun u => u.startModuleRead_portsKept r
  case moduleWrite r => exact takeRequest_invariantsKept h fun u => u.startKind_portsKept .moduleWrite r
  case planFlush r => exact takeRequest_invariantsKept h fun u => u.startFlush_portsKept r
  case capsLimit r => exact takeRequest_invariantsKept h fun u => u.startCapsLimit_portsKept r
  case setConfig r => exact takeRequest_invariantsKept h fun u => u.startKind_portsKept .setConfig r
  case tick =>
    split at h
    · exact act_portsKept h State.tick_portsKept
    · obtain rfl := Host.Outcome.next.inj h; exact .lines s []
    · obtain rfl := Host.Outcome.next.inj h; exact ⟨id, id⟩

/-- A step keeps both invariants of the ports. -/
theorem step_invariantsKept (s t : State) (h : step s = .next t) : s.InvariantsKept t := by
  unfold step at h
  split at h
  · obtain rfl := Host.Outcome.next.inj h
    exact ⟨id, id⟩
  · rename_i c rest _
    exact State.InvariantsKept.trans (t := { s with pending := rest }) ⟨id, id⟩ (exec_invariantsKept c _ t h)

/-- Settles O59: every command acts on a port through operations that keep the outputs as the port state gives them and
attempts left within the budget; a new configuration's budget reads as 1 to 8. -/
theorem stepsKeepThePortInvariants : Obligations.StepsKeepThePortInvariants :=
  ⟨fun s t hs h => (step_invariantsKept s t h).1 hs, fun s t hs h => (step_invariantsKept s t h).2 hs⟩

end Sys2Proof.Machine


/-!
# What a command answers

The answer of a command that is one event of one port, in one place: the port, what the event leaves alone, the change it
hands over, the LANE_TEST it ends, and the writes of the completions that go with it.
-/

namespace Sys2Proof.Machine

/-! ## The lines of an answer -/

/-- A change that leaves the registers alone sends no interrupt message. -/
theorem irqMessage_of_regs {s t : State} (h : t.regs = s.regs) : irqMessage s t = [] :=
  if_pos (by simp [State.irq, h])

/-- A command answers what its effect gives from quiet lines; what stands on the lines is left open. -/
theorem act_answer {s : State} {f : State → State} {P : State → Prop} (h : s.hold = .released)
    (hP : ∀ o, P { f { s with out := [] } with out := o }) : ∃ t, act s f = .next t ∧ P t :=
  ⟨_, act_released s f h, hP _⟩

/-- A command whose effect leaves the registers alone answers its effect from quiet lines. -/
theorem act_same_regs {s : State} {f : State → State} (h : s.hold = .released)
    (hr : (f { s with out := [] }).regs = s.regs) : act s f = .next (f { s with out := [] }) := by
  rw [act_released s f h, irqMessage_of_regs hr, List.append_nil]

/-- A command without effect. -/
theorem act_idle {s : State} {f : State → State} (h : s.hold = .released)
    (hf : f { s with out := [] } = { s with out := [] }) : ∃ t, act s f = .next t ∧ Unchanged s t :=
  ⟨_, act_unchanged s f h hf, rfl⟩

@[simp] theorem State.setPort_self (s : State) (p : PortNo) : s.setPort p (s.port p) = s := by
  simp [State.setPort, State.port]

@[simp] theorem State.emit_nil (s : State) : s.emit [] = s := by simp [State.emit]

/-- An event at which the port does nothing changes nothing. -/
theorem State.runPort_start (s : State) (p : PortNo) (f : Env → Ctl → Ctl) (h : s.ctl p f = Ctl.start (s.port p)) :
    s.runPort p f = s := by
  rw [State.runPort_silent s p f (s.port p) [] h (.inl rfl), State.setPort_self, State.emit_nil]

/-! ## The answer of one event of one port -/

@[simp] theorem Ctl.start_port (c : Port) : (Ctl.start c).port = c := rfl
@[simp] theorem Ctl.start_kinds (c : Port) : (Ctl.start c).kinds = 0 := rfl
@[simp] theorem Ctl.start_out (c : Port) : (Ctl.start c).out = [] := rfl
@[simp] theorem Ctl.start_ended (c : Port) : (Ctl.start c).ended = none := rfl

/-- What an event of port p that ends in `c` makes of the part: the port, the frame, and the change handed over. -/
structure EventAnswer (p : PortNo) (c : Ctl) (s t : State) : Prop where
  port : t.port p = c.port
  frame : PortEventFrame p s t
  silent : c.kinds = 0 → t.rep = s.rep
  reported : c.kinds ≠ 0 → Reported p c.kinds s t

/-- An event that does not newly put its port in ACTIVE is handed over, and nothing else follows. -/
theorem State.runPort_settles (s : State) (p : PortNo) (f : Env → Ctl → Ctl)
    (h : (s.ctl p f).port.st = .active → (s.port p).st = .active) : s.runPort p f = s.settle p (s.ctl p f) := by
  by_cases active : (s.port p).st = .active
  · exact State.runPort_of_active s p f active
  · exact State.runPort_of_not_active s p f fun e => active (h e)

/-- What an event hands over, once it is settled. -/
theorem State.settle_answer (s : State) (p : PortNo) (c : Ctl) : EventAnswer p c s (s.settle p c) where
  port := State.port_settle s p c
  frame := ⟨fun q h => State.port_settle_of_ne s p q c h, .settle s p c⟩
  silent hk := by rw [State.settle_rep, if_pos hk]
  reported hk := by unfold Reported; rw [State.settle_rep, if_neg hk]

theorem State.runPort_answer (s : State) (p : PortNo) (f : Env → Ctl → Ctl) (c : Ctl) (hc : s.ctl p f = c)
    (h : c.port.st = .active → (s.port p).st = .active) : EventAnswer p c s (s.runPort p f) := by
  subst hc
  rw [State.runPort_settles s p f h]
  exact State.settle_answer s p _

/-- An event that ends no test and enters no awaited state completes no job. -/
theorem State.runPort_noJob (s : State) (p : PortNo) (f : Env → Ctl → Ctl) (c : Ctl) (hc : s.ctl p f = c)
    (he : c.ended = none) (hs : c.port.st = (s.port p).st ∨ c.port.st.settled = false) :
    (s.runPort p f).we = s.we ∧ (s.runPort p f).regs = s.regs ∧ (s.runPort p f).out = s.out ++ c.out := by
  rw [State.runPort_quiet s p f (by rw [hc]; exact he) (by rw [hc]; exact hs), hc]
  split_ifs <;> simp

/-- A command that is one event of one port. -/
theorem act_runPort {s : State} {eff : State → State} {p : PortNo} {P : State → Prop} (f : Env → Ctl → Ctl) (c : Ctl)
    (hs : s.hold = .released) (he : eff { s with out := [] } = State.runPort { s with out := [] } p f)
    (hc : s.ctl p f = c) (h : c.port.st = .active → (s.port p).st = .active) (hP : ∀ t, EventAnswer p c s t → P t) :
    ∃ t, act s eff = .next t ∧ P t := by
  obtain ⟨port, frame, silent, reported⟩ := State.runPort_answer { s with out := [] } p f c hc h
  refine act_answer hs fun o => hP _ ?_
  rw [he]
  exact ⟨port, frame, silent, reported⟩

/-- A command that is one event of one port, which completes no job: the engine and the registers stand too, and the
lines carry the mode commands. -/
theorem act_runPort_quiet {s : State} {eff : State → State} {p : PortNo} {P : State → Prop} (f : Env → Ctl → Ctl)
    (c : Ctl) (hs : s.hold = .released) (he : eff { s with out := [] } = State.runPort { s with out := [] } p f)
    (hc : s.ctl p f = c) (hend : c.ended = none) (hst : c.port.st = (s.port p).st ∨ c.port.st.settled = false)
    (hP : ∀ t, EventAnswer p c s t → t.we = s.we → t.regs = s.regs → t.out = c.out → P t) :
    ∃ t, act s eff = .next t ∧ P t := by
  have enters : c.port.st = .active → (s.port p).st = .active := fun active => by
    rcases hst with h | h
    · exact h.symm.trans active
    · rw [active] at h; cases h
  obtain ⟨port, frame, silent, reported⟩ := State.runPort_answer { s with out := [] } p f c hc enters
  obtain ⟨engine, regs, lines⟩ := State.runPort_noJob { s with out := [] } p f c hc hend hst
  refine ⟨_, act_same_regs hs (by rw [he]; exact regs), ?_⟩
  rw [he]
  exact hP _ ⟨port, frame, silent, reported⟩ engine regs lines

/-! ## Completions (R162) -/

theorem State.pushAll_ops (s : State) (l : List MemOp) :
    (s.pushAll l).mm.ops = s.mm.ops ++ l.map fun op => ⟨op, false⟩ := by
  unfold State.pushAll
  induction l generalizing s with
  | nil => simp
  | cons op l ih => rw [List.foldl_cons, ih, State.push_ops, List.map_cons, List.append_assoc]; rfl

theorem State.pushAll_age (s : State) (l : List MemOp) : (s.pushAll l).mm.age = s.mm.age :=
  foldl_field (fun t : State => t.mm.age) State.push (fun t op => State.push_age t op) l s

/-- A completion's writes join the list in the order of R162. -/
theorem State.complete_ops (s : State) (i : Nat) (b : Bool) (bufs : List MemOp) (st : Status) (r : Nat) :
    (s.complete i b bufs st r).mm.ops = s.mm.ops ++ completionOps s i b bufs st r := by
  cases b <;> simp [State.complete, State.pushAll_ops, completionOps, State.descAddr, doneByte, flagBit]

theorem State.complete_age (s : State) (i : Nat) (b : Bool) (bufs : List MemOp) (st : Status) (r : Nat) :
    (s.complete i b bufs st r).mm.age = s.mm.age := by
  cases b <;> simp [State.complete, State.pushAll_age]

/-- A completion sets WORK when the I flag is set, and nothing else of the registers. -/
theorem State.complete_regs (s : State) (i : Nat) (b : Bool) (bufs : List MemOp) (st : Status) (r : Nat) :
    (s.complete i b bufs st r).regs =
      { s.regs with events := if b then s.regs.events ||| evWork else s.regs.events } := by
  cases b <;> simp [State.complete, State.raise]

/-- The completion of a request as the statements say it. -/
theorem State.completeReq_completed (s : State) (r : Request) (bufs : List MemOp) (st : Status) (n : Nat) :
    Completed s (s.completeReq r bufs st n) r bufs st n := by
  unfold State.completeReq
  exact ⟨s.complete_ops _ _ _ _ _, by rw [WorkRaised, State.complete_regs]⟩

theorem or_and_self_right (x e : BitVec 5) : (x ||| e) &&& e = e := by
  ext i hi
  simp +contextual

/-- The job's writes still stand directly after `before` when more has joined the list. -/
theorem JobCompleted.later {s t u : State} {before : List MemEntry} {tag : JobTag} {bufs : List MemOp} {st : Status}
    {n : Nat} (h : JobCompleted s t before tag bufs st n) (g : SharedFrame t u) :
    JobCompleted s u before tag bufs st n := by
  obtain ⟨more, hops, hwork⟩ := h
  obtain ⟨-, -, -, ⟨-, -, hev⟩, -, ⟨tail, htail⟩, -⟩ := g
  refine ⟨more ++ tail, by rw [← htail, hops, List.append_assoc], fun hi => ?_⟩
  rcases hev with hev | hev
  · rw [hev]; exact hwork hi
  · rw [hev]; exact or_and_self_right _ _

/-! ## The end of a LANE_TEST by its port (R128, R130) -/

/-- The slot whose job a port's LANE_TEST completes. -/
theorem State.laneTestSlot_of_runs {s : State} {p : PortNo} {T : PortTest} {k : Fin 16} {tag : JobTag}
    (h : TestRuns s p T k tag) : s.laneTestSlot p = some (k, ⟨tag, p, .laneTest⟩) := by
  obtain ⟨-, -, -, hk, hfirst⟩ := h
  have sorted : allSlots.Pairwise (· < ·) := List.pairwise_lt_finRange 16
  obtain ⟨before, after, hsplit⟩ := List.append_of_mem (List.mem_finRange k)
  rw [allSlots, hsplit, List.pairwise_append] at sorted
  unfold State.laneTestSlot
  rw [allSlots, hsplit, List.findSome?_eq_some_iff]
  refine ⟨before, k, after, rfl, by simp [hk], fun k' hk' => ?_⟩
  have lt : k' < k := sorted.2.2 k' hk' k List.mem_cons_self
  cases hj : s.we.slots[k'] with
  | none => simp
  | some j => simpa using hfirst k' lt j hj

/-- A job in a slot completes: its writes follow what stood in the list, and its slot is free. -/
theorem State.completeSlot_completed (s : State) (k : Fin 16) (j : Job) (bufs : List MemOp) (st : Status) (n : Nat) :
    JobCompleted s (s.completeSlot k j bufs st n) s.mm.ops j.tag bufs st n ∧
    (s.completeSlot k j bufs st n).we.slots[k] = none := by
  have written : JobCompleted s (s.complete j.tag.index j.tag.iFlag bufs st n) s.mm.ops j.tag bufs st n := by
    refine ⟨[], by rw [State.complete_ops, List.append_nil], fun hi => ?_⟩
    rw [State.complete_regs, hi]
    exact or_and_self_right _ _
  unfold State.completeSlot
  dsimp only
  generalize s.complete j.tag.index j.tag.iFlag bufs st n = t at written
  have rest := SharedFrame.meetStall { t with we := { t.we with slots := t.we.slots.set k none } } (meetsSlot j.tag.index)
  refine ⟨.later (t := { t with we := { t.we with slots := t.we.slots.set k none } }) written rest, ?_⟩
  obtain ⟨-, -, -, -, ⟨-, -, -, -, -, -, -, -, -, slots⟩, -⟩ := rest
  rcases slots k with h | h
  · rw [h]; simp
  · exact h

/-- The slot stays free whatever follows. -/
theorem slot_free_later {t u : State} {k : Fin 16} (h : t.we.slots[k] = none) (g : SharedFrame t u) :
    u.we.slots[k] = none := by
  obtain ⟨-, -, -, -, ⟨-, -, -, -, -, -, -, -, -, slots⟩, -⟩ := g
  rcases slots k with e | e
  · rw [e]; exact h
  · exact e

/-- An event that ends its port's LANE_TEST completes the test's job first, before its changes are handed over (R128). -/
theorem State.settle_completes {s : State} {p : PortNo} {c : Ctl} {T : PortTest} {k : Fin 16} {tag : JobTag} {e : TestEnd}
    (h : TestRuns s p T k tag) (he : c.ended = some e) :
    JobCompleted s (s.settle p c) s.mm.ops tag (bufferOp tag.bufAddr e.results) e.status e.count ∧
    (s.settle p c).we.slots[k] = none := by
  have slot : ((s.setPort p c.port).emit c.out).laneTestSlot p = some (k, ⟨tag, p, .laneTest⟩) :=
    State.laneTestSlot_of_runs (s := s) h
  have completed := ((s.setPort p c.port).emit c.out).completeSlot_completed k ⟨tag, p, .laneTest⟩
    (bufferOp tag.bufAddr e.results) e.status e.count
  have rest : SharedFrame (((s.setPort p c.port).emit c.out).completeSlot k ⟨tag, p, .laneTest⟩
      (bufferOp tag.bufAddr e.results) e.status e.count) (s.settle p c) := by
    unfold State.settle
    dsimp only
    rw [he]
    dsimp only
    unfold State.finishLaneTest
    rw [slot]
    dsimp only
    exact (SharedFrame.ite (.refl _) (.handOver _ _ _)).trans (.ite (.finishAwaits _ _) (.refl _))
  exact ⟨JobCompleted.later completed.1 rest, slot_free_later completed.2 rest⟩

/-- What a stop gives, as the statements say it (R125). -/
theorem PortTest.stopVerdict_eq (T : PortTest) (i : LaneNo) (e : Nat) :
    T.stopVerdict ⟨e, none⟩ = stopGives T i e := rfl

/-- The end of a LANE_TEST changes the test and the lane records alone. -/
theorem Ctl.endLaneTest_port (st : Status) (g : PortTest → LaneNo → TestRecord → LaneVerdict) (c : Ctl) :
    ∃ lanes test dwell timer, (c.endLaneTest st g).port =
      { c.port with lanes := lanes, test := test, dwellTimer := dwell, testTimer := timer } := by
  unfold Ctl.endLaneTest
  split
  · exact ⟨_, _, _, _, rfl⟩
  · exact ⟨_, _, _, _, rfl⟩

@[simp] theorem Ctl.endLaneTest_kinds (st : Status) (g : PortTest → LaneNo → TestRecord → LaneVerdict) (c : Ctl) :
    (c.endLaneTest st g).kinds = c.kinds := by
  unfold Ctl.endLaneTest
  split <;> rfl

theorem TestClosed.of_lanes {c c' d : Port} {T : PortTest} {v : LaneNo → Nat → LaneVerdict} (h : TestClosed c d T v)
    (hl : c'.lanes = c.lanes) : TestClosed c' d T v := by
  unfold TestClosed Port.lane at *
  rw [hl]
  exact h

/-- An event of port p that ends its LANE_TEST, whatever it did to the port's other fields before and does after. -/
theorem State.settle_laneTestEnded {s : State} {p : PortNo} {c d : Ctl} {st : Status}
    {g : PortTest → LaneNo → TestRecord → LaneVerdict} {v : PortTest → LaneNo → Nat → LaneVerdict}
    (htest : c.port.test = (s.port p).test) (hlanes : c.port.lanes = (s.port p).lanes)
    (hend : d.ended = (c.endLaneTest st g).ended) (hv : ∀ T i e, g T i ⟨e, none⟩ = v T i e)
    (held : d.port.st = .held → (∀ T, (c.endLaneTest st g).port.test = some T → T.ended = true →
        d.port.test = some T) ∧ ∀ i, (d.port.lane i).test = ((c.endLaneTest st g).port.lane i).test) :
    LaneTestEnded p (s.port p) v st s.mm.ops s (s.settle p d) := by
  intro T k tag runs
  obtain ⟨hT, hkind, hrun, -, -⟩ := id runs
  obtain ⟨closed, ended⟩ := c.endLaneTest_closes T st g (v T) (htest.trans hT) hkind hrun (hv T)
  have completed := State.settle_completes runs (hend.trans ended)
  refine ⟨_, closed.of_lanes hlanes.symm, completed.2, completed.1, fun hheld => ?_⟩
  rw [State.port_settle] at hheld ⊢
  obtain ⟨test, lanes⟩ := held hheld
  exact ⟨(test _ closed.1 rfl).trans closed.1.symm, lanes⟩

/-- An entry into another state than HELD leaves nothing to say of the test. -/
theorem State.settle_laneTestEnded_of_left {s : State} {p : PortNo} {c d : Ctl} {st : Status}
    {g : PortTest → LaneNo → TestRecord → LaneVerdict} {v : PortTest → LaneNo → Nat → LaneVerdict}
    (htest : c.port.test = (s.port p).test) (hlanes : c.port.lanes = (s.port p).lanes)
    (hend : d.ended = (c.endLaneTest st g).ended) (hv : ∀ T i e, g T i ⟨e, none⟩ = v T i e)
    (left : d.port.st ≠ .held) : LaneTestEnded p (s.port p) v st s.mm.ops s (s.settle p d) :=
  State.settle_laneTestEnded htest hlanes hend hv fun h => absurd h left

/-- What a job's completion says depends on the work engine's addresses alone. -/
theorem JobCompleted.of_same {s u t : State} {before : List MemEntry} {tag : JobTag} {bufs : List MemOp} {st : Status}
    {n : Nat} (hw : u.we = s.we) (h : JobCompleted u t before tag bufs st n) : JobCompleted s t before tag bufs st n := by
  unfold JobCompleted completionOps at *
  rw [hw] at h
  exact h

/-- The end of a LANE_TEST seen from a state whose ports, slots and addresses are the same. -/
theorem LaneTestEnded.of_same {s u t : State} {p : PortNo} {c : Port} {v : PortTest → LaneNo → Nat → LaneVerdict}
    {st : Status} {before : List MemEntry} (hp : u.ports = s.ports) (hw : u.we = s.we)
    (h : LaneTestEnded p c v st before u t) : LaneTestEnded p c v st before s t := by
  intro T k tag ⟨test, kind, running, slot, first⟩
  obtain ⟨c', closed, free, done, held⟩ :=
    h T k tag ⟨(congrArg Port.test (State.port_congr hp p)).trans test, kind, running, by rw [hw]; exact slot,
      by rw [hw]; exact first⟩
  exact ⟨c', closed, free, done.of_same hw, held⟩

/-- HELD keeps an ended test and the lanes' test records. -/
theorem Ctl.enterHeld_keepsTest (c : Ctl) (self : PortNo) (why : HoldReason) :
    (∀ T, c.port.test = some T → T.ended = true → (c.enterHeld self why).port.test = some T) ∧
    ∀ i, ((c.enterHeld self why).port.lane i).test = (c.port.lane i).test := by
  have entered : (c.enterHeld self why).port.test = c.port.test.map (fun t => { t with ended := true }) ∧
      ∀ i, ((c.enterHeld self why).port.lane i).test = (c.port.lane i).test := by
    unfold Ctl.enterHeld
    simp only [Ctl.commandAll_port, Port.lane_mapLanes]
    exact ⟨rfl, fun i => (Lane.after_keeps _ _).2.2.2.2.2.2.2⟩
  refine ⟨fun T hT hended => ?_, entered.2⟩
  rw [entered.1, hT]
  cases T
  simp_all

end Sys2Proof.Machine


/-!
# Presence, alerts and drops (R4, R6, R9, R10, R22, R35, R128, R174)
-/

namespace Sys2Proof.Machine

/-! ## Changes handed over (R174, R175) -/

/-- ALERT_ASSERTED in the terms of its effect. -/
theorem exec_alertAsserted (p : PortNo) (s : State) :
    exec (.alertAsserted p) s = act s fun s => s.handOver p kindAlert := rfl

/-- The record of a change handed over. -/
theorem State.handOver_recs (s : State) (p : PortNo) (k : BitVec 5) :
    (s.handOver p k).rep.recs =
      s.rep.recs.set p (⟨s.rep.recs[p].kinds ||| k, min (s.rep.recs[p].count + 1) 255⟩ : ReportRec) := by
  rw [State.handOver_rep]; rfl

/-- The queue after a change handed over. -/
theorem State.handOver_queue (s : State) (p : PortNo) (k : BitVec 5) :
    (s.handOver p k).rep.queue = if s.rep.recs[p].count = 0 then s.rep.queue ++ [p] else s.rep.queue := by
  rw [State.handOver_rep]; rfl

/-- A port's record and the queue with a change, before the report engine is triggered. -/
def State.joined (s : State) (p : PortNo) (k : BitVec 5) : State :=
  { s with rep := { s.rep with
      recs := s.rep.recs.set p (s.rep.recs[p].join k 1)
      queue := if s.rep.recs[p].count = 0 then s.rep.queue ++ [p] else s.rep.queue } }

/-- A change joins its port's record and triggers the report engine (R174, R175). -/
theorem State.handOver_eq (s : State) (p : PortNo) (k : BitVec 5) : s.handOver p k = (s.joined p k).triggerReport := rfl

/-- A trigger while a report read is in progress asks for another one (R175). -/
theorem State.triggerReport_reading (s : State) (h : s.rep.phase = .reading) :
    s.triggerReport = { s with rep := { s.rep with reread := true } } := if_pos h

/-- A trigger of a writer at rest issues a report read when the engine works and a port waits (R175). -/
theorem State.triggerReport_issues (s : State) (h : s.rep.phase ≠ .reading) (hw : s.we.st.working = true)
    (hq : s.rep.queue ≠ []) : s.triggerReport = s.reportRead := by
  unfold State.triggerReport
  rw [if_neg h, if_pos (by simp [hw, hq])]

/-- A trigger while the engine does no work changes nothing (R175). -/
theorem State.triggerReport_idle (s : State) (h : s.rep.phase ≠ .reading) (hw : s.we.st.working = false) :
    s.triggerReport = s := by
  unfold State.triggerReport
  rw [if_neg h, if_neg (by simp [hw])]

/-- A change handed over triggers the report engine (R174, R175). -/
theorem State.handOver_triggers (s : State) (p : PortNo) (kinds : BitVec 5) :
    (s.rep.phase = .reading → (s.handOver p kinds).rep.reread = true ∧ (s.handOver p kinds).mm = s.mm) ∧
    (s.rep.phase ≠ .reading → s.we.st.working = true → (s.handOver p kinds).rep.queue ≠ [] →
      (s.handOver p kinds).rep.phase = .reading ∧ (s.handOver p kinds).mm.ops =
        s.mm.ops ++ [⟨.reportRead (s.we.anchor.reportBase + 32 * s.rep.cursor), false⟩]) ∧
    (s.rep.phase ≠ .reading → s.we.st.working = false →
      (s.handOver p kinds).rep.phase = s.rep.phase ∧ (s.handOver p kinds).mm = s.mm) := by
  have queue := s.handOver_queue p kinds
  refine ⟨fun hr => ?_, fun hr hw hq => ?_, fun hr hw => ?_⟩
  · rw [State.handOver_eq, State.triggerReport_reading (s.joined p kinds) hr]
    exact ⟨rfl, rfl⟩
  · rw [queue] at hq
    rw [State.handOver_eq, State.triggerReport_issues (s.joined p kinds) hr hw hq]
    exact ⟨rfl, rfl⟩
  · rw [State.handOver_eq, State.triggerReport_idle (s.joined p kinds) hr hw]
    exact ⟨rfl, rfl⟩

/-! ## Presence (R4, R9, R10) -/

theorem exec_presenceRaised (p : PortNo) (s : State) : exec (.presenceRaised p) s =
    act s fun s => if (s.port p).present then s else s.runPort p Ctl.raisePresence := rfl

theorem exec_presenceLost (p : PortNo) (s : State) : exec (.presenceLost p) s =
    act s fun s => if (s.port p).present then s.presenceLost p else s := rfl

/-- The marks of presence lost are those of R132. -/
theorem Txn.losesPresence_eq : Txn.losesPresence = Txn.afterLoss := by
  funext x
  unfold Txn.losesPresence Txn.afterLoss Txn.cutRead
  by_cases h : x.requester = .port <;> simp [h]

/-- The marks of PORT_DISABLE and PORT_RESTART are those of R132. -/
theorem Txn.takesPortEvent_eq : Txn.takesPortEvent = Txn.afterPortRequest := by
  funext x
  unfold Txn.takesPortEvent Txn.afterPortRequest Txn.cutRead
  by_cases h : x.requester = .port <;> simp [h]

/-- Presence raised is recorded and marked (R4, R9). -/
def Ctl.raised (c : Ctl) : Ctl := (c.mod fun p => { p with present := true }).mark kindPresence

@[simp] theorem Ctl.raised_st (c : Ctl) : c.raised.port.st = c.port.st := rfl

@[simp] theorem Ctl.raised_start_kinds (c : Port) : (Ctl.start c).raised.kinds = 1 := by
  show (0 : BitVec 5) ||| kindPresence = 1
  decide

/-- Presence raised at a port: recorded, and an EMPTY port enters IDENTIFY (R9, R11). -/
theorem Ctl.raisePresence_steps (env : Env) (c : Ctl) :
    c.raisePresence env = if c.raised.port.st = .empty then c.raised.enterIdentify env.self false else c.raised := rfl

/-- PRESENCE_RAISED on a port that has no module yet, outside EMPTY. -/
theorem presenceRaised_recorded (p : PortNo) (s : State) (hs : s.hold = .released) (hp : (s.port p).present = false)
    (hst : (s.port p).st ≠ .empty) : ∃ t, exec (.presenceRaised p) s = .next t ∧
      t.port p = { s.port p with present := true } ∧ Reported p 1 s t ∧ PortEventFrame p s t ∧ t.we = s.we ∧
      t.regs = s.regs ∧ t.out = [] := by
  have ctl : s.ctl p Ctl.raisePresence = (Ctl.start (s.port p)).raised := by
    unfold State.ctl
    rw [Ctl.raisePresence_steps, if_neg (by simpa using hst)]
  rw [exec_presenceRaised]
  refine act_runPort_quiet Ctl.raisePresence _ hs (if_neg (Bool.eq_false_iff.1 hp)) ctl rfl (.inl rfl) ?_
  intro t ⟨port, frame, _, reported⟩ hwe hregs hout
  exact ⟨port, (Ctl.raised_start_kinds _ ▸ reported) (by decide), frame, hwe, hregs, hout⟩

/-- PRESENCE_RAISED on an EMPTY port. -/
theorem presenceRaised_identifies (p : PortNo) (s : State) (hs : s.hold = .released) (hp : (s.port p).present = false)
    (hst : (s.port p).st = .empty) : ∃ t, exec (.presenceRaised p) s = .next t ∧
      IsIdentify false { s.port p with present := true } (t.port p) ∧ Reported p 1 s t ∧ PortEventFrame p s t ∧
      t.we = s.we ∧ t.regs = s.regs := by
  have entered := Ctl.enterIdentify_is (Ctl.start (s.port p)).raised p false
  have kinds : ((Ctl.start (s.port p)).raised.enterIdentify p false).kinds = 1 := by
    simp [Ctl.leavingMark, hst]
  have ctl : s.ctl p Ctl.raisePresence = (Ctl.start (s.port p)).raised.enterIdentify p false := by
    unfold State.ctl
    rw [Ctl.raisePresence_steps, if_pos (by simpa using hst)]
    rfl
  rw [exec_presenceRaised]
  refine act_runPort_quiet Ctl.raisePresence _ hs (if_neg (Bool.eq_false_iff.1 hp)) ctl (Ctl.enterIdentify_ended _ _ _)
    (.inr (by rw [entered.1]; rfl)) ?_
  intro t ⟨port, frame, _, reported⟩ hwe hregs _
  rw [kinds] at reported
  rw [← port] at entered
  exact ⟨entered, reported (by decide), frame, hwe, hregs⟩

@[simp] theorem Ctl.losePresence_start_kinds (c : Port) : (Ctl.start c).losePresence.kinds = 1 := by
  show (0 : BitVec 5) ||| kindPresence = 1
  decide

/-- Presence lost in OFF and EMPTY (R4, R9, R132). -/
theorem State.presenceLost_recorded (s : State) (p : PortNo)
    (hst : (s.port p).st = .off ∨ (s.port p).st = .empty) :
    (s.presenceLost p).port p = { s.port p with present := false } ∧ Reported p 1 s (s.presenceLost p) ∧
    BusMarked p Txn.afterLoss s (s.presenceLost p) ∧ (s.presenceLost p).arb = s.arb ∧
    (s.presenceLost p).cache = s.cache ∧ SameOtherPorts p s (s.presenceLost p) ∧ SameBase s (s.presenceLost p) ∧
    (s.presenceLost p).we = s.we ∧ (s.presenceLost p).regs = s.regs ∧ (s.presenceLost p).out = s.out := by
  have steps : s.presenceLost p =
      ((s.clearStuck p).markTxn p Txn.afterLoss).runPort p fun _ c => c.losePresence := by
    unfold State.presenceLost
    rw [if_pos hst, Txn.losesPresence_eq]
  obtain ⟨port, ⟨others, base, cache, ⟨bus, arb⟩, -⟩, -, reported⟩ :=
    State.runPort_answer ((s.clearStuck p).markTxn p Txn.afterLoss) p (fun _ c => c.losePresence)
      (Ctl.start (s.port p)).losePresence rfl id
  obtain ⟨engine, regs, lines⟩ :=
    State.runPort_noJob ((s.clearStuck p).markTxn p Txn.afterLoss) p (fun _ c => c.losePresence) _ rfl rfl (.inl rfl)
  rw [Ctl.losePresence_start_kinds] at reported
  rw [← steps] at *
  exact ⟨port, reported (by decide), bus, arb, cache, others, base, engine, regs,
    lines.trans (List.append_nil _)⟩

/-- Presence lost at a port with a module: its LANE_TEST ends, and it enters EMPTY (R10, R128). -/
def Ctl.loseModule (env : Env) (c : Ctl) : Ctl :=
  (c.losePresence.endLaneTest .portLost fun _ _ _ => .lost).enterEmpty env.self

/-- EMPTY is entered, whatever test ran (R10). -/
theorem Ctl.loseModule_is (env : Env) (c : Port) :
    IsEmpty { c with present := false } ((Ctl.start c).loseModule env).port := by
  have entered := Ctl.enterEmpty_is ((Ctl.start c).losePresence.endLaneTest .portLost fun _ _ _ => .lost) env.self
  obtain ⟨lanes, tests, dwell, timer, ended⟩ :=
    Ctl.endLaneTest_port .portLost (fun _ _ _ => .lost) (Ctl.start c).losePresence
  rw [ended] at entered
  exact entered

theorem Ctl.loseModule_kinds (env : Env) (c : Port) : ((Ctl.start c).loseModule env).kinds = 3 := by
  simp [Ctl.loseModule, kindMilestone]

/-- An event that ends its port's LANE_TEST and takes the port to a state other than HELD and ACTIVE. -/
theorem State.leaves_answer (s : State) (p : PortNo) (f : Env → Ctl → Ctl) {c : Ctl} {st : Status}
    {g : PortTest → LaneNo → TestRecord → LaneVerdict} {v : PortTest → LaneNo → Nat → LaneVerdict}
    (htest : c.port.test = (s.port p).test) (hlanes : c.port.lanes = (s.port p).lanes)
    (hend : (s.ctl p f).ended = (c.endLaneTest st g).ended) (hv : ∀ T i e, g T i ⟨e, none⟩ = v T i e)
    (held : (s.ctl p f).port.st ≠ .held) (active : (s.ctl p f).port.st ≠ .active) :
    EventAnswer p (s.ctl p f) s (s.runPort p f) ∧ LaneTestEnded p (s.port p) v st s.mm.ops s (s.runPort p f) := by
  rw [State.runPort_of_not_active s p f active]
  exact ⟨State.settle_answer s p _, State.settle_laneTestEnded_of_left htest hlanes hend hv held⟩

/-- The event of presence lost at a port with a module. -/
theorem State.loseModule_answer (s : State) (p : PortNo) :
    EventAnswer p ((Ctl.start (s.port p)).loseModule (s.env p)) s (s.runPort p Ctl.loseModule) ∧
    LaneTestEnded p (s.port p) (fun _ _ _ => .lost) .portLost s.mm.ops s (s.runPort p Ctl.loseModule) := by
  have st : (s.ctl p Ctl.loseModule).port.st = .empty := (Ctl.loseModule_is (s.env p) (s.port p)).1
  exact State.leaves_answer s p Ctl.loseModule (c := (Ctl.start (s.port p)).losePresence) (g := fun _ _ _ => .lost)
    rfl rfl (Ctl.enterEmpty_ended _ _) (fun _ _ _ => rfl) (by rw [st]; decide) (by rw [st]; decide)

/-- Presence lost outside OFF and EMPTY (R10, R128, R132, R144, R147). -/
theorem State.presenceLost_empties (s : State) (p : PortNo) (hoff : (s.port p).st ≠ .off)
    (hempty : (s.port p).st ≠ .empty) :
    IsEmpty { s.port p with present := false } ((s.presenceLost p).port p) ∧
    LaneTestEnded p (s.port p) (fun _ _ _ => .lost) .portLost s.mm.ops s (s.presenceLost p) ∧
    Reported p 3 s (s.presenceLost p) ∧ BusMarked p Txn.afterLoss s (s.presenceLost p) ∧
    RequestsDropped p s (s.presenceLost p) ∧ SameOtherPorts p s (s.presenceLost p) ∧ SameBase s (s.presenceLost p) ∧
    SameWindow s (s.presenceLost p) ∧ SameEngine s (s.presenceLost p) ∧ ListGrows s (s.presenceLost p) := by
  have steps : s.presenceLost p = ((s.clearStuck p).leaveBus p Txn.afterLoss).runPort p Ctl.loseModule := by
    unfold State.presenceLost
    rw [if_neg (by simp [hoff, hempty]), Txn.losesPresence_eq]
    rfl
  obtain ⟨⟨port, ⟨others, base, cache, ⟨bus, arb⟩, window, engine, list⟩, -, reported⟩, test⟩ :=
    State.loseModule_answer ((s.clearStuck p).leaveBus p Txn.afterLoss) p
  have entered := Ctl.loseModule_is (s.env p) (s.port p)
  rw [Ctl.loseModule_kinds] at reported
  rw [← steps] at *
  rw [show (s.presenceLost p).port p = _ from port]
  exact ⟨entered, test.of_same rfl rfl, reported (by decide), bus, ⟨arb, cache⟩, others, base, window, engine, list⟩

/-- Settles O12, by the port's state and presence: what presence raised and lost do at the port, its LANE_TEST, the bus,
the arbiter and the plan cache. -/
theorem presenceChangesAreRecorded : Obligations.PresenceChangesAreRecorded := by
  refine ⟨fun p s hs => ⟨fun hp => ?_, presenceRaised_recorded p s hs, presenceRaised_identifies p s hs⟩,
    fun p s hs => ⟨fun hp => ?_, fun hp hst => ?_, fun hp hoff hempty => ?_⟩⟩
  · rw [exec_presenceRaised]
    exact act_idle hs (if_pos hp)
  · rw [exec_presenceLost]
    exact act_idle hs (if_neg (Bool.eq_false_iff.1 hp))
  · obtain ⟨port, reported, bus, arb, cache, others, base, engine, regs, lines⟩ :=
      State.presenceLost_recorded { s with out := [] } p hst
    have effect : (if (State.port { s with out := [] } p).present then State.presenceLost { s with out := [] } p
        else { s with out := [] }) = State.presenceLost { s with out := [] } p := if_pos hp
    rw [exec_presenceLost, act_same_regs hs (by rw [effect]; exact regs), effect]
    exact ⟨_, rfl, port, reported, bus, arb, cache, others, base, engine, regs, lines⟩
  · rw [exec_presenceLost]
    refine act_answer hs fun o => ?_
    rw [if_pos (show (State.port { s with out := [] } p).present = true from hp)]
    exact State.presenceLost_empties { s with out := [] } p hoff hempty

/-- Settles O11: one change handed over, by the record it meets and the phase of the report engine; and the one change
that presence lost from ACTIVE hands over. -/
theorem changesAreHandedOver : Obligations.ChangesAreHandedOver := by
  refine ⟨fun p s hs => ?_, fun s p kinds empty => ?_, fun s p kinds full => ?_, State.handOver_triggers,
    fun s p hs hp active => ?_⟩
  · have answer := act_same_regs (f := fun s => s.handOver p kindAlert) hs (State.handOver_regs _ _ _)
    rw [exec_alertAsserted, answer]
    exact ⟨_, rfl, State.handOver_rep _ _ _, State.handOver_ports _ _ _, State.handOver_we _ _ _,
      State.handOver_regs _ _ _, SharedFrame.handOver { s with out := [] } p kindAlert, State.handOver_out _ _ _⟩
  · rw [State.handOver_recs, State.handOver_queue, empty]
    exact ⟨by simp, if_pos rfl⟩
  · exact ⟨State.handOver_recs s p kinds, by rw [State.handOver_queue, if_neg full]⟩
  · obtain ⟨-, lost⟩ := presenceChangesAreRecorded
    obtain ⟨-, -, left⟩ := lost p s hs
    obtain ⟨t, answer, -, -, reported, -⟩ := left hp (by rw [active]; decide) (by rw [active]; decide)
    exact ⟨t, answer, by rw [reported]; rfl⟩

end Sys2Proof.Machine


/-!
# Drops (R22, R35, R128)
-/

namespace Sys2Proof.Machine

/-- What a drop makes of a port: counted, it is held by its own setting or by the drop limit, or begins again from
SIGNAL (R22, R25). -/
def DroppedTo (cfg : ConfigCopy) (c d : Port) : Prop :=
  d.drops = c.countDrop.drops ∧ (c.holdOnDrop = true → IsHeld .linkDropped c.countDrop d) ∧
  (c.holdOnDrop = false → cfg.dropLimit ≠ 0 → cfg.dropLimit ≤ c.countDrop.drops → IsHeld .flapping c.countDrop d) ∧
  (c.holdOnDrop = false → (cfg.dropLimit = 0 ∨ c.countDrop.drops < cfg.dropLimit) → IsSignal cfg c.countDrop d)

/-- A drop leaves the settings and the count of the port that its test's end finds. -/
theorem Ctl.endByDrop_port (i : LaneNo) (c : Ctl) : ∃ lanes test dwell timer, (c.endByDrop i).port =
    { c.port.countDrop with lanes := lanes, test := test, dwellTimer := dwell, testTimer := timer } :=
  Ctl.endLaneTest_port _ _ _

theorem Ctl.enterSignal_drops (env : Env) (c : Ctl) : (c.enterSignal env).port.drops = c.port.drops := by
  simp [Ctl.enterSignal, Ctl.commandAll_port, Port.mapLanes, Port.setPhase, Port.clearBringUp, Ctl.goTo_port,
    Port.closeTest]

/-- A drop on a set lane of an ACTIVE port: HELD by the port's setting, HELD by the drop limit, or SIGNAL. -/
theorem Ctl.drop_cases (env : Env) (i : LaneNo) (c : Ctl) (active : c.port.st = .active)
    (lane : hasLane c.port.laneSet i = true) :
    (c.port.holdOnDrop = true ∧ c.drop env i = (c.endByDrop i).enterHeld env.self .linkDropped) ∨
    (c.port.holdOnDrop = false ∧ env.cfg.dropLimit ≠ 0 ∧ env.cfg.dropLimit ≤ c.port.countDrop.drops ∧
      c.drop env i = (c.endByDrop i).enterHeld env.self .flapping) ∨
    (c.port.holdOnDrop = false ∧ ¬ (env.cfg.dropLimit ≠ 0 ∧ env.cfg.dropLimit ≤ c.port.countDrop.drops) ∧
      c.drop env i = (c.endByDrop i).enterSignal env) := by
  obtain ⟨lanes, test, dwell, timer, ended⟩ := c.endByDrop_port i
  have hold : (c.endByDrop i).port.holdOnDrop = c.port.holdOnDrop := by rw [ended]; rfl
  have drops : (c.endByDrop i).port.drops = c.port.countDrop.drops := by rw [ended]
  rw [Ctl.drop_steps, if_pos ⟨active, lane⟩, hold, drops]
  cases h : c.port.holdOnDrop with
  | true => exact .inl ⟨rfl, if_pos rfl⟩
  | false =>
    rw [if_neg Bool.false_ne_true]
    split_ifs with limit
    · exact .inr (.inl ⟨rfl, limit.1, limit.2, rfl⟩)
    · exact .inr (.inr ⟨rfl, limit, rfl⟩)

/-- What a drop on a set lane of an ACTIVE port makes of it. -/
theorem Ctl.drop_is (env : Env) (i : LaneNo) (c : Ctl) (active : c.port.st = .active)
    (lane : hasLane c.port.laneSet i = true) : DroppedTo env.cfg c.port (c.drop env i).port := by
  obtain ⟨lanes, test, dwell, timer, ended⟩ := c.endByDrop_port i
  have held : ∀ why, IsHeld why c.port.countDrop ((c.endByDrop i).enterHeld env.self why).port := fun why => by
    have entered := (c.endByDrop i).enterHeld_is env.self why
    rw [ended] at entered
    exact entered
  have drops : ∀ why d, IsHeld why c.port.countDrop d → d.drops = c.port.countDrop.drops :=
    fun _ _ ⟨_, _, _, _, _, _, _, _, _, _, _, drops⟩ => drops
  rcases c.drop_cases env i active lane with ⟨hold, e⟩ | ⟨hold, limit, reached, e⟩ | ⟨hold, limit, e⟩ <;> rw [e]
  · exact ⟨drops _ _ (held _), fun _ => held _, by simp [hold], by simp [hold]⟩
  · exact ⟨drops _ _ (held _), by simp [hold], fun _ _ _ => held _, fun _ h => by omega⟩
  · refine ⟨?_, by simp [hold], fun _ h h' => absurd ⟨h, h'⟩ limit, fun _ _ => ?_⟩
    · rw [Ctl.enterSignal_drops, ended]
    · have entered := (c.endByDrop i).enterSignal_is env
      rw [ended] at entered
      exact entered

/-- A drop marks MILESTONE: the port leaves ACTIVE. -/
theorem Ctl.drop_kinds (env : Env) (i : LaneNo) (c : Ctl) (active : c.port.st = .active)
    (lane : hasLane c.port.laneSet i = true) : (c.drop env i).kinds = c.kinds ||| kindMilestone := by
  obtain ⟨lanes, test, dwell, timer, ended⟩ := c.endByDrop_port i
  have kinds : (c.endByDrop i).kinds = c.kinds := Ctl.endLaneTest_kinds _ _ _
  have leaves : (c.endByDrop i).leavingMark = kindMilestone := by
    unfold Ctl.leavingMark
    rw [ended]
    exact if_pos active
  rcases c.drop_cases env i active lane with ⟨-, e⟩ | ⟨-, -, -, e⟩ | ⟨-, -, e⟩ <;> rw [e] <;> simp [kinds, leaves]

/-- A drop ends the port's LANE_TEST, and an entry into HELD keeps the records of it. -/
theorem Ctl.drop_test (env : Env) (i : LaneNo) (c : Ctl) (active : c.port.st = .active)
    (lane : hasLane c.port.laneSet i = true) :
    (c.drop env i).ended = (c.endByDrop i).ended ∧ ((c.drop env i).port.st = .held →
      (∀ T, (c.endByDrop i).port.test = some T → T.ended = true → (c.drop env i).port.test = some T) ∧
      ∀ j, ((c.drop env i).port.lane j).test = ((c.endByDrop i).port.lane j).test) := by
  rcases c.drop_cases env i active lane with ⟨-, e⟩ | ⟨-, -, -, e⟩ | ⟨-, -, e⟩ <;> rw [e]
  · exact ⟨Ctl.enterHeld_ended _ _ _, fun _ => Ctl.enterHeld_keepsTest _ _ _⟩
  · exact ⟨Ctl.enterHeld_ended _ _ _, fun _ => Ctl.enterHeld_keepsTest _ _ _⟩
  · exact ⟨Ctl.enterSignal_ended _ _, fun h => by rw [(Ctl.enterSignal_is _ env).1] at h; cases h⟩

/-- A lock lost that is no drop does nothing. -/
theorem Ctl.drop_idle (env : Env) (i : LaneNo) (c : Ctl) (h : ¬ (c.port.st = .active ∧ hasLane c.port.laneSet i = true)) :
    c.drop env i = c := if_neg h

/-- The event of a drop on a set lane of an ACTIVE port (R22, R128). -/
theorem State.drop_answer (s : State) (p : PortNo) (i : LaneNo) (active : (s.port p).st = .active)
    (lane : hasLane (s.port p).laneSet i = true) :
    let t := s.settle p ((Ctl.start (s.port p)).drop (s.env p) i)
    DroppedTo s.we.cfg (s.port p) (t.port p) ∧
    LaneTestEnded p (s.port p) (fun T j e => if j = i then .lost else stopGives T j e) .portLost s.mm.ops s t ∧
    Reported p 2 s t ∧ PortEventFrame p s t := by
  obtain ⟨port, frame, -, reported⟩ := s.settle_answer p ((Ctl.start (s.port p)).drop (s.env p) i)
  obtain ⟨ended, held⟩ := (Ctl.start (s.port p)).drop_test (s.env p) i active lane
  have kinds : ((Ctl.start (s.port p)).drop (s.env p) i).kinds = 2 := by
    rw [Ctl.drop_kinds _ _ _ active lane]
    simp [kindMilestone]
  rw [kinds] at reported
  refine ⟨?_, ?_, reported (by decide), frame⟩
  · rw [port]
    exact Ctl.drop_is (s.env p) i _ active lane
  · exact State.settle_laneTestEnded (c := (Ctl.start (s.port p)).mod Port.countDrop) (st := .portLost)
      (g := fun t j r => if j = i then .lost else t.stopVerdict r) rfl rfl ended (fun _ _ _ => rfl) held

theorem exec_lockLost (p : PortNo) (i : LaneNo) (s : State) : exec (.lockLost p i) s =
    act s fun s => match ((s.port p).lane i).st with
      | .locked => s.runPort p (Ctl.loseLock i)
      | .data => s.runPort p fun env c => c.drop env i
      | .quiet | .beacon | .training | .failed => s := rfl

/-- LOCK_LOST on a set lane of an ACTIVE port. -/
theorem lockLost_drops (p : PortNo) (i : LaneNo) (s : State) (hs : s.hold = .released)
    (data : ((s.port p).lane i).st = .data) (active : (s.port p).st = .active)
    (lane : hasLane (s.port p).laneSet i = true) :
    ∃ t, exec (.lockLost p i) s = .next t ∧ DroppedTo s.we.cfg (s.port p) (t.port p) ∧
      LaneTestEnded p (s.port p) (fun T j e => if j = i then .lost else stopGives T j e) .portLost s.mm.ops s t ∧
      Reported p 2 s t ∧ PortEventFrame p s t := by
  rw [exec_lockLost]
  refine act_answer hs fun o => ?_
  have effect : State.runPort { s with out := [] } p (fun env c => c.drop env i) =
      State.settle { s with out := [] } p ((Ctl.start (s.port p)).drop (s.env p) i) :=
    State.runPort_of_active { s with out := [] } p _ active
  have st : ((State.port { s with out := [] } p).lane i).st = .data := data
  simp only [st]
  rw [effect]
  exact State.drop_answer { s with out := [] } p i active lane

/-- LOCK_LOST on a lane that is in none of LOCKED and a set lane's DATA. -/
theorem lockLost_idle (p : PortNo) (i : LaneNo) (s : State) (hs : s.hold = .released)
    (locked : ((s.port p).lane i).st ≠ .locked)
    (data : ((s.port p).lane i).st = .data → ¬ ((s.port p).st = .active ∧ hasLane (s.port p).laneSet i = true)) :
    ∃ t, exec (.lockLost p i) s = .next t ∧ Unchanged s t := by
  rw [exec_lockLost]
  refine act_idle hs ?_
  have same : (State.port { s with out := [] } p).lane i = (s.port p).lane i := rfl
  cases st : ((s.port p).lane i).st with
  | locked => exact absurd st locked
  | data =>
    simp only [same, st]
    exact State.runPort_start _ _ _ (Ctl.drop_idle _ _ _ (data st))
  | quiet => simp only [same, st]
  | beacon => simp only [same, st]
  | training => simp only [same, st]
  | failed => simp only [same, st]

/-- Settles O14: lock lost on a DATA lane is a drop on a set lane of an ACTIVE port, and nothing else; in the lane states
besides LOCKED it does nothing. -/
theorem lockLostOnAnActivePortIsADrop : Obligations.LockLostOnAnActivePortIsADrop := by
  intro p i s hs
  refine ⟨fun other => ?_, fun data active lane hold => ?_, fun data active lane hold limit reached => ?_,
    fun data active lane hold limit => ?_⟩
  · refine lockLost_idle p i s hs ?_ fun data => ?_
    · rintro locked
      simp [locked] at other
    · rintro ⟨active, lane⟩
      simp [data, active, lane] at other
  · obtain ⟨t, answer, ⟨-, held, -⟩, rest⟩ := lockLost_drops p i s hs data active lane
    exact ⟨t, answer, held hold, rest⟩
  · obtain ⟨t, answer, ⟨-, -, flapping, -⟩, rest⟩ := lockLost_drops p i s hs data active lane
    exact ⟨t, answer, flapping hold limit reached, rest⟩
  · obtain ⟨t, answer, ⟨drops, -, -, signal⟩, rest⟩ := lockLost_drops p i s hs data active lane
    exact ⟨t, answer, signal hold limit, drops, rest⟩

end Sys2Proof.Machine


/-!
# The reset values and the timebase (R1, R27, R28, R38, R119, R167, R171, R186)
-/

namespace Sys2Proof.Machine

/-! ## The state after reset -/

/-- A port context after device reset holds the reset values. -/
theorem Port.initial_atReset (present : Bool) : PortAtReset (Port.initial present) := by
  simp [PortAtReset, LaneAtReset, Port.initial, Port.lane, Lane.initial]

theorem State.port_reset (p : PortNo) : State.reset.port p = Port.initial false := by
  simp [State.port, State.reset, State.initial]

/-- Every block after device reset holds its reset values (R185). -/
theorem State.reset_atReset : AtReset State.reset := by
  refine ⟨rfl, fun p => ?_, ⟨rfl, rfl, rfl, fun p => ?_⟩, ⟨rfl, rfl, rfl, rfl, fun p => ?_⟩,
    ⟨fun p => ?_, rfl, rfl, rfl⟩, ?_, rfl, ?_, rfl, rfl, rfl⟩
  · rw [State.port_reset]; exact Port.initial_atReset _
  · simp [State.reset, State.initial, PlanCache.initial]
  · simp [State.reset, State.initial, BusCtl.initial]
  · simp [State.reset, State.initial, Arbiter.initial]
  · simp [EngineAtReset, ConfigAtReset, State.reset, State.initial, WorkEngine.initial, ConfigCopy.initial]
  · simp [ReportsAtReset, State.reset, State.initial, ReportEngine.initial]

/-- Settles O3: the reset state is built from the reset values of each block, and with no port at work, nothing cached
and nothing queued the invariants hold of it. -/
theorem resetStateHoldsTheResetValues : Obligations.ResetStateHoldsTheResetValues := by
  have outputs : OutputsMatchState State.reset := fun p => by rw [State.port_reset]; simp [Port.initial]
  have attempts : AttemptsWithinBudget State.reset :=
    ⟨Nat.le_of_ble_eq_true rfl, Nat.le_of_ble_eq_true rfl, fun p => by rw [State.port_reset]; exact Nat.zero_le _⟩
  have cache : CacheWellFormed State.reset := by
    simp [CacheWellFormed, State.reset, State.initial, PlanCache.initial]
  have reports : ReportQueueMatchesRecords State.reset := by
    simp [ReportQueueMatchesRecords, State.reset, State.initial, ReportEngine.initial]
  exact ⟨State.reset_atReset, rfl, rfl, fun p => by rw [State.port_reset]; rfl, rfl, outputs, attempts, cache, reports⟩

/-! ## The tick (R186) -/

/-- Out of reset the tick is the tick of every block. -/
theorem exec_tick (s : State) (h : s.hold = .released) : exec .tick s = act s State.tick := by
  show execTick s = _
  unfold execTick
  rw [h]

@[simp] theorem State.port_tick (s : State) (p : PortNo) : s.tick.port p = (s.port p).tick := by
  simp [State.port, State.tick]

@[simp] theorem State.slot_tick (s : State) (k : Fin 16) : s.tick.we.slots[k] = s.we.slots[k].map Job.tick := by
  simp [State.tick]

/-- A running test's elapsed time goes up to its dwell, or to saturation (R119, R126). -/
theorem PortTest.tick_eq (T : PortTest) : T.tick = if T.ended then T else { T with
    elapsed := min (T.elapsed + 1) (max (T.dwell.getD (281474976710655 / T.grade.bitsPerMs)) T.elapsed) } := rfl

/-- The wait of the operation in progress goes up to 50 ms (R171). -/
theorem MemMaster.tick_eq (m : MemMaster) :
    m.tick = { m with age := if m.ops = [] then m.age else min (m.age + 1) 50 } := by
  unfold MemMaster.tick
  split_ifs <;> rfl

/-- Settles O54: the tick of each block, read field by field. -/
theorem theTickMovesEveryTimer : Obligations.TheTickMovesEveryTimer := by
  intro s hs
  have answer : exec .tick s = .next (State.tick { s with out := [] }) := by
    rw [exec_tick s hs]; exact act_same_regs hs rfl
  refine ⟨_, answer, rfl, fun p => ?_, fun k => ?_, rfl, rfl, MemMaster.tick_eq s.mm, rfl, rfl, rfl, rfl, hs ▸ rfl,
    rfl, rfl, rfl⟩
  · rw [State.port_tick]
    rfl
  · rw [State.slot_tick]
    rfl

end Sys2Proof.Machine


/-!
# Requests on a port (R7, R8, R16, R26, R162 to R164, R170)
-/

namespace Sys2Proof.Machine

/-! ## A request and its completion -/

/-- A request row acts when the engine can take it (R157; log 7). -/
theorem act_takeRequest {s : State} {k : Kind} {r : Request} {f : State → State} (take : CanTake s k r) :
    act s (fun s => s.takeRequest k r f) = act s f := by
  have taken : State.takeRequest { s with out := [] } k r f = f { s with out := [] } := if_pos take
  unfold act
  dsimp only
  rw [taken]

/-- A request on a port below 32 acts on that port (R163). -/
theorem State.onPort_of_names {s : State} {r : Request} {p : PortNo} {f : PortNo → State} (h : Names r p) :
    s.onPort r f = f p := by
  have named : reqPort r = some p := by
    unfold reqPort
    rw [dif_pos (show r.port.toNat < 32 by rw [h]; exact p.isLt)]
    exact congrArg some (Fin.ext h)
  unfold State.onPort
  rw [named]

/-- A completion leaves alone all but the memory master's list and EVENTS (R162). -/
theorem State.completeReq_frame (s : State) (r : Request) (bufs : List MemOp) (st : Status) (n : Nat) :
    RequestFrame s (s.completeReq r bufs st n) := by
  have regs := State.complete_regs s r.index r.iFlag bufs st n
  exact ⟨⟨by simp, by simp, by simp, by simp⟩, by simp, ⟨by simp, by simp⟩, by simp, by simp,
    State.complete_age _ _ _ _ _ _, by rw [State.completeReq, regs], by rw [State.completeReq, regs]⟩

theorem SharedFrame.completeReq (s : State) (r : Request) (bufs : List MemOp) (st : Status) (n : Nat) :
    SharedFrame s (s.completeReq r bufs st n) := .complete s _ _ _ _ _

/-- A command that leaves the lines quiet sends at most the message of a change of the interrupt condition (R179). -/
theorem act_message {s : State} {eff : State → State} {P : State → Prop} (hs : s.hold = .released)
    (lines : (eff { s with out := [] }).out = [])
    (hP : ∀ o, OnlyInterrupt s { eff { s with out := [] } with out := o } → P { eff { s with out := [] } with out := o }) :
    ∃ t, act s eff = .next t ∧ P t := by
  refine ⟨_, act_released s eff hs, hP _ (OnlyInterrupt.of_message s _ ?_)⟩
  show (eff { s with out := [] }).out ++ _ = _
  rw [lines]
  rfl

/-- A command whose effect from quiet lines is known, and leaves them quiet. -/
theorem act_quiet {s : State} (eff : State → State) (u : State) {P : State → Prop} (hs : s.hold = .released)
    (he : eff { s with out := [] } = u) (lines : u.out = []) (hP : ∀ o, P { u with out := o }) :
    ∃ t, act s eff = .next t ∧ P t ∧ OnlyInterrupt s t := by
  refine act_message hs (by rw [he]; exact lines) fun o message => ?_
  rw [he] at message ⊢
  exact ⟨hP o, message⟩

/-- A request that acts on no more than port contexts and completes. -/
theorem act_completeReq {s : State} (eff : State → State) (ports : Vector Port 32) {r : Request} {bufs : List MemOp}
    {st : Status} {n : Nat} (hs : s.hold = .released)
    (he : eff { s with out := [] } = State.completeReq { s with ports := ports, out := [] } r bufs st n) :
    ∃ t, act s eff = .next t ∧ (t.ports = ports ∧ Completed s t r bufs st n ∧ RequestFrame s t) ∧ OnlyInterrupt s t :=
  act_quiet (P := fun t => t.ports = ports ∧ Completed s t r bufs st n ∧ RequestFrame s t) eff _ hs he
    (State.completeReq_out _ _ _ _ _) fun _ =>
    ⟨State.completeReq_ports _ _ _ _ _, State.completeReq_completed { s with ports := ports, out := [] } r bufs st n,
      State.completeReq_frame { s with ports := ports, out := [] } r bufs st n⟩

/-- A request that acts on port contexts, with commands to front ends, and completes. -/
theorem act_completeReq_lines {s : State} (eff : State → State) (ports : Vector Port 32) (l : List Out) {r : Request}
    {bufs : List MemOp} {st : Status} {n : Nat} (hs : s.hold = .released)
    (he : eff { s with out := [] } = State.completeReq { s with ports := ports, out := l } r bufs st n) :
    ∃ t, act s eff = .next t ∧ t.ports = ports ∧ Completed s t r bufs st n ∧ RequestFrame s t := by
  refine act_answer hs fun o => ?_
  rw [he]
  exact ⟨State.completeReq_ports _ _ _ _ _, State.completeReq_completed { s with ports := ports, out := l } r bufs st n,
    State.completeReq_frame { s with ports := ports, out := l } r bufs st n⟩

/-- The completion of a request after an event that may have issued a report read (R162; log 42). -/
theorem State.completeReq_last {s u : State} (list : ListGrows s u) (engine : SameEngine s u) (r : Request) (st : Status)
    (n : Nat) : CompletedLast s (u.completeReq r [] st n) r st n := by
  obtain ⟨ops, work⟩ := u.completeReq_completed r [] st n
  obtain ⟨⟨more, grown⟩, -⟩ := list
  obtain ⟨-, -, -, -, anchor, -⟩ := engine
  refine ⟨more, ?_, fun flag => ?_⟩
  · rw [ops, ← grown, completionOps, completionOps, anchor]
  · rw [work, flag]
    exact or_and_self_right _ _

/-- What a LANE_TEST's end says still holds when more has joined the list. -/
theorem LaneTestEnded.later {s u t : State} {p : PortNo} {c : Port} {v : PortTest → LaneNo → Nat → LaneVerdict}
    {st : Status} {before : List MemEntry} (h : LaneTestEnded p c v st before s u) (g : SharedFrame u t)
    (hp : t.ports = u.ports) : LaneTestEnded p c v st before s t := by
  intro T k tag runs
  obtain ⟨c', closed, free, done, held⟩ := h T k tag runs
  refine ⟨c', closed, slot_free_later free g, done.later g, fun hheld => ?_⟩
  rw [State.port_congr hp] at hheld ⊢
  exact held hheld

/-- An event that completes no job and hands nothing over changes its port and the lines alone. -/
theorem State.runPort_plain (s : State) (p : PortNo) (f : Env → Ctl → Ctl) (c : Ctl) (hc : s.ctl p f = c)
    (hk : c.kinds = 0) (he : c.ended = none) (hst : c.port.st = (s.port p).st ∨ c.port.st.settled = false) :
    s.runPort p f = (s.setPort p c.port).emit c.out := by
  subst hc
  rw [State.runPort_quiet s p f he hst, if_pos hk]

/-- One port replaced: that port, and the others. -/
theorem port_of_ports_set {s t : State} {p : PortNo} {c : Port} (h : t.ports = s.ports.set p c) :
    t.port p = c ∧ SameOtherPorts p s t := by
  have same : t.ports = (s.setPort p c).ports := h
  exact ⟨by rw [State.port_congr same, State.port_setPort],
    fun q hq => by rw [State.port_congr same, State.port_setPort_of_ne _ _ _ _ hq]⟩

/-! ## CAPS_LIMIT and SET_CONFIG (R16, R170) -/

theorem exec_capsLimit (r : Request) (s : State) :
    exec (.capsLimit r) s = act s fun s => s.takeRequest .capsLimit r fun s => s.startCapsLimit r := rfl

theorem exec_setConfig (r : Request) (s : State) :
    exec (.setConfig r) s = act s fun s => s.takeRequest .setConfig r fun s => s.startSetConfig r := rfl

/-- Settles O53: CAPS_LIMIT sets the two ceilings and completes; SET_CONFIG pushes its read. -/
theorem capsLimitAndSetConfigStart : Obligations.CapsLimitAndSetConfigStart := by
  refine ⟨fun p r s hs take names => ?_, fun r s hs take => ?_⟩
  · have effect : State.startCapsLimit { s with out := [] } r =
        State.completeReq (State.setPort { s with out := [] } p { s.port p with
          gradeCeil := min (r.argA.extractLsb' 0 8).toNat 4, widthCeil := min (r.argA.extractLsb' 8 8).toNat 4 }) r [] .ok
          (min (r.argA.extractLsb' 0 8).toNat 4 + 256 * min (r.argA.extractLsb' 8 8).toNat 4) :=
      State.onPort_of_names names
    rw [exec_capsLimit, act_takeRequest take]
    obtain ⟨t, answer, ⟨ports, done, frame⟩, lines⟩ := act_completeReq (fun s => s.startCapsLimit r) (s.ports.set p _) hs effect
    obtain ⟨port, others⟩ := port_of_ports_set ports
    exact ⟨t, answer, port, done, others, frame, lines⟩
  · rw [exec_setConfig, act_takeRequest take]
    exact act_same_regs hs rfl

/-! ## PORT_ENABLE (R7) -/

theorem exec_portEnable (r : Request) (s : State) :
    exec (.portEnable r) s = act s fun s => s.takeRequest .portEnable r fun s => s.startEnable r := rfl

/-- The host's enable setting, with the send clock started (R7, R38). -/
def Port.enabled (cfg : ConfigCopy) (hold : Bool) (c : Port) : Port :=
  { c with holdOnDrop := hold, sendClock := some cfg.beaconInterval }

@[simp] theorem Port.enabled_st (cfg : ConfigCopy) (hold : Bool) (c : Port) : (c.enabled cfg hold).st = c.st := rfl

/-- PORT_ENABLE at a port in OFF (R7). -/
def Ctl.enable (hold : Bool) (env : Env) (c : Ctl) : Ctl :=
  if (c.mod (Port.enabled env.cfg hold)).port.present then
    (c.mod (Port.enabled env.cfg hold)).enterIdentify env.self false
  else (c.mod (Port.enabled env.cfg hold)).enterEmpty env.self

/-- PORT_ENABLE with no chassis ID (R7). -/
theorem State.startEnable_noIdentity {s : State} {r : Request} {p : PortNo} (names : Names r p)
    (chassis : s.we.chassis = 0) : s.startEnable r = s.completeReq r [] .noIdentity (s.stateWord p) := by
  have effect : s.enablePort p (r.argA.getLsbD 0) = (s, .noIdentity) := if_pos chassis
  rw [State.startEnable, State.onPort_of_names names, effect]

/-- PORT_ENABLE at a port that is not in OFF (R7). -/
theorem State.startEnable_already {s : State} {r : Request} {p : PortNo} (names : Names r p) (chassis : s.we.chassis ≠ 0)
    (on : (s.port p).st ≠ .off) : s.startEnable r =
      (s.setPort p { s.port p with holdOnDrop := r.argA.getLsbD 0 }).completeReq r [] .already (s.stateWord p) := by
  have effect : s.enablePort p (r.argA.getLsbD 0) =
      (s.setPort p { s.port p with holdOnDrop := r.argA.getLsbD 0 }, .already) := by
    unfold State.enablePort
    rw [if_neg chassis, if_neg on]
  rw [State.startEnable, State.onPort_of_names names, effect]
  simp [State.stateWord]

/-- PORT_ENABLE at a port in OFF (R7). -/
theorem State.startEnable_opens {s : State} {r : Request} {p : PortNo} (names : Names r p) (chassis : s.we.chassis ≠ 0)
    (off : (s.port p).st = .off) : s.startEnable r =
      (s.runPort p (Ctl.enable (r.argA.getLsbD 0))).completeReq r [] .ok
        ((s.runPort p (Ctl.enable (r.argA.getLsbD 0))).stateWord p) := by
  have effect : s.enablePort p (r.argA.getLsbD 0) = (s.runPort p (Ctl.enable (r.argA.getLsbD 0)), .ok) := by
    unfold State.enablePort
    rw [if_neg chassis, if_pos off]
    rfl
  rw [State.startEnable, State.onPort_of_names names, effect]

/-- PORT_ENABLE at a port in OFF with a module: IDENTIFY is entered, and nothing is handed over. -/
theorem State.startEnable_identifies {s : State} {r : Request} {p : PortNo} (names : Names r p) (chassis : s.we.chassis ≠ 0)
    (off : (s.port p).st = .off) (present : (s.port p).present = true) :
    let d := (((Ctl.start (s.port p)).mod (Port.enabled s.we.cfg (r.argA.getLsbD 0))).enterIdentify p false)
    s.startEnable r = ((s.setPort p d.port).emit d.out).completeReq r [] .ok 2 := by
  intro d
  have ctl : s.ctl p (Ctl.enable (r.argA.getLsbD 0)) = d := if_pos present
  have st : d.port.st = .identify := (Ctl.enterIdentify_is _ p false).1
  have kinds : d.kinds = 0 := by
    simp [d, Ctl.leavingMark, off]
  have run := State.runPort_plain s p _ d ctl kinds (Ctl.enterIdentify_ended _ _ _) (.inr (by rw [st]; rfl))
  rw [State.startEnable_opens names chassis off, run]
  simp [State.stateWord, State.port, st, PortState.code]

/-- PORT_ENABLE at a port in OFF without a module: EMPTY is entered. -/
theorem State.startEnable_empties {s : State} {r : Request} {p : PortNo} (names : Names r p) (chassis : s.we.chassis ≠ 0)
    (off : (s.port p).st = .off) (absent : (s.port p).present = false) :
    IsEmpty ((s.port p).enabled s.we.cfg (r.argA.getLsbD 0)) ((s.startEnable r).port p) ∧
    CompletedLast s (s.startEnable r) r .ok 1 ∧ Reported p 2 s (s.startEnable r) ∧
    PortEventFrame p s (s.startEnable r) := by
  have ctl : s.ctl p (Ctl.enable (r.argA.getLsbD 0)) =
      ((Ctl.start (s.port p)).mod (Port.enabled s.we.cfg (r.argA.getLsbD 0))).enterEmpty p :=
    if_neg (Bool.eq_false_iff.1 absent)
  have entered := Ctl.enterEmpty_is ((Ctl.start (s.port p)).mod (Port.enabled s.we.cfg (r.argA.getLsbD 0))) p
  obtain ⟨port, ⟨others, shared⟩, -, reported⟩ := State.runPort_answer s p _ _ ctl (by rw [entered.1]; simp)
  have word : (s.runPort p (Ctl.enable (r.argA.getLsbD 0))).stateWord p = 1 := by
    rw [State.stateWord, port, entered.1]; rfl
  have kinds : (((Ctl.start (s.port p)).mod (Port.enabled s.we.cfg (r.argA.getLsbD 0))).enterEmpty p).kinds = 2 := by
    simp [kindMilestone]
  rw [kinds] at reported
  rw [← port] at entered
  rw [State.startEnable_opens names chassis off, word]
  generalize s.runPort p (Ctl.enable (r.argA.getLsbD 0)) = u at *
  have ports := u.completeReq_ports r [] .ok 1
  obtain ⟨-, -, -, -, engine, list⟩ := id shared
  refine ⟨?_, State.completeReq_last list engine r .ok 1, ?_, fun q hq => ?_, shared.trans (.completeReq _ _ _ _ _)⟩
  · rw [State.port_congr ports]; exact entered
  · unfold Reported; rw [State.completeReq_rep]; exact reported (by decide)
  · rw [State.port_congr ports]; exact others q hq

/-- Settles O45: PORT_ENABLE by chassis ID, port state and presence. -/
theorem enableOpensAPort : Obligations.EnableOpensAPort := by
  intro p r s hs take names
  rw [exec_portEnable, act_takeRequest take]
  refine ⟨fun chassis => ?_, fun chassis off present => ?_, fun chassis off absent => ?_, fun chassis on => ?_⟩
  · obtain ⟨t, answer, ⟨ports, done, frame⟩, lines⟩ := act_completeReq (fun s => s.startEnable r) s.ports hs
      (State.startEnable_noIdentity (s := { s with out := [] }) names chassis)
    exact ⟨t, answer, done, ports, frame, lines⟩
  · have entered := Ctl.enterIdentify_is ((Ctl.start (s.port p)).mod (Port.enabled s.we.cfg (r.argA.getLsbD 0))) p false
    obtain ⟨t, answer, ports, done, frame⟩ := act_completeReq_lines (fun s => s.startEnable r) (s.ports.set p _) _ hs
      (State.startEnable_identifies (s := { s with out := [] }) names chassis off present)
    obtain ⟨port, others⟩ := port_of_ports_set ports
    exact ⟨t, answer, by rw [port]; exact entered, done, others, frame⟩
  · refine act_answer hs fun o => ?_
    exact State.startEnable_empties (s := { s with out := [] }) names chassis off absent
  · obtain ⟨t, answer, ⟨ports, done, frame⟩, lines⟩ := act_completeReq (fun s => s.startEnable r) (s.ports.set p _) hs
      (State.startEnable_already (s := { s with out := [] }) names chassis on)
    obtain ⟨port, others⟩ := port_of_ports_set ports
    exact ⟨t, answer, port, done, others, frame, lines⟩

/-! ## PORT_DISABLE and PORT_RESTART (R8, R26) -/

theorem exec_portDisable (r : Request) (s : State) :
    exec (.portDisable r) s = act s fun s => s.takeRequest .portDisable r fun s => s.startDisable r := rfl

theorem exec_portRestart (r : Request) (s : State) :
    exec (.portRestart r) s = act s fun s => s.takeRequest .portRestart r fun s => s.startRestart r := rfl

/-- PORT_DISABLE at a port that is not in OFF: its LANE_TEST ends, and it enters OFF (R8, R128). -/
def Ctl.disable (env : Env) (c : Ctl) : Ctl := (c.endLaneTest .portDisabled asStop).enterOff env.self

/-- PORT_RESTART at a port with a module: its LANE_TEST ends, and it enters IDENTIFY (R26, R128). -/
def Ctl.restart (env : Env) (c : Ctl) : Ctl := (c.endLaneTest .portRestarted asStop).enterIdentify env.self true

theorem Ctl.disable_is (env : Env) (c : Port) : IsOff c ((Ctl.start c).disable env).port := by
  have entered := Ctl.enterOff_is ((Ctl.start c).endLaneTest .portDisabled asStop) env.self
  obtain ⟨lanes, tests, dwell, timer, ended⟩ := Ctl.endLaneTest_port .portDisabled asStop (Ctl.start c)
  rw [ended] at entered
  exact entered

theorem Ctl.disable_kinds (env : Env) (c : Port) : ((Ctl.start c).disable env).kinds = 2 := by
  simp [Ctl.disable, kindMilestone]

theorem Ctl.restart_is (env : Env) (c : Port) : IsIdentify true c ((Ctl.start c).restart env).port := by
  have entered := Ctl.enterIdentify_is ((Ctl.start c).endLaneTest .portRestarted asStop) env.self true
  obtain ⟨lanes, tests, dwell, timer, ended⟩ := Ctl.endLaneTest_port .portRestarted asStop (Ctl.start c)
  rw [ended] at entered
  exact entered

/-- A restart hands over MILESTONE when the port leaves ACTIVE. -/
theorem Ctl.restart_kinds (env : Env) (c : Port) :
    ((Ctl.start c).restart env).kinds = if c.st = .active then 2 else 0 := by
  obtain ⟨lanes, tests, dwell, timer, ended⟩ := Ctl.endLaneTest_port .portRestarted asStop (Ctl.start c)
  rw [Ctl.restart, Ctl.enterIdentify_kinds, Ctl.endLaneTest_kinds, Ctl.leavingMark, ended]
  by_cases active : c.st = .active <;> simp [kindMilestone, active]

/-- PORT_DISABLE and PORT_RESTART at the module bus, the arbiter and the plan cache (R132, R141, R144, R147). -/
def State.leftByRequest (s : State) (p : PortNo) : State := (s.clearStuck p).leaveBus p Txn.afterPortRequest

theorem State.disablePort_off {s : State} {p : PortNo} (off : (s.port p).st = .off) :
    s.disablePort p = (s.clearStuck p).markTxn p Txn.afterPortRequest := by
  unfold State.disablePort
  rw [Txn.takesPortEvent_eq]
  exact if_pos off

theorem State.disablePort_on {s : State} {p : PortNo} (on : (s.port p).st ≠ .off) :
    s.disablePort p = (s.leftByRequest p).runPort p Ctl.disable := by
  unfold State.disablePort
  rw [Txn.takesPortEvent_eq]
  exact if_neg on

theorem State.restartPort_on {s : State} {p : PortNo} (on : (s.port p).st ≠ .off) (module : (s.port p).st ≠ .empty) :
    s.restartPort p = ((s.leftByRequest p).runPort p Ctl.restart, .ok) := by
  unfold State.restartPort
  rw [if_neg on, if_neg module, Txn.takesPortEvent_eq]
  rfl

/-- What an event that leaves the bus and ends a LANE_TEST, and the completion of its request after it, leave of the
state before. -/
theorem State.leftByRequest_completes {s u : State} {p : PortNo} {v : PortTest → LaneNo → Nat → LaneVerdict}
    {e : Status} (frame : PortEventFrame p (s.leftByRequest p) u)
    (test : LaneTestEnded p (s.port p) v e s.mm.ops (s.leftByRequest p) u) (r : Request) (n : Nat) :
    CompletedLast s (u.completeReq r [] .ok n) r .ok n ∧
    LaneTestEnded p (s.port p) v e s.mm.ops s (u.completeReq r [] .ok n) ∧
    BusMarked p Txn.afterPortRequest s (u.completeReq r [] .ok n) ∧ RequestsDropped p s (u.completeReq r [] .ok n) ∧
    SameOtherPorts p s (u.completeReq r [] .ok n) ∧ SameBase s (u.completeReq r [] .ok n) ∧
    SameWindow s (u.completeReq r [] .ok n) ∧ SameEngine s (u.completeReq r [] .ok n) := by
  obtain ⟨others, shared⟩ := frame
  obtain ⟨-, -, -, -, engine, list⟩ := id shared
  have last := State.completeReq_last (s := s) list engine r .ok n
  have completion := SharedFrame.completeReq u r [] .ok n
  have ports := u.completeReq_ports r [] .ok n
  have ended := (test.later completion ports).of_same (s := s) rfl rfl
  obtain ⟨base, cache, ⟨bus, arb⟩, window, engine, -⟩ := shared.trans completion
  exact ⟨last, ended, bus, ⟨arb, cache⟩, fun q hq => (State.port_congr ports q).trans (others q hq), base, window, engine⟩

/-- PORT_DISABLE at a port that is not in OFF (R8). -/
theorem State.startDisable_leaves {s : State} {r : Request} {p : PortNo} (names : Names r p)
    (on : (s.port p).st ≠ .off) :
    IsOff (s.port p) ((s.startDisable r).port p) ∧ CompletedLast s (s.startDisable r) r .ok 0 ∧
    LaneTestEnded p (s.port p) stopGives .portDisabled s.mm.ops s (s.startDisable r) ∧
    Reported p 2 s (s.startDisable r) ∧ BusMarked p Txn.afterPortRequest s (s.startDisable r) ∧
    RequestsDropped p s (s.startDisable r) ∧ SameOtherPorts p s (s.startDisable r) ∧ SameBase s (s.startDisable r) ∧
    SameWindow s (s.startDisable r) ∧ SameEngine s (s.startDisable r) := by
  have entered := Ctl.disable_is (s.env p) (s.port p)
  have st : ((s.leftByRequest p).ctl p Ctl.disable).port.st = .off := entered.1
  obtain ⟨⟨port, frame, -, reported⟩, test⟩ := State.leaves_answer (s.leftByRequest p) p Ctl.disable
    (c := Ctl.start (s.port p)) (g := asStop) (v := stopGives) rfl rfl (Ctl.enterOff_ended _ _)
    (fun T i e => T.stopVerdict_eq i e) (by rw [st]; decide) (by rw [st]; decide)
  have kinds : ((s.leftByRequest p).ctl p Ctl.disable).kinds = 2 := Ctl.disable_kinds (s.env p) (s.port p)
  have word : ((s.leftByRequest p).runPort p Ctl.disable).stateWord p = 0 := by
    rw [State.stateWord, port, st]; rfl
  rw [State.startDisable, State.onPort_of_names names, State.disablePort_on on, word]
  rw [kinds] at reported
  obtain ⟨last, ended, bus, dropped, others, base, window, engine⟩ := State.leftByRequest_completes frame test r 0
  refine ⟨?_, last, ended, ?_, bus, dropped, others, base, window, engine⟩
  · rw [State.port_congr (State.completeReq_ports _ _ _ _ _), port]
    exact entered
  · unfold Reported
    rw [State.completeReq_rep]
    exact reported (by decide)

/-- PORT_RESTART at a port with a module (R26). -/
theorem State.startRestart_leaves {s : State} {r : Request} {p : PortNo} (names : Names r p)
    (on : (s.port p).st ≠ .off) (module : (s.port p).st ≠ .empty) :
    IsIdentify true (s.port p) ((s.startRestart r).port p) ∧ CompletedLast s (s.startRestart r) r .ok 2 ∧
    LaneTestEnded p (s.port p) stopGives .portRestarted s.mm.ops s (s.startRestart r) ∧
    ((s.port p).st = .active → Reported p 2 s (s.startRestart r)) ∧
    ((s.port p).st ≠ .active → (s.startRestart r).rep = s.rep) ∧
    BusMarked p Txn.afterPortRequest s (s.startRestart r) ∧ RequestsDropped p s (s.startRestart r) ∧
    SameOtherPorts p s (s.startRestart r) ∧ SameBase s (s.startRestart r) ∧ SameWindow s (s.startRestart r) ∧
    SameEngine s (s.startRestart r) := by
  have entered := Ctl.restart_is (s.env p) (s.port p)
  have st : ((s.leftByRequest p).ctl p Ctl.restart).port.st = .identify := entered.1
  obtain ⟨⟨port, frame, silent, reported⟩, test⟩ := State.leaves_answer (s.leftByRequest p) p Ctl.restart
    (c := Ctl.start (s.port p)) (g := asStop) (v := stopGives) rfl rfl (Ctl.enterIdentify_ended _ _ _)
    (fun T i e => T.stopVerdict_eq i e) (by rw [st]; decide) (by rw [st]; decide)
  have kinds : ((s.leftByRequest p).ctl p Ctl.restart).kinds = if (s.port p).st = .active then 2 else 0 :=
    Ctl.restart_kinds (s.env p) (s.port p)
  have word : ((s.leftByRequest p).runPort p Ctl.restart).stateWord p = 2 := by
    rw [State.stateWord, port, st]; rfl
  rw [State.startRestart, State.onPort_of_names names, State.restartPort_on on module]
  dsimp only
  rw [word]
  rw [kinds] at silent reported
  obtain ⟨last, ended, bus, dropped, others, base, window, engine⟩ := State.leftByRequest_completes frame test r 2
  refine ⟨?_, last, ended, fun active => ?_, fun inactive => ?_, bus, dropped, others, base, window, engine⟩
  · rw [State.port_congr (State.completeReq_ports _ _ _ _ _), port]
    exact entered
  · unfold Reported
    rw [State.completeReq_rep]
    rw [if_pos active] at reported
    exact reported (by decide)
  · rw [State.completeReq_rep]
    exact silent (if_neg inactive)

/-- PORT_DISABLE at a port in OFF (R8, R141). -/
theorem State.startDisable_off {s : State} {r : Request} {p : PortNo} (names : Names r p) (off : (s.port p).st = .off) :
    s.startDisable r = ((s.clearStuck p).markTxn p Txn.afterPortRequest).completeReq r [] .ok 0 := by
  have word : ((s.clearStuck p).markTxn p Txn.afterPortRequest).stateWord p = 0 := by
    have st : (((s.clearStuck p).markTxn p Txn.afterPortRequest).port p).st = .off := off
    rw [State.stateWord, st]; rfl
  rw [State.startDisable, State.onPort_of_names names, State.disablePort_off off, word]

/-- PORT_RESTART at a port in OFF (R26). -/
theorem State.startRestart_off {s : State} {r : Request} {p : PortNo} (names : Names r p) (off : (s.port p).st = .off) :
    s.startRestart r = s.completeReq r [] .wrongState 0 := by
  have effect : s.restartPort p = (s, .wrongState) := if_pos off
  rw [State.startRestart, State.onPort_of_names names, effect]
  dsimp only
  rw [State.stateWord, off]
  rfl

/-- PORT_RESTART at a port in EMPTY (R26). -/
theorem State.startRestart_empty {s : State} {r : Request} {p : PortNo} (names : Names r p)
    (empty : (s.port p).st = .empty) : s.startRestart r = s.completeReq r [] .noModule 1 := by
  have effect : s.restartPort p = (s, .noModule) := by
    unfold State.restartPort
    rw [empty]
    rfl
  rw [State.startRestart, State.onPort_of_names names, effect]
  dsimp only
  rw [State.stateWord, empty]
  rfl

/-- PORT_DISABLE at a port in OFF completes, and marks the bus (R8, R141). -/
theorem portDisable_off (p : PortNo) (r : Request) (s : State) (hs : s.hold = .released) (names : Names r p)
    (off : (s.port p).st = .off) : ∃ t, act s (fun s => s.startDisable r) = .next t ∧
      (Completed s t r [] .ok 0 ∧ t.ports = s.ports ∧ BusMarked p Txn.afterPortRequest s t ∧ t.arb = s.arb ∧
        t.cache = s.cache ∧ t.we = s.we ∧ t.rep = s.rep ∧ SameBase s t) ∧ OnlyInterrupt s t := by
  refine act_quiet
    (P := fun t => Completed s t r [] .ok 0 ∧ t.ports = s.ports ∧ BusMarked p Txn.afterPortRequest s t ∧
      t.arb = s.arb ∧ t.cache = s.cache ∧ t.we = s.we ∧ t.rep = s.rep ∧ SameBase s t)
    _ _ hs (State.startDisable_off (s := { s with out := [] }) names off) (State.completeReq_out _ _ _ _ _) fun _ => ?_
  obtain ⟨base, cache, ⟨bus, arb⟩, engine, rep, -⟩ := State.completeReq_frame
    ((State.clearStuck { s with out := [] } p).markTxn p Txn.afterPortRequest) r [] .ok 0
  exact ⟨State.completeReq_completed ((State.clearStuck { s with out := [] } p).markTxn p Txn.afterPortRequest) r [] .ok 0,
    State.completeReq_ports _ _ _ _ _, bus, arb, cache, engine, rep, base⟩

/-- Settles O46: PORT_DISABLE and PORT_RESTART by port state. -/
theorem disableAndRestartLeaveTheBus : Obligations.DisableAndRestartLeaveTheBus := by
  intro p r s hs names
  refine ⟨fun take off => ?_, fun take on => ?_, fun take off => ?_, fun take empty => ?_, fun take on module => ?_⟩
  · rw [exec_portDisable, act_takeRequest take]
    obtain ⟨t, answer, ⟨done, ports, bus, arb, cache, engine, rep, base⟩, lines⟩ := portDisable_off p r s hs names off
    exact ⟨t, answer, done, ports, bus, arb, cache, engine, rep, base, lines⟩
  · rw [exec_portDisable, act_takeRequest take]
    exact act_answer hs fun o => State.startDisable_leaves (s := { s with out := [] }) names on
  · rw [exec_portRestart, act_takeRequest take]
    obtain ⟨t, answer, ⟨ports, done, frame⟩, lines⟩ := act_completeReq (fun s => s.startRestart r) s.ports hs
      (State.startRestart_off (s := { s with out := [] }) names off)
    exact ⟨t, answer, done, ports, frame, lines⟩
  · rw [exec_portRestart, act_takeRequest take]
    obtain ⟨t, answer, ⟨ports, done, frame⟩, lines⟩ := act_completeReq (fun s => s.startRestart r) s.ports hs
      (State.startRestart_empty (s := { s with out := [] }) names empty)
    exact ⟨t, answer, done, ports, frame, lines⟩
  · rw [exec_portRestart, act_takeRequest take]
    exact act_answer hs fun o => State.startRestart_leaves (s := { s with out := [] }) names on module

end Sys2Proof.Machine


/-!
# The return of a SET_CONFIG's read, and of a plan fill (R14, R57, R60 to R62, R152, R170)
-/

namespace Sys2Proof.Machine

/-! ## CONFIG_READ_DONE (R170) -/

/-- The end of the read of a SET_CONFIG, when it is the operation in progress. -/
def State.configDone (s : State) (b : Vector Byte 64) : State :=
  match s.memHead with
  | some ⟨.configRead _ r, abandoned⟩ =>
    if abandoned then s.popMem else (s.popMem.configReturned b.toList r).scanOn
  | _ => s

theorem exec_configReadDone (b : Vector Byte 64) (s : State) :
    exec (.configReadDone b) s = act s fun s => s.configDone b := rfl

theorem State.configDone_idle {s : State} {b : Vector Byte 64} (h : ∀ x q y, ¬ InProgress s (.configRead x q) y) :
    s.configDone b = s := by
  unfold State.configDone
  split
  · rename_i head
    exact absurd head (h _ _ _)
  · rfl

theorem State.configDone_abandoned {s : State} {b : Vector Byte 64} {a : Nat} {r : Request}
    (h : InProgress s (.configRead a r) true) : s.configDone b = s.popMem := by
  unfold State.configDone
  rw [show s.memHead = _ from h]
  rfl

theorem State.configDone_returns {s : State} {b : Vector Byte 64} {a : Nat} {r : Request}
    (h : InProgress s (.configRead a r) false) : s.configDone b = (s.popMem.configReturned b.toList r).scanOn := by
  unfold State.configDone
  rw [show s.memHead = _ from h]
  rfl

/-- The configuration and its chassis ID in force (R152, R156, R170). -/
def State.configured (s : State) (b : List Byte) : State :=
  { s with we := { s.we with cfg := configOf b, chassis := s.newChassis (configOf b) } }.lowerBudget.adjustScanTimer

theorem State.configReturned_ok {s : State} {b : List Byte} {r : Request}
    (h : s.admissible (s.newChassis (configOf b)) = true) :
    s.configReturned b r = (s.configured b).completeReq r [] .ok (s.newChassis (configOf b)).toNat := if_pos h

theorem State.configReturned_refused {s : State} {b : List Byte} {r : Request}
    (h : s.admissible (s.newChassis (configOf b)) = false) :
    s.configReturned b r = s.completeReq r [] .wrongState s.we.chassis.toNat := if_neg (Bool.eq_false_iff.1 h)

/-- A scan that waited for a start read goes on: the engine. -/
theorem State.scanOn_we (s : State) : s.scanOn.we =
    { s.we with scan := if s.we.st = .running ∧ s.we.scan = .starting then .reading else s.we.scan } := by
  unfold State.scanOn
  split_ifs <;> rfl

/-- A scan that waited for a start read goes on: the descriptor read joins the list. -/
theorem State.scanOn_ops (s : State) : s.scanOn.mm.ops =
    s.mm.ops ++ if s.we.st = .running ∧ s.we.scan = .starting then [descReadAt s s.we.cursor] else [] := by
  unfold State.scanOn
  split_ifs
  · rfl
  · exact (List.append_nil _).symm

/-- The completion of a SET_CONFIG, and the scan that goes on after it (R158, R162, R170). -/
theorem State.completed_scanOn (s u : State) (r : Request) (st : Status) (n : Nat) (ops : u.mm.ops = s.mm.ops.tail)
    (anchor : u.we.anchor = s.we.anchor) (engine : u.we.st = s.we.st) (cursor : u.we.cursor = s.we.cursor)
    (scan : u.we.scan = s.we.scan) (events : u.regs.events = s.regs.events) :
    (u.completeReq r [] st n).scanOn.we =
      { u.we with scan := if s.we.st = .running ∧ s.we.scan = .starting then .reading else s.we.scan } ∧
    (u.completeReq r [] st n).scanOn.mm.ops = s.mm.ops.tail ++ completionOps s r.index r.iFlag [] st n ++
      (if s.we.st = .running ∧ s.we.scan = .starting then [descReadAt s s.we.cursor] else []) ∧
    WorkRaised s (u.completeReq r [] st n).scanOn r.iFlag := by
  obtain ⟨written, work⟩ := u.completeReq_completed r [] st n
  refine ⟨?_, ?_, ?_⟩
  · rw [State.scanOn_we, State.completeReq_we, engine, scan]
  · rw [State.scanOn_ops, written, ops, State.completeReq_we, engine, scan, cursor]
    simp only [completionOps, descReadAt, anchor, State.completeReq_we]
  · unfold WorkRaised at *
    rw [State.scanOn_regs, work, events]

/-- The completion of a SET_CONFIG leaves the ports, the cache, the reports and the bus, and the lines, to what was there
before. -/
theorem State.completed_scanOn_keeps (u : State) (r : Request) (st : Status) (n : Nat) :
    (u.completeReq r [] st n).scanOn.ports = u.ports ∧ (u.completeReq r [] st n).scanOn.cache = u.cache ∧
    (u.completeReq r [] st n).scanOn.rep = u.rep ∧ SameBase u (u.completeReq r [] st n).scanOn ∧
    SameBus u (u.completeReq r [] st n).scanOn ∧ (u.completeReq r [] st n).scanOn.out = u.out := by
  simp [SameBase, SameBus]

/-- Settles O37: the end of a SET_CONFIG's read, by what is in progress and whether the chassis ID is admissible. -/
theorem theConfigReadAppliesTheConfiguration : Obligations.TheConfigReadAppliesTheConfiguration := by
  intro b a r s hs
  rw [exec_configReadDone]
  refine ⟨fun idle => act_idle hs (State.configDone_idle (s := { s with out := [] }) idle), fun head => ?_,
    fun head ok => ?_, fun head refused => ?_⟩
  · have effect := State.configDone_abandoned (s := { s with out := [] }) (b := b) head
    rw [act_same_regs hs (by rw [effect]; rfl), effect]
    rfl
  · have effect := State.configDone_returns (s := { s with out := [] }) (b := b) head
    rw [State.configReturned_ok (s := State.popMem { s with out := [] }) ok] at effect
    obtain ⟨engine, ops, work⟩ := State.completed_scanOn { s with out := [] }
      ((State.popMem { s with out := [] }).configured b.toList) r .ok (s.newChassis (configOf b.toList)).toNat
      rfl rfl rfl rfl rfl rfl
    obtain ⟨ports, cache, rep, base, bus, lines⟩ := State.completed_scanOn_keeps
      ((State.popMem { s with out := [] }).configured b.toList) r .ok (s.newChassis (configOf b.toList)).toNat
    refine act_message hs (by rw [effect]; exact lines) fun o message => ?_
    rw [effect] at message ⊢
    exact ⟨engine, fun p => (State.port_congr ports p).trans (State.port_lowerBudget _ p), ops, work, cache, rep, base,
      bus, message⟩
  · have effect := State.configDone_returns (s := { s with out := [] }) (b := b) head
    rw [State.configReturned_refused (s := State.popMem { s with out := [] }) refused] at effect
    obtain ⟨engine, ops, work⟩ := State.completed_scanOn { s with out := [] } (State.popMem { s with out := [] }) r
      .wrongState s.we.chassis.toNat rfl rfl rfl rfl rfl rfl
    obtain ⟨ports, cache, rep, base, bus, lines⟩ := State.completed_scanOn_keeps (State.popMem { s with out := [] }) r
      .wrongState s.we.chassis.toNat
    refine act_message hs (by rw [effect]; exact lines) fun o message => ?_
    rw [effect] at message ⊢
    exact ⟨engine, ports, ops, work, cache, rep, base, bus, message⟩

/-! ## A port and its plan (R14, R15, R17) -/

@[simp] theorem Port.computeCaps_st (c : Port) : c.computeCaps.st = c.st := by
  unfold Port.computeCaps
  split <;> rfl

/-- A port goes on from PLANNING with its caps computed: SIGNAL is entered, and nothing is handed over (R14, R17). -/
theorem State.runPort_goesOn (s : State) (p : PortNo) (f : Env → Ctl → Ctl) (d : Port)
    (hc : s.ctl p f = (Ctl.start d).goOn (s.env p)) (hd : d.st = .identify) :
    ∃ e o, s.runPort p f = (s.setPort p e).emit o ∧ IsSignal s.we.cfg d.computeCaps e := by
  have entered : IsSignal s.we.cfg d.computeCaps ((Ctl.start d).goOn (s.env p)).port :=
    Ctl.enterSignal_is ((Ctl.start d).mod Port.computeCaps) (s.env p)
  have kinds : ((Ctl.start d).goOn (s.env p)).kinds = 0 := by
    unfold Ctl.goOn
    simp [Ctl.leavingMark, hd]
  exact ⟨_, _, State.runPort_plain s p f _ hc kinds (Ctl.enterSignal_ended _ _)
    (.inr (by rw [entered.1]; rfl)), entered⟩

/-- An entry into HELD is a MILESTONE (R24, R30). -/
theorem State.runPort_holds (s : State) (p : PortNo) (f : Env → Ctl → Ctl) (d : Port) (why : HoldReason)
    (hc : s.ctl p f = (Ctl.start d).enterHeld p why) :
    IsHeld why d ((s.runPort p f).port p) ∧ Reported p 2 s (s.runPort p f) ∧ PortEventFrame p s (s.runPort p f) := by
  have entered := Ctl.enterHeld_is (Ctl.start d) p why
  obtain ⟨port, frame, -, reported⟩ := State.runPort_answer s p f _ hc (by rw [entered.1]; simp)
  have kinds : ((Ctl.start d).enterHeld p why).kinds = 2 := by simp [kindMilestone]
  rw [kinds] at reported
  rw [← port] at entered
  exact ⟨entered, reported (by decide), frame⟩

/-- A lookup that ends UNPLANNED where unplanned ports are admitted (R14). -/
theorem State.unplannedPort_admitted {s : State} {p : PortNo} (st : (s.port p).st = .identify)
    (allows : s.we.cfg.admitUnplanned = true) : ∃ e o, s.unplannedPort p = (s.setPort p e).emit o ∧
      IsSignal s.we.cfg { s.port p with plan := .unplanned }.computeCaps e :=
  State.runPort_goesOn s p _ { s.port p with plan := .unplanned } (if_pos allows) st

/-- A lookup that ends UNPLANNED where unplanned ports are not admitted (R14). -/
theorem State.unplannedPort_held {s : State} {p : PortNo} (allows : s.we.cfg.admitUnplanned = false) :
    IsHeld .unplanned { s.port p with plan := .unplanned } ((s.unplannedPort p).port p) ∧
    Reported p 2 s (s.unplannedPort p) ∧ PortEventFrame p s (s.unplannedPort p) :=
  State.runPort_holds s p _ { s.port p with plan := .unplanned } .unplanned (if_neg (Bool.eq_false_iff.1 allows))

/-- A valid plan entry handed to a port (R57). -/
theorem State.givePlan_planned {s : State} {p : PortNo} {entry : List Byte} (st : (s.port p).st = .identify)
    (valid : planValid entry = true) : ∃ e o, s.givePlan p entry = (s.setPort p e).emit o ∧
      IsSignal s.we.cfg { s.port p with plan := .planned (planCopyOf entry) }.computeCaps e := by
  unfold State.givePlan
  rw [if_pos valid]
  exact State.runPort_goesOn s p _ { s.port p with plan := .planned (planCopyOf entry) } rfl st

/-! ## FILL_COMPLETE (R61, R62) -/

/-- The end of a fill, when it is the operation in progress. -/
def State.fillDone (s : State) (e : Vector Byte 16) : State :=
  match s.memHead with
  | some ⟨.fill _ p g, _⟩ => s.popMem.fillReturned p g e
  | _ => s

theorem exec_fillComplete (e : Vector Byte 16) (s : State) :
    exec (.fillComplete e) s = act s fun s => s.fillDone e := rfl

theorem State.fillDone_idle {s : State} {e : Vector Byte 16} (h : ∀ a p g y, ¬ InProgress s (.fill a p g) y) :
    s.fillDone e = s := by
  unfold State.fillDone
  split
  · rename_i head
    exact absurd head (h _ _ _ _)
  · rfl

theorem State.fillDone_returns {s : State} {e : Vector Byte 16} {a : Nat} {p : PortNo} {g : BitVec 32} {x : Bool}
    (h : InProgress s (.fill a p g) x) : s.fillDone e = s.popMem.fillReturned p g e := by
  unfold State.fillDone
  rw [show s.memHead = _ from h]

/-- A fill for a port that waits no longer delivers nothing (R61). -/
theorem State.fillReturned_late {s : State} {p : PortNo} {g : BitVec 32} {e : Vector Byte 16}
    (h : s.cache.fillPending[p] = false) : s.fillReturned p g e = s := if_neg (Bool.eq_false_iff.1 h)

/-- A fill under an older generation is made again (R61). -/
theorem State.fillReturned_stale {s : State} {p : PortNo} {g : BitVec 32} {e : Vector Byte 16}
    (h : s.cache.fillPending[p] = true) (hg : g ≠ s.cache.gen) : s.fillReturned p g e = s.issueFill p := by
  unfold State.fillReturned
  rw [if_pos h, if_pos hg]

/-- A valid entry under the generation in force is cached and given (R61, R62). -/
theorem State.fillReturned_valid {s : State} {p : PortNo} {g : BitVec 32} {e : Vector Byte 16}
    (h : s.cache.fillPending[p] = true) (hg : g = s.cache.gen) (valid : planValid e.toList = true) :
    s.fillReturned p g e = ((s.setFillPending p false).placePlan p e).givePlan p e.toList := by
  unfold State.fillReturned
  rw [if_pos h, if_neg (not_not_intro hg)]
  exact if_pos valid

/-- An invalid entry under the generation in force leaves the port UNPLANNED (R61). -/
theorem State.fillReturned_invalid {s : State} {p : PortNo} {g : BitVec 32} {e : Vector Byte 16}
    (h : s.cache.fillPending[p] = true) (hg : g = s.cache.gen) (invalid : planValid e.toList = false) :
    s.fillReturned p g e = (s.setFillPending p false).unplannedPort p := by
  unfold State.fillReturned
  rw [if_pos h, if_neg (not_not_intro hg)]
  exact if_neg (Bool.eq_false_iff.1 invalid)

/-- A port alone replaced, with front-end commands, after the cache has changed and the operation has left the list. -/
theorem act_portAndCache {s : State} {eff : State → State} {p : PortNo} {d : Port} {l : List Out} {cache : PlanCache}
    {mm : MemMaster} {P : Port → Prop} (hs : s.hold = .released)
    (he : eff { s with out := [] } = (State.setPort { s with cache := cache, mm := mm, out := [] } p d).emit l)
    (hd : P d) :
    ∃ t, act s eff = .next t ∧ P (t.port p) ∧ t.cache = cache ∧ t.mm = mm ∧ t.rep = s.rep ∧ t.we = s.we ∧
      t.regs = s.regs ∧ SameOtherPorts p s t ∧ SameBase s t ∧ SameBus s t := by
  refine ⟨_, act_same_regs hs (by rw [he]; rfl), ?_⟩
  rw [he]
  obtain ⟨port, others⟩ := port_of_ports_set (s := s)
    (t := (State.setPort { s with cache := cache, mm := mm, out := [] } p d).emit l) rfl
  exact ⟨by rw [port]; exact hd, rfl, rfl, rfl, rfl, rfl, others, ⟨rfl, rfl, rfl, rfl⟩, ⟨rfl, rfl⟩⟩

/-- Settles O40: the end of a fill, by what is in progress, whether the port waits, the generation and the entry. -/
theorem theFillGivesThePlan : Obligations.TheFillGivesThePlan := by
  intro e a p g x s hs
  rw [exec_fillComplete]
  refine ⟨fun idle => act_idle hs (State.fillDone_idle (s := { s with out := [] }) idle), fun head late => ?_,
    fun head waits stale => ?_, fun head waits now st => ⟨fun valid => ?_, fun invalid allows => ?_, fun invalid allows => ?_⟩⟩
  all_goals have returned := State.fillDone_returns (s := { s with out := [] }) (e := e) head
  · rw [State.fillReturned_late (s := State.popMem { s with out := [] }) late] at returned
    rw [act_same_regs hs (by rw [returned]; rfl), returned]
    rfl
  · rw [State.fillReturned_stale (s := State.popMem { s with out := [] }) waits stale] at returned
    rw [act_same_regs hs (by rw [returned]; rfl), returned]
    rfl
  · rw [State.fillReturned_valid (s := State.popMem { s with out := [] }) waits now valid] at returned
    obtain ⟨d, l, run, entered⟩ := State.givePlan_planned
      (s := ((State.popMem { s with out := [] }).setFillPending p false).placePlan p e) st valid
    exact act_portAndCache hs (returned.trans run) entered
  · rw [State.fillReturned_invalid (s := State.popMem { s with out := [] }) waits now invalid] at returned
    obtain ⟨d, l, run, entered⟩ := State.unplannedPort_admitted
      (s := (State.popMem { s with out := [] }).setFillPending p false) st allows
    exact act_portAndCache hs (returned.trans run) entered
  · rw [State.fillReturned_invalid (s := State.popMem { s with out := [] }) waits now invalid] at returned
    obtain ⟨entered, reported, others, base, cache, bus, window, engine, list, -⟩ := State.unplannedPort_held
      (s := (State.popMem { s with out := [] }).setFillPending p false) (p := p) allows
    refine act_answer hs fun o => ?_
    rw [returned]
    exact ⟨entered, cache, reported, others, base, bus, window, engine, list⟩

end Sys2Proof.Machine


/-!
# The identity read (R11 to R14, R133 to R135, R138, R141 to R143, R146)
-/

namespace Sys2Proof.Machine

/-! ## The arbiter with nothing, or one port, waiting (R143) -/

/-- The waiting port that a decision finds, when one waits: one with a request. -/
theorem Arbiter.requests_of_nextPort {a : Arbiter} {q : PortNo} (h : a.nextPort = some q) : a.requests[q] = true := by
  obtain ⟨k, -, hk⟩ := List.exists_of_findSome?_eq_some h
  dsimp only at hk
  split at hk
  · rename_i waits
    obtain rfl : a.rotation + 1 + k = q := by simpa using hk
    exact waits
  · cases hk

/-- A port that waits is not passed over. -/
theorem Arbiter.nextPort_ne_none {a : Arbiter} {p : PortNo} (h : a.requests[p] = true) : a.nextPort ≠ none := by
  intro none
  have passed := List.findSome?_eq_none_iff.1 none (p - (a.rotation + 1)) (List.mem_finRange _)
  simp [h] at passed

/-- Nothing waits: no grant. -/
theorem Arbiter.choose_none {a : Arbiter} (ratio : Nat) (hq : a.queue = []) (hr : ∀ p : PortNo, a.requests[p] = false) :
    a.choose ratio = none := by
  have next : a.nextPort = none := Option.eq_none_iff_forall_ne_some.2 fun q h =>
    absurd (Arbiter.requests_of_nextPort h) (by rw [hr q]; decide)
  unfold Arbiter.choose
  rw [hq, next]

/-- One port waits and no job: that port is granted. -/
theorem Arbiter.choose_port {a : Arbiter} (ratio : Nat) {p : PortNo} (hq : a.queue = []) (hp : a.requests[p] = true)
    (hr : ∀ q : PortNo, q ≠ p → a.requests[q] = false) : a.choose ratio = some (.port p) := by
  have next : a.nextPort = some p := by
    obtain ⟨q, hq⟩ := Option.ne_none_iff_exists'.1 (Arbiter.nextPort_ne_none hp)
    have waits := Arbiter.requests_of_nextPort hq
    by_cases e : q = p
    · rw [hq, e]
    · rw [hr q e] at waits; cases waits
  unfold Arbiter.choose
  rw [hq, next]

/-- A grant after which nothing waits is the last of the loop. -/
theorem State.grants_of_last (s : State) (g : Grant) (hi : s.bus.st = .idle)
    (hc : s.arb.choose s.we.cfg.turnRatio = some g)
    (hn : (s.grant g).arb.choose (s.grant g).we.cfg.turnRatio = none) : s.grants = s.grant g := by
  unfold State.grants State.grantLoop
  rw [if_pos hi, hc]
  dsimp only
  unfold State.grantLoop
  rw [hn]
  split_ifs <;> rfl

/-- A request posted where nothing waits is the only one, and its grant leaves none. -/
theorem NothingWaits.posted {s : State} (h : NothingWaits s) (p : PortNo) :
    (∀ q : PortNo, q ≠ p → (s.arb.requests.set p true)[q] = false) ∧
    (s.arb.requests.set p true).set p false = s.arb.requests := by
  obtain ⟨-, none⟩ := h
  refine ⟨fun q hq => ?_, Vector.ext fun i hi => ?_⟩
  · have ne : (p : Nat) ≠ q := fun e => hq (Fin.ext e.symm)
    rw [← none q]
    simp [ne]
  · have clear := none ⟨i, hi⟩
    by_cases e : (p : Nat) = i
    · subst e; simpa using clear.symm
    · simp [e]

/-! ## The identity read at an idle bus -/

/-- The tries of the identity read on the bus (R133, R135). -/
theorem identityRead_tryActs : identityRead.tryActs =
    [.start, .send 0xAC, .send 0, .send 0, .restart, .send 0xAD] ++
      (List.replicate 31 [BusAct.receive, .ack]).flatten ++ [.receive, .nack, .stop] := by
  show ([BusAct.start, .send 0xAC, .send 0, .send 0] ++ [.restart, .send 0xAD] ++ readActs (31 + 1) ++ [.stop]) = _
  rw [readActs_succ]
  rfl

/-- The state after a port's identity-read request, its port context given, at an idle bus where nothing waits: the
request is the only one (R12, R142). -/
def State.asksForRead (s : State) (p : PortNo) (d : Port) : State :=
  { s.setPort p d with arb := { s.arb with requests := s.arb.requests.set p true } }

theorem State.postRequest_eq (s : State) (p : PortNo) (d : Port) :
    (s.setPort p d).postRequest p = (s.asksForRead p d).grants := rfl

/-- The arbiter after the grant of the only request. -/
theorem State.asksForRead_granted {s : State} (waits : NothingWaits s) (p : PortNo) (d : Port) :
    (s.asksForRead p d).arb.granted (.port p) = { s.arb with rotation := p, since := min (s.arb.since + 1) 255 } := by
  have cleared := (waits.posted p).2
  unfold Arbiter.granted State.asksForRead
  dsimp only
  rw [cleared]

/-- The grant of a port's identity read on a branch that is not stuck (R134). -/
theorem State.grant_begins {s : State} {p : PortNo} (stuck : s.bus.stuck[p] = false) :
    s.grant (.port p) = (s.takeGrant (.port p)).beginTxn ((Grant.port p).txn s.we.cfg) := by
  have branch : ¬ (s.takeGrant (.port p)).bus.stuck[p] = true := Bool.eq_false_iff.1 stuck
  rw [State.grant_steps]
  exact (if_neg fun h => h.1 rfl).trans (if_neg branch)

/-- The grant of a port's identity read on a stuck branch: it ends at once with BUS_STUCK (R134, R141). -/
theorem State.grant_ends {s : State} {p : PortNo} (stuck : s.bus.stuck[p] = true) :
    s.grant (.port p) = ((s.takeGrant (.port p)).emit [.busStop]).identityOutcome p ⟨.busStuck, 0, 0, []⟩ := by
  have branch : (s.takeGrant (.port p)).bus.stuck[p] = true := stuck
  rw [State.grant_steps]
  exact (if_neg fun h => h.1 rfl).trans (if_pos branch)

/-- A port in READING whose identity read failed is held (R13). -/
theorem State.identityOutcome_failed {s : State} {p : PortNo} {o : BusOutcome} (st : (s.port p).st = .identify)
    (sub : (s.port p).sub = some .reading) (failed : o.status ≠ .ok) :
    s.identityOutcome p o = s.holdPort p .moduleUnreadable := by
  unfold State.identityOutcome
  rw [if_pos ⟨st, sub⟩, if_neg failed]

/-- A port held with a reason of its own (R24). -/
theorem State.holdPort_holds (s : State) (p : PortNo) (why : HoldReason) :
    IsHeld why (s.port p) ((s.holdPort p why).port p) ∧ Reported p 2 s (s.holdPort p why) ∧
    PortEventFrame p s (s.holdPort p why) :=
  State.runPort_holds s p _ (s.port p) why rfl

/-! ## RESET_PULSE_EXPIRY and SETTLE_EXPIRY (R11, R12) -/

/-- READING begins at a port in SETTLING (R12). -/
def Port.reads (c : Port) : Port := { c with sub := some .reading, phaseTimer := none }

theorem exec_resetPulseExpiry (p : PortNo) (s : State) : exec (.resetPulseExpiry p) s = act s fun s =>
    if (s.port p).st = .identify ∧ (s.port p).sub = some .resetting ∧ due (s.port p).phaseTimer then
      s.setPort p { s.port p with modReset := false, sub := some .settling, phaseTimer := some s.we.cfg.settle }
    else s := rfl

/-- The settle time over, READING begins and the identity read is asked for (R12). -/
def State.settleOver (s : State) (p : PortNo) : State :=
  if (s.port p).st = .identify ∧ (s.port p).sub = some .settling ∧ due (s.port p).phaseTimer then
    (s.setPort p (s.port p).reads).postRequest p
  else s

theorem exec_settleExpiry (p : PortNo) (s : State) : exec (.settleExpiry p) s = act s fun s => s.settleOver p := rfl

theorem due_iff (t : Timer) : due t = true ↔ t = some 0 := decide_eq_true_iff

/-- The identity read waits while the bus is busy (R12, R142). -/
theorem State.postRequest_waits {s : State} {p : PortNo} {d : Port} (busy : s.bus.st ≠ .idle) :
    (s.setPort p d).postRequest p = s.asksForRead p d := State.grants_busy (s.asksForRead p d) busy

/-- The identity read begins at an idle bus where nothing waits (R12, R134). -/
theorem State.postRequest_begins {s : State} {p : PortNo} {d : Port} (idle : s.bus.st = .idle) (waits : NothingWaits s)
    (stuck : s.bus.stuck[p] = false) : (s.setPort p d).postRequest p = { s.setPort p d with
      bus := BusGranted s .port p identityRead
      arb := { s.arb with rotation := p, since := min (s.arb.since + 1) 255 }
      out := s.out ++ [.busTry identityRead.tryActs] } := by
  have chosen : (s.asksForRead p d).arb.choose s.we.cfg.turnRatio = some (.port p) :=
    Arbiter.choose_port _ waits.1 (by simp [State.asksForRead]) (waits.posted p).1
  have begins := State.grant_begins (s := s.asksForRead p d) (p := p) stuck
  rw [State.postRequest_eq, State.grants_of_grant (s.asksForRead p d) _ idle chosen
    (by rw [begins]; exact BusState.noConfusion), begins]
  unfold State.takeGrant
  dsimp only
  rw [State.asksForRead_granted waits p d]
  rfl

/-- The only request has been granted, and its transaction ends before it begins (R134, R143). -/
def State.endsAtGrant (s : State) (p : PortNo) (d : Port) : State :=
  { s.setPort p d with arb := { s.arb with rotation := p, since := min (s.arb.since + 1) 255 } }.emit [.busStop]

theorem State.port_endsAtGrant (s : State) (p : PortNo) (d : Port) : (s.endsAtGrant p d).port p = d :=
  State.port_setPort s p d

/-- The identity read on a stuck branch fails at once, and the port is held (R13, R134, R141). -/
theorem State.postRequest_fails {s : State} {p : PortNo} {d : Port} (idle : s.bus.st = .idle) (waits : NothingWaits s)
    (stuck : s.bus.stuck[p] = true) (st : d.st = .identify) (sub : d.sub = some .reading) :
    (s.setPort p d).postRequest p = (s.endsAtGrant p d).holdPort p .moduleUnreadable := by
  have chosen : (s.asksForRead p d).arb.choose s.we.cfg.turnRatio = some (.port p) :=
    Arbiter.choose_port _ waits.1 (by simp [State.asksForRead]) (waits.posted p).1
  have ends : (s.asksForRead p d).grant (.port p) = (s.endsAtGrant p d).holdPort p .moduleUnreadable := by
    rw [State.grant_ends (s := s.asksForRead p d) (p := p) stuck, ← State.identityOutcome_failed
      (o := ⟨.busStuck, 0, 0, []⟩) (by rw [State.port_endsAtGrant]; exact st) (by rw [State.port_endsAtGrant]; exact sub)
      (by decide)]
    unfold State.takeGrant
    dsimp only
    rw [State.asksForRead_granted waits p d]
    rfl
  rw [State.postRequest_eq, State.grants_of_last (s.asksForRead p d) _ idle chosen ?_, ends]
  rw [ends, State.holdPort_arb]
  exact Arbiter.choose_none _ waits.1 waits.2

theorem State.settleOver_due {p : PortNo} {s : State} (st : (s.port p).st = .identify)
    (sub : (s.port p).sub = some .settling) (timer : (s.port p).phaseTimer = some 0) :
    s.settleOver p = (s.setPort p (s.port p).reads).postRequest p := if_pos ⟨st, sub, (due_iff _).2 timer⟩

/-- A port held as its identity read ends at its grant: what else has changed since the request (R13, R134, R141). -/
theorem State.endsAtGrant_holds (s : State) (p : PortNo) :
    let t := (s.endsAtGrant p (s.port p).reads).holdPort p .moduleUnreadable
    IsHeld .moduleUnreadable (s.port p) (t.port p) ∧ Reported p 2 s t ∧ t.bus = s.bus ∧
      t.arb = { s.arb with rotation := p, since := min (s.arb.since + 1) 255 } ∧
      t.cache = s.cache ∧ SameOtherPorts p s t ∧ SameBase s t ∧ SameWindow s t ∧ SameEngine s t ∧ ListGrows s t := by
  obtain ⟨held, reported, others, base, cache, ⟨bus, arb⟩, window, engine, list⟩ :=
    State.holdPort_holds (s.endsAtGrant p (s.port p).reads) p .moduleUnreadable
  rw [State.port_endsAtGrant] at held
  have same : SameOtherPorts p s (s.endsAtGrant p (s.port p).reads) := fun q hq => State.port_setPort_of_ne s p q _ hq
  exact ⟨held, reported, bus, arb, cache, fun q hq => (others q hq).trans (same q hq), base, window, engine, list⟩

/-- Settles O25: the two expiries by the port's sub-step and timer, and the identity read by the bus, the requests that
wait and the branch. -/
theorem resetAndSettleLeadToTheIdentityRead : Obligations.ResetAndSettleLeadToTheIdentityRead := by
  intro p s hs
  rw [exec_resetPulseExpiry, exec_settleExpiry]
  refine ⟨fun st sub timer => ?_, fun other => ?_, fun other => ?_, fun st sub timer => ?_⟩
  · exact (act_same_regs hs (by rw [if_pos ⟨st, sub, (due_iff _).2 timer⟩]; rfl)).trans
      (by rw [if_pos ⟨st, sub, (due_iff _).2 timer⟩]; rfl)
  · refine act_idle hs (if_neg ?_)
    rintro ⟨st, sub, timer⟩
    exact other.elim (· st) fun other => other.elim (· sub) (· ((due_iff _).1 timer))
  · refine act_idle hs (if_neg ?_)
    rintro ⟨st, sub, timer⟩
    exact other.elim (· st) fun other => other.elim (· sub) (· ((due_iff _).1 timer))
  · have effect := State.settleOver_due (s := { s with out := [] }) st sub timer
    refine ⟨fun busy => ?_, fun idle waits stuck => ?_, fun idle waits stuck => ?_⟩
    · have waits := effect.trans (State.postRequest_waits (s := { s with out := [] }) busy)
      rw [act_same_regs hs (by rw [waits]; rfl), waits]
      rfl
    · have begins := effect.trans (State.postRequest_begins (s := { s with out := [] }) idle waits stuck)
      rw [identityRead_tryActs] at begins
      rw [act_same_regs hs (by rw [begins]; rfl), begins]
      rfl
    · have fails := effect.trans (State.postRequest_fails (s := { s with out := [] })
        (d := (State.port { s with out := [] } p).reads) idle waits stuck st rfl)
      refine act_answer hs fun o => ?_
      rw [fails]
      have holds := State.endsAtGrant_holds { s with out := [] } p
      generalize State.holdPort _ p .moduleUnreadable = t at holds ⊢
      exact holds

end Sys2Proof.Machine


/-!
# The outcome of the identity read (R13, R14, R17, R138, R146)
-/

namespace Sys2Proof.Machine

/-- A command whose effect from quiet lines is known: what holds of it whatever stands on the lines holds of the answer. -/
theorem act_effect {s u : State} {eff : State → State} {P : State → Prop} (hs : s.hold = .released)
    (he : eff { s with out := [] } = u) (inv : ∀ t o, P t → P { t with out := o }) (hu : P u) :
    ∃ t, act s eff = .next t ∧ P t :=
  act_answer hs fun o => by rw [he]; exact inv u o hu

/-! ## The checks of the identity block (R146) -/

theorem identity_sum (b : List Byte) : b.foldl (fun acc x => acc + x.toNat) 0 = (b.map BitVec.toNat).sum := by
  have general : ∀ (l : List Byte) (n : Nat), l.foldl (fun acc x => acc + x.toNat) n = n + (l.map BitVec.toNat).sum := by
    intro l
    induction l with
    | nil => simp
    | cons x l ih => intro n; rw [List.foldl_cons, ih, List.map_cons, List.sum_cons, Nat.add_assoc]
  rw [general, Nat.zero_add]

/-- A module kind is known exactly by the bytes 1 to 4 (R146). -/
theorem ModuleKind.ofByte_eq_none (x : Byte) : ModuleKind.ofByte x = none ↔ ¬ (1 ≤ x.toNat ∧ x.toNat ≤ 4) := by
  revert x
  decide

theorem ModuleKind.ofByte_code (k : ModuleKind) : ModuleKind.ofByte k.code = some k := by
  cases k <;> rfl

/-- The block's format, kind and lane count are supported (R146). -/
def IdentityKnown (b : List Byte) : Prop :=
  byteAt b 0 = 1 ∧ 1 ≤ (byteAt b 1).toNat ∧ (byteAt b 1).toNat ≤ 4 ∧ byteAt b 2 ≠ 0

theorem identityCheck_corrupt {b : List Byte} (h : (b.map BitVec.toNat).sum % 256 ≠ 0) : identityCheck b = .corrupt := by
  unfold identityCheck
  rw [identity_sum, if_pos h]

theorem identityCheck_unsupported {b : List Byte} (h : (b.map BitVec.toNat).sum % 256 = 0) (hk : ¬ IdentityKnown b) :
    identityCheck b = .unsupported := by
  unfold identityCheck
  rw [identity_sum, if_neg (not_not_intro h)]
  split
  · rfl
  · rename_i format
    split
    · rfl
    · rename_i k kind
      split_ifs with lanes
      · rfl
      · have known : ¬ ModuleKind.ofByte (byteAt b 1) = none := by rw [kind]; simp
        rw [ModuleKind.ofByte_eq_none, not_not] at known
        exact absurd ⟨not_not.1 format, known.1, known.2, lanes⟩ hk

/-- The two bytes of the module length, most significant first (R146). -/
theorem beField_two {b : List Byte} {i : Nat} (h : i + 1 < b.length) :
    beField b i 2 = 256 * (byteAt b i).toNat + (byteAt b (i + 1)).toNat := by
  unfold beField byteAt
  rw [List.drop_eq_getElem_cons (by omega : i < b.length), List.drop_eq_getElem_cons h]
  rw [List.getD_eq_getElem b 0 h, List.getD_eq_getElem b 0 (by omega : i < b.length)]
  simp only [List.take_succ_cons, List.take_zero, List.foldl_cons, List.foldl_nil]
  omega

/-- The block is accepted with the identity it carries (R146). -/
theorem identityCheck_accepted {b : List Byte} {m : ModuleId} (hlen : b.length = 32)
    (h : (b.map BitVec.toNat).sum % 256 = 0) (hk : IdentityKnown b) (kind : m.kind.code = byteAt b 1)
    (lanes : m.lanes = min (byteAt b 2).toNat 4) (grade : m.grade = byteAt b 3)
    (length : m.length.toNat = 256 * (byteAt b 4).toNat + (byteAt b 5).toNat)
    (maker : ∀ i : Fin 4, m.maker[i] = byteAt b (6 + i.val))
    (serial : ∀ i : Fin 12, m.serial[i] = byteAt b (10 + i.val)) : identityCheck b = .accepted m := by
  obtain ⟨format, -, -, count⟩ := hk
  unfold identityCheck
  rw [identity_sum, if_neg (not_not_intro h), if_neg (not_not_intro format), ← kind, ModuleKind.ofByte_code]
  dsimp only
  rw [if_neg count, beField_two (by omega), ← length, BitVec.ofNat_toNat, BitVec.setWidth_eq]
  obtain ⟨k, n, g, l, mk, sr⟩ := m
  have makers : (Vector.ofFn fun i : Fin 4 => byteAt b (6 + i.val)) = mk :=
    Vector.ext fun i hi => by simpa using (maker ⟨i, hi⟩).symm
  have serials : (Vector.ofFn fun i : Fin 12 => byteAt b (10 + i.val)) = sr :=
    Vector.ext fun i hi => by simpa using (serial ⟨i, hi⟩).symm
  rw [makers, serials, ← lanes, ← grade]

/-! ## The end of the transaction (R138) -/

/-- The bus released at the end of a transaction, with these lines (R138). -/
def State.busFree (s : State) (l : List Out) : State := { s with bus := BusReleased s, out := l }

/-- A port in PLANNING with its module identity recorded (R13, R146). -/
def Port.plans (c : Port) (m : ModuleId) : Port := { c with ident := some m, sub := some .planning }

/-- The end of an identity read that is not cut, where nothing waits: its outcome acts, and no grant follows (R138). -/
theorem State.endTxn_read {s : State} {x : Txn} (st : Status) (data : List Byte) (cut : x.cut = false)
    (read : x.requester = .port) (waits : NothingWaits s) : s.endTxn x st data =
      (s.busFree s.out).identityOutcome x.port ⟨st, x.bytesDone, x.tries, data⟩ := by
  have outcome : (s.busFree s.out).txnOutcome x st data =
      (s.busFree s.out).identityOutcome x.port ⟨st, x.bytesDone, x.tries, data⟩ := by
    unfold State.txnOutcome
    rw [if_neg (Bool.eq_false_iff.1 cut), read]
    rfl
  have unfolded : s.endTxn x st data = ((s.busFree s.out).txnOutcome x st data).grants := rfl
  rw [unfolded, outcome, State.grants_of_none]
  rw [State.identityOutcome_arb]
  exact Arbiter.choose_none _ waits.1 waits.2

/-- The transaction in progress (R136 to R138). -/
theorem State.txnIn_some {s : State} {x : Txn} (st : s.bus.st = .transfer) (current : s.bus.current = some x) :
    s.txnIn .transfer = some x := (if_pos st).trans current

/-- An identity read in progress, not cut, where nothing waits, of a port in READING. -/
structure ReadsIdentity (s : State) (x : Txn) : Prop where
  busy : s.bus.st = .transfer
  current : s.bus.current = some x
  read : x.requester = .port
  whole : x.cut = false
  waits : NothingWaits s
  st : (s.port x.port).st = .identify
  sub : (s.port x.port).sub = some .reading
  xfer : x.xfer = ⟨false, 0x56, 0, 0, 32, []⟩

def State.addressNacked (s : State) : State :=
  match s.txnIn .transfer with
  | none => s
  | some t =>
    let s := s.emit [.busStop]
    if t.tries ≤ t.retries then s.retry t else s.endTxn { t with bytesDone := 0 } .noAck []

def State.byteNacked (s : State) (acked : Nat) : State :=
  match s.txnIn .transfer with
  | none => s
  | some t => (s.emit [.busStop]).endTxn (t.refused acked) .noAck []

def State.tryCompleted (s : State) (data : List Byte) : State :=
  match s.txnIn .transfer with
  | none => s
  | some t =>
    if t.brings data then s.endTxn { t with bytesDone := t.xfer.len } .ok (if t.xfer.isWrite then [] else data) else s

theorem exec_addressNack (s : State) : exec .addressNack s = act s State.addressNacked := rfl
theorem exec_byteNack (n : Nat) (s : State) : exec (.byteNack n) s = act s fun s => s.byteNacked n := rfl
theorem exec_tryComplete (b : List Byte) (s : State) : exec (.tryComplete b) s = act s fun s => s.tryCompleted b := rfl

namespace ReadsIdentity

variable {s : State} {x : Txn}

/-- ADDRESS_NACK at an identity read with its tries spent (R136). -/
theorem addressNacked (h : ReadsIdentity s x) (spent : x.retries < x.tries) :
    s.addressNacked = (s.busFree (s.out ++ [.busStop])).identityOutcome x.port ⟨.noAck, 0, x.tries, []⟩ := by
  unfold State.addressNacked
  rw [State.txnIn_some h.busy h.current]
  exact (if_neg (by omega)).trans (State.endTxn_read (s := s.emit [.busStop]) (x := { x with bytesDone := 0 }) .noAck []
    h.whole h.read h.waits)

/-- BYTE_NACK at an identity read (R137). -/
theorem byteNacked (h : ReadsIdentity s x) (n : Nat) : ∃ k, s.byteNacked n =
    (s.busFree (s.out ++ [.busStop])).identityOutcome x.port ⟨.noAck, k, x.tries, []⟩ := by
  unfold State.byteNacked
  rw [State.txnIn_some h.busy h.current]
  exact ⟨_, State.endTxn_read (s := s.emit [.busStop]) (x := x.refused n) .noAck [] h.whole h.read h.waits⟩

/-- TRY_COMPLETE of an identity read with its 32 bytes (R138). -/
theorem tryCompleted (h : ReadsIdentity s x) {b : List Byte} (len : b.length = 32) :
    s.tryCompleted b = (s.busFree s.out).identityOutcome x.port ⟨.ok, 32, x.tries, b⟩ := by
  have brings : x.brings b = true := by simp [Txn.brings, h.xfer, len]
  unfold State.tryCompleted
  rw [State.txnIn_some h.busy h.current]
  dsimp only
  rw [if_pos brings, State.endTxn_read (x := { x with bytesDone := x.xfer.len }) .ok _ h.whole h.read h.waits, h.xfer]
  rfl

end ReadsIdentity

/-! ## What the outcome does (R13, R14) -/

/-- What an event of the port at the end of its identity read leaves alone. -/
theorem ReadEndFrame.of_event {s u t : State} {p : PortNo} {l : List Out} {d : Port}
    (h : PortEventFrame p u t) (hu : u = (s.busFree l).setPort p d) :
    t.bus = BusReleased s ∧ t.cache = s.cache ∧ ReadEndFrame p s t := by
  obtain ⟨others, base, cache, ⟨bus, arb⟩, window, engine, list⟩ := h
  subst hu
  have same : SameOtherPorts p s ((s.busFree l).setPort p d) := fun q hq => State.port_setPort_of_ne (s.busFree l) p q d hq
  exact ⟨bus, cache, fun q hq => (others q hq).trans (same q hq), base, arb, window, engine, list⟩

/-- The identity read's port is held with a reason (R13). -/
def ReadHeld (why : HoldReason) (p : PortNo) (c : Port) (s t : State) : Prop :=
  IsHeld why c (t.port p) ∧ Reported p 2 s t ∧ t.bus = BusReleased s ∧ t.cache = s.cache ∧ ReadEndFrame p s t

/-- A port held at the end of its identity read. -/
theorem State.busFree_holds (s : State) (l : List Out) (p : PortNo) (why : HoldReason) :
    ReadHeld why p (s.port p) s ((s.busFree l).holdPort p why) := by
  obtain ⟨held, reported, frame⟩ := State.holdPort_holds (s.busFree l) p why
  have self : s.busFree l = (s.busFree l).setPort p (s.port p) := (State.setPort_self (s.busFree l) p).symm
  exact ⟨held, reported, ReadEndFrame.of_event frame self⟩

/-- The port with its identity recorded, the bus free (R13). -/
def State.planning (s : State) (l : List Out) (p : PortNo) (m : ModuleId) : State :=
  (s.busFree l).setPort p ((s.port p).plans m)

@[simp] theorem State.port_planning (s : State) (l : List Out) (p : PortNo) (m : ModuleId) :
    (s.planning l p m).port p = (s.port p).plans m := State.port_setPort _ _ _

/-- An accepted identity block takes the port to PLANNING (R13). -/
theorem State.identityOutcome_accepted {s : State} {l : List Out} {p : PortNo} {o : BusOutcome} {m : ModuleId}
    (st : (s.port p).st = .identify) (sub : (s.port p).sub = some .reading) (ok : o.status = .ok)
    (accepted : identityCheck o.data = .accepted m) :
    (s.busFree l).identityOutcome p o = (s.planning l p m).lookup p := by
  have reading : (State.port (s.busFree l) p).st = .identify ∧ (State.port (s.busFree l) p).sub = some .reading := ⟨st, sub⟩
  unfold State.identityOutcome
  rw [if_pos reading, if_pos ok, accepted]
  rfl

/-- An identity block that is corrupt or not supported holds the port (R146). -/
theorem State.identityOutcome_refused {s : State} {p : PortNo} {o : BusOutcome} (st : (s.port p).st = .identify)
    (sub : (s.port p).sub = some .reading) (ok : o.status = .ok) :
    (identityCheck o.data = .corrupt → s.identityOutcome p o = s.holdPort p .moduleCorrupt) ∧
    (identityCheck o.data = .unsupported → s.identityOutcome p o = s.holdPort p .moduleUnsupported) := by
  unfold State.identityOutcome
  rw [if_pos ⟨st, sub⟩, if_pos ok]
  exact ⟨fun h => by rw [h], fun h => by rw [h]⟩

/-- PLANNING while the engine does no work (R14). -/
theorem State.planning_unavailable {s : State} {l : List Out} {p : PortNo} {m : ModuleId}
    (work : s.we.st.working = false) :
    ReadHeld .planUnavailable p { s.port p with ident := some m } s ((s.planning l p m).lookup p) := by
  have effect : (s.planning l p m).lookup p = (s.planning l p m).holdPort p .planUnavailable :=
    if_neg (Bool.eq_false_iff.1 work)
  obtain ⟨held, reported, frame⟩ := State.holdPort_holds (s.planning l p m) p .planUnavailable
  rw [State.port_planning] at held
  rw [effect]
  exact ⟨held, reported, ReadEndFrame.of_event frame rfl⟩

/-- PLANNING of a port beyond the plan's count (R14). -/
theorem State.planning_beyond {s : State} {l : List Out} {p : PortNo} {m : ModuleId} (work : s.we.st.working = true)
    (beyond : s.we.anchor.planCount ≤ p.val) : (s.planning l p m).lookup p = (s.planning l p m).unplannedPort p :=
  (if_pos work).trans (if_pos beyond)

/-- PLANNING of a port whose entry the cache holds (R14, R59). -/
theorem State.planning_cached {s : State} {l : List Out} {p : PortNo} {m : ModuleId} {e : CacheEntry}
    (work : s.we.st.working = true) (within : p.val < s.we.anchor.planCount) (found : s.cache.find p = some e) :
    (s.planning l p m).lookup p = { s.planning l p m with cache := s.cache.touch e }.givePlan p e.bytes.toList := by
  unfold State.lookup
  rw [if_pos (show (s.planning l p m).we.st.working = true from work),
    if_neg (show ¬ (s.planning l p m).we.anchor.planCount ≤ p.val from not_le.2 within),
    show (s.planning l p m).cache.find p = some e from found]
  rfl

/-- PLANNING of a port whose entry must be fetched (R14, R60). -/
theorem State.planning_fetches {s : State} {l : List Out} {p : PortNo} {m : ModuleId}
    (work : s.we.st.working = true) (within : p.val < s.we.anchor.planCount) (missing : s.cache.find p = none) :
    (s.planning l p m).lookup p = { s.planning l p m with
      cache := { s.cache with fillPending := s.cache.fillPending.set p true }
      mm := { s.mm with ops := s.mm.ops ++ if s.outstandingFill p = none
        then [⟨.fill (s.we.anchor.planBase + 16 * p.val) p s.cache.gen, false⟩] else [] } } := by
  unfold State.lookup
  rw [if_pos (show (s.planning l p m).we.st.working = true from work),
    if_neg (show ¬ (s.planning l p m).we.anchor.planCount ≤ p.val from not_le.2 within),
    show (s.planning l p m).cache.find p = none from missing]
  dsimp only
  by_cases out : s.outstandingFill p = none
  · rw [if_pos (show ((s.planning l p m).setFillPending p true).outstandingFill p = none from out), if_pos out]
    rfl
  · rw [if_neg (show ¬ ((s.planning l p m).setFillPending p true).outstandingFill p = none from out), if_neg out,
      List.append_nil]
    rfl

/-- A port that goes on to SIGNAL at the end of its identity read, the cache alone changed beside it. -/
theorem ReadEndFrame.of_port {s t : State} {p : PortNo} {d : Port} {cache : PlanCache} {l : List Out}
    (h : t = { s.setPort p d with bus := BusReleased s, cache := cache, out := l }) :
    t.port p = d ∧ t.rep = s.rep ∧ t.bus = BusReleased s ∧ t.cache = cache ∧ ReadEndFrame p s t := by
  subst h
  obtain ⟨port, others⟩ := port_of_ports_set (s := s)
    (t := { s.setPort p d with bus := BusReleased s, cache := cache, out := l }) rfl
  refine ⟨port, rfl, rfl, rfl, others, ⟨rfl, rfl, rfl, rfl⟩, rfl, ⟨rfl, rfl, .inl rfl⟩, ?_, List.prefix_rfl, rfl⟩
  exact ⟨rfl, rfl, rfl, rfl, rfl, rfl, rfl, rfl, rfl, fun _ => .inl rfl⟩

theorem State.planning_setPort (s : State) (l : List Out) (p : PortNo) (m : ModuleId) (cache : PlanCache) (d : Port)
    (o : List Out) : (State.setPort { s.planning l p m with cache := cache } p d).emit o =
      { s.setPort p d with bus := BusReleased s, cache := cache, out := l ++ o } := by
  unfold State.emit State.setPort State.planning State.busFree State.setPort
  dsimp only
  rw [Vector.set_set]

/-- PLANNING of a port beyond the plan's count, where unplanned ports are admitted (R14). -/
theorem State.planning_admitted {s : State} {l : List Out} {p : PortNo} {m : ModuleId}
    (st : (s.port p).st = .identify) (work : s.we.st.working = true) (beyond : s.we.anchor.planCount ≤ p.val)
    (admits : s.we.cfg.admitUnplanned = true) :
    let t := (s.planning l p m).lookup p
    IsSignal s.we.cfg { s.port p with ident := some m, plan := .unplanned }.computeCaps (t.port p) ∧ t.rep = s.rep ∧
      t.bus = BusReleased s ∧ t.cache = s.cache ∧ ReadEndFrame p s t := by
  obtain ⟨d, o, run, entered⟩ := State.unplannedPort_admitted (s := s.planning l p m) (p := p)
    (by rw [State.port_planning]; exact st) admits
  rw [State.port_planning] at entered
  obtain ⟨port, rest⟩ := ReadEndFrame.of_port
    ((State.planning_beyond work beyond).trans (run.trans (s.planning_setPort l p m s.cache d o)))
  rw [← port] at entered
  exact ⟨entered, rest⟩

/-- PLANNING of a port beyond the plan's count, where unplanned ports are held (R14). -/
theorem State.planning_unplanned {s : State} {l : List Out} {p : PortNo} {m : ModuleId}
    (work : s.we.st.working = true) (beyond : s.we.anchor.planCount ≤ p.val) (admits : s.we.cfg.admitUnplanned = false) :
    ReadHeld .unplanned p { s.port p with ident := some m, plan := .unplanned } s ((s.planning l p m).lookup p) := by
  obtain ⟨held, reported, frame⟩ := State.unplannedPort_held (s := s.planning l p m) (p := p) admits
  rw [State.port_planning] at held
  rw [State.planning_beyond work beyond]
  exact ⟨held, reported, ReadEndFrame.of_event frame rfl⟩

/-- PLANNING of a port whose valid entry the cache holds (R14, R57, R59). -/
theorem State.planning_planned {s : State} {l : List Out} {p : PortNo} {m : ModuleId} {e : CacheEntry}
    (st : (s.port p).st = .identify) (work : s.we.st.working = true) (within : p.val < s.we.anchor.planCount)
    (found : s.cache.find p = some e) (valid : planValid e.bytes.toList = true) :
    let t := (s.planning l p m).lookup p
    IsSignal s.we.cfg { s.port p with ident := some m, plan := .planned (planCopyOf e.bytes.toList) }.computeCaps
      (t.port p) ∧ t.rep = s.rep ∧ t.bus = BusReleased s ∧ t.cache.entries.head? = some e ∧ t.cache.gen = s.cache.gen ∧
      t.cache.epoch = s.cache.epoch ∧ ReadEndFrame p s t := by
  have port : State.port { s.planning l p m with cache := s.cache.touch e } p = (s.port p).plans m :=
    State.port_planning s l p m
  obtain ⟨d, o, run, entered⟩ := State.givePlan_planned (s := { s.planning l p m with cache := s.cache.touch e })
    (by rw [port]; exact st) valid
  rw [port] at entered
  obtain ⟨port, rep, bus, cache, frame⟩ := ReadEndFrame.of_port
    ((State.planning_cached work within found).trans (run.trans (s.planning_setPort l p m (s.cache.touch e) d o)))
  rw [← port] at entered
  exact ⟨entered, rep, bus, by rw [cache]; rfl, by rw [cache]; rfl, by rw [cache]; rfl, frame⟩

/-- Settles O33: the outcome of the identity read by its status, the checks of its bytes, and where the plan is found. -/
theorem identityReadsAreJudged : Obligations.IdentityReadsAreJudged := by
  intro x s hs busy current read whole waits p c st sub xfer
  have reads : ReadsIdentity { s with out := [] } x := ⟨busy, current, read, whole, waits, st, sub, xfer⟩
  have failed : ∀ n, State.identityOutcome (State.busFree { s with out := [] } [.busStop]) p ⟨.noAck, n, x.tries, []⟩ =
      (State.busFree { s with out := [] } [.busStop]).holdPort p .moduleUnreadable := fun n =>
    State.identityOutcome_failed st sub Status.noConfusion
  refine ⟨fun spent => ?_, fun n => ?_, fun b len => ?_⟩
  · rw [exec_addressNack]
    exact act_effect hs ((reads.addressNacked spent).trans (failed 0)) (fun _ _ h => h)
      (State.busFree_holds { s with out := [] } [.busStop] p .moduleUnreadable)
  · obtain ⟨k, effect⟩ := reads.byteNacked n
    rw [exec_byteNack]
    exact act_effect hs (effect.trans (failed k)) (fun _ _ h => h)
      (State.busFree_holds { s with out := [] } [.busStop] p .moduleUnreadable)
  · have done := reads.tryCompleted len
    obtain ⟨corrupt, unsupported⟩ := State.identityOutcome_refused (s := State.busFree { s with out := [] } []) (p := p)
      (o := ⟨.ok, 32, x.tries, b⟩) st sub rfl
    rw [exec_tryComplete]
    refine ⟨fun sum => ?_, fun sum known => ?_, fun m sum known kind lanes grade length maker serial => ?_⟩
    · exact act_effect hs (done.trans (corrupt (identityCheck_corrupt sum))) (fun _ _ h => h)
        (State.busFree_holds { s with out := [] } [] p .moduleCorrupt)
    · exact act_effect hs (done.trans (unsupported (identityCheck_unsupported sum known))) (fun _ _ h => h)
        (State.busFree_holds { s with out := [] } [] p .moduleUnsupported)
    · have planned := done.trans (State.identityOutcome_accepted (s := { s with out := [] }) (l := []) (p := p)
        (o := ⟨.ok, 32, x.tries, b⟩) st sub rfl
        (identityCheck_accepted len sum known kind lanes grade length maker serial))
      refine ⟨fun work => ?_, fun work beyond admits => ?_, fun work beyond admits => ?_,
        fun e work within found valid => ?_, fun work within missing => ?_⟩
      · exact act_effect hs planned (fun _ _ h => h)
          (State.planning_unavailable (s := { s with out := [] }) work)
      · exact act_effect hs planned (fun _ _ h => h)
          (State.planning_unplanned (s := { s with out := [] }) work beyond admits)
      · exact act_effect hs planned (fun _ _ h => h)
          (State.planning_admitted (s := { s with out := [] }) st work beyond admits)
      · exact act_effect hs planned (fun _ _ h => h)
          (State.planning_planned (s := { s with out := [] }) st work within found valid)
      · have fetched := planned.trans (State.planning_fetches (s := { s with out := [] }) work within missing)
        rw [act_same_regs hs (by rw [fetched]; rfl), fetched]
        rfl

end Sys2Proof.Machine


/-!
# Entry into AGREE (R97, R99, R100, R110)
-/

namespace Sys2Proof.Machine

/-! ## Caps and common sets (R15, R93) -/

/-- Own caps change the two caps alone. -/
theorem Port.computeCaps_eq (c : Port) : c.computeCaps =
    { c with capGrades := c.computeCaps.capGrades, capWidths := c.computeCaps.capWidths } := by
  unfold Port.computeCaps
  split <;> rfl

/-- Own caps come from the module, the plan and the host's ceilings alone. -/
theorem Port.computeCaps_congr {c d : Port} (ident : d.ident = c.ident) (plan : d.plan = c.plan)
    (grade : d.gradeCeil = c.gradeCeil) (width : d.widthCeil = c.widthCeil) :
    d.computeCaps.capGrades = c.computeCaps.capGrades ∧ d.computeCaps.capWidths = c.computeCaps.capWidths := by
  unfold Port.computeCaps
  rw [ident, plan, grade, width]
  cases c.ident <;> exact ⟨rfl, rfl⟩

/-- The far end's caps come from the role, the usable set, the far end and the records heard, and a SELF port's own. -/
theorem Port.farCaps_congr {c d : Port} (grades : d.capGrades = c.capGrades) (widths : d.capWidths = c.capWidths)
    (role : d.role = c.role) (usable : d.usable = c.usable) (far : d.far = c.far)
    (neg : ∀ i, (d.lane i).neg = (c.lane i).neg) : d.farCaps = c.farCaps := by
  unfold Port.farCaps Port.fromFar
  simp only [grades, widths, role, usable, far, neg]

theorem gradeRule_isSome (m : BitVec 4) (next : Option Grade) (h : m ≠ 0) : ∃ g, gradeRule m next = some g := by
  have found : ∀ m : BitVec 4, m ≠ 0 → (highestUpTo m 4).isSome = true ∧ (lowestGrade m).isSome = true := by decide
  obtain ⟨highest, lowest⟩ := found m h
  cases next with
  | none => exact Option.isSome_iff_exists.1 highest
  | some n =>
    refine Option.isSome_iff_exists.1 ?_
    unfold gradeRule
    cases e : highestUpTo m n.num with
    | none => simpa [e] using lowest
    | some g => simp [e]

/-! ## The opening of AGREE -/

/-- AGREE has been entered, its outgoing phase and what goes with it aside: the caps are computed anew, no proposal stands,
and the present lanes send beacons (R97, R99). -/
def OpensAgree (c d : Port) : Prop :=
  ∃ lanes test, d = { c with
      st := .agree, sub := none, phaseTimer := none, burst := none, holdReason := .noReason, lowPower := false,
      modReset := false, dwellTimer := none, testTimer := none, agreed := none, laneSet := 0,
      capGrades := c.computeCaps.capGrades, capWidths := c.computeCaps.capWidths, lanes := lanes, test := test } ∧
    LanesIn d c.isPresent .beacon ∧ ∀ i, (d.lane i).neg = (c.lane i).neg

theorem Ctl.openAgree_opens (env : Env) (c : Ctl) : OpensAgree c.port (c.openAgree env).port := by
  obtain ⟨grades, widths⟩ := Port.computeCaps_congr (c := c.port)
    (d := { ((c.goTo .agree).commandAll env.self (c.goTo .agree).port.beaconing).port with agreed := none, laneSet := 0 })
    (by rw [Ctl.commandAll_port]; rfl) (by rw [Ctl.commandAll_port]; rfl) (by rw [Ctl.commandAll_port]; rfl)
    (by rw [Ctl.commandAll_port]; rfl)
  have port : (c.openAgree env).port = { ((c.goTo .agree).commandAll env.self (c.goTo .agree).port.beaconing).port with
      agreed := none, laneSet := 0, capGrades := c.port.computeCaps.capGrades,
      capWidths := c.port.computeCaps.capWidths } := by
    unfold Ctl.openAgree
    rw [Ctl.mod_port, Port.computeCaps_eq, grades, widths]
  rw [Ctl.commandAll_port] at port
  have lane : ∀ i, (c.openAgree env).port.lane i =
      ((c.goTo .agree).port.lane i).after ((c.goTo .agree).port.beaconing i) := fun i => by
    rw [port]
    exact Port.lane_mapLanes (c.goTo .agree).port (fun i l => l.after ((c.goTo .agree).port.beaconing i)) i
  refine ⟨_, _, port, fun i => ?_, fun i => ?_⟩
  · rw [lane, Lane.after_st, Port.beaconing_names]
    rfl
  · obtain ⟨-, -, -, -, neg, -⟩ := Lane.after_keeps ((c.goTo .agree).port.lane i) ((c.goTo .agree).port.beaconing i)
    rw [lane, neg]
    rfl

@[simp] theorem Ctl.openAgree_kinds (env : Env) (c : Ctl) : (c.openAgree env).kinds = c.kinds ||| c.leavingMark := by
  unfold Ctl.openAgree
  simp [Ctl.goTo_kinds, PortState.milestone, Ctl.leavingMark]

@[simp] theorem Ctl.openAgree_ended (env : Env) (c : Ctl) : (c.openAgree env).ended = c.ended := by
  unfold Ctl.openAgree
  simp

/-- The common sets of the opened attempt are those of the caps computed anew (R93). -/
theorem OpensAgree.common {c d : Port} (h : OpensAgree c d) (e : Port) (grades : e.capGrades = d.capGrades)
    (widths : e.capWidths = d.capWidths) (role : e.role = d.role) (usable : e.usable = d.usable) (far : e.far = d.far)
    (lanes : e.lanes = d.lanes) :
    e.commonGrades = c.computeCaps.commonGrades ∧ e.commonWidths = c.computeCaps.commonWidths := by
  obtain ⟨l, t, port, -, neg⟩ := h
  have caps := c.computeCaps_eq
  have farCaps : e.farCaps = c.computeCaps.farCaps := by
    refine Port.farCaps_congr ?_ ?_ ?_ ?_ ?_ fun i => ?_
    · rw [grades, port]
    · rw [widths, port]
    · rw [role, port, caps]
    · rw [usable, port, caps]
    · rw [far, port, caps]
    · have same : e.lane i = d.lane i := by unfold Port.lane; rw [lanes]
      rw [same, neg, caps]
      rfl
  unfold Port.commonGrades Port.commonWidths
  rw [farCaps, grades, widths, port]
  exact ⟨rfl, rfl⟩

/-! ## The lead and the SELF port (R97, R110) -/

/-- A HELD entry from the opened AGREE, seen from the port before. -/
theorem OpensAgree.held {c d : Port} (h : OpensAgree c d) (self : PortNo) (why : HoldReason) (x : Ctl) (hx : x.port = d) :
    IsHeld why c (x.enterHeld self why).port := by
  obtain ⟨l, t, port, -⟩ := h
  have entered := x.enterHeld_is self why
  rw [hx, port] at entered
  exact entered

theorem OpensAgree.heldAfter {c d : Port} (h : OpensAgree c d) (self : PortNo) (why : HoldReason) (x : Ctl)
    (hx : x.port = d.spendAttempt) :
    IsHeld why { c with attempt := nextAttempt c.attempt } (x.enterHeld self why).port := by
  obtain ⟨l, t, port, -⟩ := h
  have entered := x.enterHeld_is self why
  rw [hx, port] at entered
  exact entered

/-- What a lead or SELF port does once AGREE is opened, by the steps of R97. -/
def Ctl.leadOpened (env : Env) (o : Ctl) : Ctl :=
  if o.port.left = 0 then o.enterHeld env.self (if o.port.qualReached then .qualifyFailed else .noAgreement)
  else
    let d := o.mod Port.spendAttempt
    if d.port.commonGrades = 0 ∨ d.port.commonWidths = 0 then d.enterHeld env.self .noAgreement
    else match laneSetRule d.port.commonWidths d.port.usable with
      | none => d.enterHeld env.self .noUsableLanes
      | some S =>
        if (d.mod (Port.choose S)).port.role = .self then (d.mod (Port.choose S)).enterTrain env
        else (d.mod (Port.choose S)).mod (Port.propose env)

theorem Ctl.enterAgreeLead_opened (env : Env) (c : Ctl) : c.enterAgreeLead env = (c.openAgree env).leadOpened env := by
  rw [Ctl.enterAgreeLead_steps]
  generalize c.openAgree env = o
  rfl

theorem Ctl.leadOpened_spent (env : Env) {o : Ctl} (left : o.port.left = 0) : o.leadOpened env =
    o.enterHeld env.self (if o.port.qualReached then .qualifyFailed else .noAgreement) := if_pos left

theorem Ctl.leadOpened_apart (env : Env) {o : Ctl} (left : o.port.left ≠ 0)
    (apart : o.port.spendAttempt.commonGrades = 0 ∨ o.port.spendAttempt.commonWidths = 0) :
    o.leadOpened env = (o.mod Port.spendAttempt).enterHeld env.self .noAgreement :=
  (if_neg left).trans (if_pos apart)

theorem Ctl.leadOpened_noLanes (env : Env) {o : Ctl} (left : o.port.left ≠ 0)
    (common : ¬ (o.port.spendAttempt.commonGrades = 0 ∨ o.port.spendAttempt.commonWidths = 0))
    (rule : laneSetRule o.port.spendAttempt.commonWidths o.port.spendAttempt.usable = none) :
    o.leadOpened env = (o.mod Port.spendAttempt).enterHeld env.self .noUsableLanes :=
  (if_neg left).trans ((if_neg common).trans (by dsimp only [Ctl.mod_port]; rw [rule]))

theorem Ctl.leadOpened_chooses (env : Env) {o : Ctl} {S : LaneSet} (left : o.port.left ≠ 0)
    (common : ¬ (o.port.spendAttempt.commonGrades = 0 ∨ o.port.spendAttempt.commonWidths = 0))
    (rule : laneSetRule o.port.spendAttempt.commonWidths o.port.spendAttempt.usable = some S) :
    o.leadOpened env = if o.port.role = .self then ((o.mod Port.spendAttempt).mod (Port.choose S)).enterTrain env
      else ((o.mod Port.spendAttempt).mod (Port.choose S)).mod (Port.propose env) :=
  (if_neg left).trans ((if_neg common).trans (by dsimp only [Ctl.mod_port]; rw [rule]; rfl))

/-- The common sets of the attempt are those of the caps computed anew. -/
theorem OpensAgree.spendAttempt_common {c d : Port} (h : OpensAgree c d) :
    d.spendAttempt.commonGrades = c.computeCaps.commonGrades ∧
    d.spendAttempt.commonWidths = c.computeCaps.commonWidths :=
  h.common d.spendAttempt rfl rfl rfl rfl rfl rfl

/-- What the opening of AGREE keeps of the fields that decide on the attempt. -/
theorem OpensAgree.keeps {c d : Port} (h : OpensAgree c d) :
    d.left = c.left ∧ d.qualReached = c.qualReached ∧ d.usable = c.usable ∧ d.role = c.role ∧
    d.attempt = c.attempt ∧ d.nextGrade = c.nextGrade := by
  obtain ⟨l, t, rfl, -⟩ := h
  exact ⟨rfl, rfl, rfl, rfl, rfl, rfl⟩

theorem OpensAgree.leadOpened_held {c : Port} {o : Ctl} (h : OpensAgree c o.port) (env : Env) :
    AgreementHeld c (o.leadOpened env).port := by
  obtain ⟨left, reached, usable, -⟩ := h.keeps
  obtain ⟨grades, widths⟩ := h.spendAttempt_common
  have lanes : o.port.spendAttempt.usable = c.usable := usable
  refine ⟨fun spent => ?_, fun more apart => ?_, fun more someGrade someWidth rule => ?_⟩
  · rw [Ctl.leadOpened_spent env (left.trans spent), reached]
    exact h.held env.self _ o rfl
  · rw [Ctl.leadOpened_apart env (by rwa [left]) (by rwa [grades, widths])]
    exact h.heldAfter env.self _ _ rfl
  · rw [Ctl.leadOpened_noLanes env (by rwa [left]) (by rw [grades, widths]; exact not_or.2 ⟨someGrade, someWidth⟩)
      (by rw [widths, lanes]; exact rule)]
    exact h.heldAfter env.self _ _ rfl

/-- A lead or SELF port that has found its lane set. -/
theorem OpensAgree.leadOpened_chooses {c : Port} {o : Ctl} (h : OpensAgree c o.port) (env : Env) {S : LaneSet}
    (left : c.left ≠ 0) (someGrade : c.computeCaps.commonGrades ≠ 0) (someWidth : c.computeCaps.commonWidths ≠ 0)
    (rule : laneSetRule c.computeCaps.commonWidths c.usable = some S) :
    o.leadOpened env = if c.role = .self then ((o.mod Port.spendAttempt).mod (Port.choose S)).enterTrain env
      else ((o.mod Port.spendAttempt).mod (Port.choose S)).mod (Port.propose env) := by
  obtain ⟨kept, -, usable, role, -⟩ := h.keeps
  obtain ⟨grades, widths⟩ := h.spendAttempt_common
  have lanes : o.port.spendAttempt.usable = c.usable := usable
  rw [Ctl.leadOpened_chooses env (by rwa [kept]) (by rw [grades, widths]; exact not_or.2 ⟨someGrade, someWidth⟩)
    (by rw [widths, lanes]; exact rule), role]

theorem OpensAgree.choose {c d : Port} (h : OpensAgree c d) (S : LaneSet) :
    ∃ lanes test, d.spendAttempt.choose S = { c with
      st := .agree, sub := none, phaseTimer := none, burst := none, holdReason := .noReason, lowPower := false,
      modReset := false, dwellTimer := none, testTimer := none,
      agreed := gradeRule c.computeCaps.commonGrades c.nextGrade, laneSet := S, attempt := nextAttempt c.attempt,
      left := c.left - 1, capGrades := c.computeCaps.capGrades, capWidths := c.computeCaps.capWidths, lanes := lanes,
      test := test } ∧ LanesIn (d.spendAttempt.choose S) c.isPresent .beacon := by
  obtain ⟨grades, -⟩ := h.spendAttempt_common
  obtain ⟨lanes, test, port, beacons, -⟩ := h
  refine ⟨lanes, test, ?_, beacons⟩
  unfold Port.choose
  rw [grades, port]
  rfl

@[simp] theorem Ctl.enterTrain_st (env : Env) (c : Ctl) : (c.enterTrain env).port.st = .train := by
  unfold Ctl.enterTrain
  dsimp only
  split <;> simp [Ctl.commandAll_port, Port.mapLanes, Port.setPhase, Ctl.goTo_port]

/-- What TRAIN keeps of the attempts. -/
theorem Ctl.enterTrain_left (env : Env) (c : Ctl) : (c.enterTrain env).port.left = c.port.left := by
  unfold Ctl.enterTrain
  dsimp only
  split <;> simp [Ctl.commandAll_port, Port.mapLanes, Port.setPhase, Ctl.goTo_port, Port.closeTest]

theorem IsTrain.of_same {cfg : ConfigCopy} {c d e : Port} (h : IsTrain cfg c e) (agreed : d.agreed = c.agreed)
    (laneSet : d.laneSet = c.laneSet) (attempt : d.attempt = c.attempt) (settings : KeepsSettings d c)
    (module : KeepsModule d c) : IsTrain cfg d e := by
  obtain ⟨st, work, phase, timer, a, l, n, lanes, ⟨p, hd, gc, wc, sc⟩, ⟨id, pl, cg, cw⟩⟩ := h
  obtain ⟨p', hd', gc', wc', sc'⟩ := settings
  obtain ⟨id', pl', cg', cw'⟩ := module
  exact ⟨st, work, phase, timer, a.trans agreed.symm, l.trans laneSet.symm, n.trans attempt.symm,
    by rw [laneSet]; exact lanes, ⟨p.trans p', hd.trans hd', gc.trans gc', wc.trans wc', sc.trans sc'⟩,
    ⟨id.trans id', pl.trans pl', cg.trans cg', cw.trans cw'⟩⟩

/-- A lead that has found its grade and lane set proposes them (R97). -/
theorem OpensAgree.leadOpened_proposes {c : Port} {o : Ctl} (h : OpensAgree c o.port) (env : Env) (role : c.role ≠ .self)
    (left : c.left ≠ 0) (someGrade : c.computeCaps.commonGrades ≠ 0) (someWidth : c.computeCaps.commonWidths ≠ 0)
    (found : laneSetRule c.computeCaps.commonWidths c.usable ≠ none) :
    IsProposing env.cfg c (o.leadOpened env).port := by
  obtain ⟨S, rule⟩ := Option.ne_none_iff_exists'.1 found
  obtain ⟨lanes, test, port, beacons⟩ := h.choose S
  have caps := c.computeCaps_eq
  rw [h.leadOpened_chooses env left someGrade someWidth rule, if_neg role, Ctl.mod_port, Ctl.mod_port, Ctl.mod_port]
  generalize o.port.spendAttempt.choose S = d at port beacons ⊢
  subst port
  exact ⟨rfl, ⟨rfl, rfl, rfl, rfl, rfl, rfl⟩, rfl, rfl, rfl, rfl, rfl, rule, beacons, ⟨rfl, rfl, rfl, rfl, rfl⟩,
    ⟨by rw [caps]; rfl, by rw [caps]; rfl, rfl, rfl⟩, rfl, rfl⟩

/-- A SELF port that has found its grade and lane set goes on to TRAIN (R110). -/
theorem OpensAgree.leadOpened_trains {c : Port} {o : Ctl} (h : OpensAgree c o.port) (env : Env) (role : c.role = .self)
    {S : LaneSet} (left : c.left ≠ 0) (someGrade : c.computeCaps.commonGrades ≠ 0)
    (someWidth : c.computeCaps.commonWidths ≠ 0)
    (rule : laneSetRule c.computeCaps.commonWidths c.usable = some S) :
    IsTrain env.cfg { c.computeCaps with
      attempt := nextAttempt c.attempt, agreed := gradeRule c.computeCaps.commonGrades c.nextGrade, laneSet := S }
      (o.leadOpened env).port ∧ (o.leadOpened env).port.left = c.left - 1 := by
  obtain ⟨lanes, test, port, -⟩ := h.choose S
  obtain ⟨g, chosen⟩ := gradeRule_isSome c.computeCaps.commonGrades c.nextGrade someGrade
  have trains := Ctl.enterTrain_is ((o.mod Port.spendAttempt).mod (Port.choose S)) env g (by
    rw [Ctl.mod_port, Ctl.mod_port, port]; exact chosen)
  have kept := Ctl.enterTrain_left env ((o.mod Port.spendAttempt).mod (Port.choose S))
  rw [h.leadOpened_chooses env left someGrade someWidth rule, if_pos role]
  rw [Ctl.mod_port, Ctl.mod_port, port] at trains kept
  refine ⟨trains.of_same rfl rfl rfl ?_ ?_, kept⟩
  · rw [c.computeCaps_eq]
    exact ⟨rfl, rfl, rfl, rfl, rfl⟩
  · rw [c.computeCaps_eq]
    exact ⟨rfl, rfl, rfl, rfl⟩

theorem Ctl.leavingMark_of_ne {c : Ctl} (h : c.port.st ≠ .active) : c.leavingMark = 0#5 := if_neg h

/-- How the entry into AGREE of a lead or SELF port shows: with MILESTONE when it ends in HELD (R30). -/
theorem Ctl.leadOpened_marks (env : Env) (o : Ctl) (st : o.port.st = .agree) : (o.leadOpened env).ended = o.ended ∧
    ((o.leadOpened env).port.st = .held ∧ (o.leadOpened env).kinds = o.kinds ||| kindMilestone ∨
      ((o.leadOpened env).port.st = .agree ∨ (o.leadOpened env).port.st = .train) ∧
        (o.leadOpened env).kinds = o.kinds) := by
  have held : ∀ (x : Ctl) why, x.ended = o.ended → x.kinds = o.kinds →
      (x.enterHeld env.self why).ended = o.ended ∧
      ((x.enterHeld env.self why).port.st = .held ∧ (x.enterHeld env.self why).kinds = o.kinds ||| kindMilestone ∨
        ((x.enterHeld env.self why).port.st = .agree ∨ (x.enterHeld env.self why).port.st = .train) ∧
          (x.enterHeld env.self why).kinds = o.kinds) := fun x why ended kinds =>
    ⟨(Ctl.enterHeld_ended _ _ _).trans ended, .inl ⟨(x.enterHeld_is env.self why).1, by rw [Ctl.enterHeld_kinds, kinds]⟩⟩
  by_cases left : o.port.left = 0
  · rw [Ctl.leadOpened_spent env left]
    exact held o _ rfl rfl
  by_cases common : o.port.spendAttempt.commonGrades = 0 ∨ o.port.spendAttempt.commonWidths = 0
  · rw [Ctl.leadOpened_apart env left common]
    exact held _ _ rfl rfl
  cases rule : laneSetRule o.port.spendAttempt.commonWidths o.port.spendAttempt.usable with
  | none =>
    rw [Ctl.leadOpened_noLanes env left common rule]
    exact held _ _ rfl rfl
  | some S =>
    rw [Ctl.leadOpened_chooses env left common rule]
    split_ifs
    · have stays : ((o.mod Port.spendAttempt).mod (Port.choose S)).leavingMark = 0#5 :=
        Ctl.leavingMark_of_ne (by simp [Port.choose, Port.spendAttempt, st])
      exact ⟨Ctl.enterTrain_ended _ _, .inr ⟨.inr (Ctl.enterTrain_st _ _), by
        rw [Ctl.enterTrain_kinds, stays, BitVec.or_zero]; rfl⟩⟩
    · refine ⟨by simp only [Ctl.mod_ended], .inr ⟨.inl ?_, by simp only [Ctl.mod_kinds]⟩⟩
      simp [Port.propose, Port.setPhase, Port.choose, Port.spendAttempt, st]

/-- The entry into AGREE of a lead: HELD, or a proposal (R97). -/
theorem Ctl.enterAgreeLead_lead (env : Env) (c : Ctl) (role : c.port.role ≠ .self) :
    LeadAgrees env.cfg c.port (c.enterAgreeLead env).port := by
  have opened := c.openAgree_opens env
  rw [Ctl.enterAgreeLead_opened]
  exact ⟨opened.leadOpened_held env, fun left someGrade someWidth found =>
    opened.leadOpened_proposes env role left someGrade someWidth found⟩

/-- The entry into AGREE of a SELF port: HELD, or TRAIN at once (R110). -/
theorem Ctl.enterAgreeLead_self (env : Env) (c : Ctl) (role : c.port.role = .self) :
    SelfAgrees env.cfg c.port (c.enterAgreeLead env).port := by
  have opened := c.openAgree_opens env
  rw [Ctl.enterAgreeLead_opened]
  exact ⟨opened.leadOpened_held env, fun S left someGrade someWidth rule =>
    opened.leadOpened_trains env role left someGrade someWidth rule⟩

theorem Ctl.enterAgreeLead_marks (env : Env) (c : Ctl) (st : c.port.st ≠ .active) :
    (c.enterAgreeLead env).ended = c.ended ∧
    ((c.enterAgreeLead env).port.st = .held ∧ (c.enterAgreeLead env).kinds = c.kinds ||| kindMilestone ∨
      ((c.enterAgreeLead env).port.st = .agree ∨ (c.enterAgreeLead env).port.st = .train) ∧
        (c.enterAgreeLead env).kinds = c.kinds) := by
  obtain ⟨l, t, port, -⟩ := c.openAgree_opens env
  have marks := (c.openAgree env).leadOpened_marks env (by rw [port])
  have stays : c.leavingMark = 0#5 := Ctl.leavingMark_of_ne st
  rwa [Ctl.openAgree_ended, Ctl.openAgree_kinds, stays, BitVec.or_zero, ← Ctl.enterAgreeLead_opened] at marks

/-- An event that has a lead or SELF port enter AGREE (R97, R110). -/
theorem State.runPort_agreesLead (s : State) (p : PortNo) (f : Env → Ctl → Ctl) (c : Ctl)
    (hc : s.ctl p f = c.enterAgreeLead (s.env p)) (kinds : c.kinds = 0) (st : c.port.st ≠ .active) :
    (c.port.role ≠ .self → LeadEntersAgree p c.port s (s.runPort p f)) ∧
    (c.port.role = .self → SelfEntersAgree p c.port s (s.runPort p f)) := by
  obtain ⟨-, marks⟩ := c.enterAgreeLead_marks (s.env p) st
  have inactive : (c.enterAgreeLead (s.env p)).port.st ≠ .active := by
    rcases marks with ⟨held, -⟩ | ⟨agree | train, -⟩ <;> simp [*]
  obtain ⟨port, frame, silent, reported⟩ := State.runPort_answer s p f _ hc fun h => absurd h inactive
  have handed : AgreementReported p s (s.runPort p f) := by
    rw [AgreementReported, port]
    rcases marks with ⟨held, k⟩ | ⟨on, k⟩ <;> rw [k, kinds] at silent reported
    · exact ⟨fun _ => reported (by decide), fun h => absurd held h, frame⟩
    · exact ⟨fun h => by simp [h] at on, fun _ => silent rfl, frame⟩
  exact ⟨fun role => ⟨by rw [port]; exact c.enterAgreeLead_lead (s.env p) role, handed⟩,
    fun role => ⟨by rw [port]; exact c.enterAgreeLead_self (s.env p) role, handed⟩⟩

end Sys2Proof.Machine


/-!
# The entry into ACTIVE, and what the lanes without lock make of it (R21, R22, R36)
-/

namespace Sys2Proof.Machine

/-! ## Drops that follow at once -/

/-- Handing over an event at which the port did nothing. -/
@[simp] theorem State.settle_start (s : State) (p : PortNo) : s.settle p (Ctl.start (s.port p)) = s := by
  unfold State.settle
  simp

/-- The lock lost of one lane, handed to the port as an event of its own (R36). -/
def State.lockLostAt (U : LaneSet) (p : PortNo) (t : State) (i : LaneNo) : State :=
  if hasLane U i then t.settle p (Ctl.drop (t.env p) i (Ctl.start (t.port p))) else t

theorem State.lockLostAt_idle {U : LaneSet} {p : PortNo} {t : State} {i : LaneNo}
    (h : hasLane U i = true → (t.port p).st ≠ .active) : t.lockLostAt U p i = t := by
  unfold State.lockLostAt
  split_ifs with lane
  · rw [Ctl.drop_idle _ _ _ fun on => h lane on.1]
    exact t.settle_start p
  · rfl

/-- A port that has left ACTIVE takes no further lock lost. -/
theorem State.lockLostAt_left (U : LaneSet) (p : PortNo) (l : List LaneNo) (t : State) (h : (t.port p).st ≠ .active) :
    l.foldl (State.lockLostAt U p) t = t := by
  induction l with
  | nil => rfl
  | cons i l ih => rw [List.foldl_cons, State.lockLostAt_idle fun _ => h]; exact ih

theorem Ctl.drop_leaves (env : Env) (i : LaneNo) (c : Ctl) (active : c.port.st = .active)
    (lane : hasLane c.port.laneSet i = true) : (c.drop env i).port.st ≠ .active := by
  rcases c.drop_cases env i active lane with ⟨-, e⟩ | ⟨-, -, -, e⟩ | ⟨-, -, e⟩ <;> rw [e]
  · rw [((c.endByDrop i).enterHeld_is env.self .linkDropped).1]; decide
  · rw [((c.endByDrop i).enterHeld_is env.self .flapping).1]; decide
  · rw [((c.endByDrop i).enterSignal_is env).1]; decide

/-- Of the lanes that hold no lock the first drops the port, and the others find it gone. -/
theorem State.lockLostAt_first (U : LaneSet) (p : PortNo) (l : List LaneNo) (t : State) (active : (t.port p).st = .active)
    (set : ∀ i, hasLane U i = true → hasLane (t.port p).laneSet i = true) (some : ∃ i ∈ l, hasLane U i = true) :
    ∃ i, hasLane (t.port p).laneSet i = true ∧
      l.foldl (State.lockLostAt U p) t = t.settle p ((Ctl.start (t.port p)).drop (t.env p) i) := by
  induction l with
  | nil => simp at some
  | cons i l ih =>
    rw [List.foldl_cons]
    by_cases lane : hasLane U i = true
    · refine ⟨i, set i lane, ?_⟩
      have dropped : t.lockLostAt U p i = t.settle p ((Ctl.start (t.port p)).drop (t.env p) i) := if_pos lane
      rw [dropped]
      refine State.lockLostAt_left U p l _ ?_
      rw [State.port_settle]
      exact Ctl.drop_leaves _ i _ active (set i lane)
    · rw [State.lockLostAt_idle fun h => absurd h lane]
      exact ih (by simpa [lane] using some)

/-- An event that puts its port in ACTIVE: it is handed over, and the set lanes without lock follow in their order. -/
theorem State.runPort_activates (s : State) (p : PortNo) (f : Env → Ctl → Ctl) (before : (s.port p).st ≠ .active)
    (after : (s.ctl p f).port.st = .active) :
    s.runPort p f = allLanes.foldl (State.lockLostAt (s.port p).unlockedSet p) (s.settle p (s.ctl p f)) := by
  have entered : ((s.settle p (s.ctl p f)).port p).st = .active := by rw [State.port_settle]; exact after
  exact if_pos ⟨entered, before⟩

theorem Port.hasLane_unlockedSet (c : Port) (i : LaneNo) :
    hasLane c.unlockedSet i = true ↔ hasLane c.laneSet i = true ∧ (c.lane i).st ≠ .locked := by
  unfold Port.unlockedSet
  rw [hasLane_lanesWhere]
  simp

/-- A port whose set lanes are all LOCKED enters ACTIVE, and nothing follows (R21). -/
theorem State.runPort_activates_locked (s : State) (p : PortNo) (f : Env → Ctl → Ctl) (before : (s.port p).st ≠ .active)
    (after : (s.ctl p f).port.st = .active) (locked : SetLocked (s.port p)) :
    s.runPort p f = s.settle p (s.ctl p f) := by
  rw [State.runPort_activates s p f before after]
  have none : ∀ i, ¬ hasLane (s.port p).unlockedSet i = true := fun i h =>
    ((Port.hasLane_unlockedSet _ i).1 h).2 (locked i ((Port.hasLane_unlockedSet _ i).1 h).1)
  generalize s.settle p (s.ctl p f) = t
  induction allLanes with
  | nil => rfl
  | cons i l ih => rw [List.foldl_cons, State.lockLostAt_idle fun h => absurd h (none i)]; exact ih

/-! ## The entry into ACTIVE (R21) -/

/-- What ACTIVE keeps of the attempts, the drops and the good set. -/
theorem Ctl.enterActive_keeps (env : Env) (c : Ctl) : (c.enterActive env).port.attempt = c.port.attempt ∧
    (c.enterActive env).port.drops = c.port.drops ∧ (c.enterActive env).port.good = c.port.good := by
  simp [Ctl.enterActive, Ctl.commandAll_port, Port.mapLanes, Ctl.goTo_port, Port.closeTest]

theorem IsHeld.of_same {why : HoldReason} {c d e : Port} (h : IsHeld why c e) (settings : KeepsSettings d c)
    (ident : c.ident = d.ident) (plan : c.plan = d.plan) (attempt : c.attempt = d.attempt) (drops : c.drops = d.drops) :
    IsHeld why d e := by
  obtain ⟨st, work, reason, phase, why', timer, lanes, ⟨p, hd, gc, wc, sc⟩, id, pl, n, dr⟩ := h
  obtain ⟨p', hd', gc', wc', sc'⟩ := settings
  exact ⟨st, work, reason, phase, why', timer, lanes,
    ⟨p.trans p', hd.trans hd', gc.trans gc', wc.trans wc', sc.trans sc'⟩, id.trans ident, pl.trans plan,
    n.trans attempt, dr.trans drops⟩

theorem IsSignal.of_same {cfg : ConfigCopy} {c d e : Port} (h : IsSignal cfg c e) (settings : KeepsSettings d c)
    (module : KeepsModule d c) : IsSignal cfg d e := by
  obtain ⟨st, work, cleared, lanes, attempt, left, timer, phase, beacons, ⟨p, hd, gc, wc, sc⟩, ⟨id, pl, cg, cw⟩⟩ := h
  obtain ⟨p', hd', gc', wc', sc'⟩ := settings
  obtain ⟨id', pl', cg', cw'⟩ := module
  exact ⟨st, work, cleared, lanes, attempt, left, timer, phase, beacons,
    ⟨p.trans p', hd.trans hd', gc.trans gc', wc.trans wc', sc.trans sc'⟩,
    ⟨id.trans id', pl.trans pl', cg.trans cg', cw.trans cw'⟩⟩

/-- What a drop makes of a port depends on the settings, the module and the counts alone. -/
theorem DroppedTo.of_same {cfg : ConfigCopy} {c d e : Port} (h : DroppedTo cfg c e) (settings : KeepsSettings d c)
    (module : KeepsModule d c) (attempt : c.attempt = d.attempt) (drops : c.drops = d.drops) : DroppedTo cfg d e := by
  obtain ⟨count, linkDropped, flapping, signal⟩ := h
  obtain ⟨-, hold, -⟩ := id settings
  obtain ⟨ident, plan, -⟩ := id module
  have counted : c.countDrop.drops = d.countDrop.drops := by unfold Port.countDrop; rw [drops]
  rw [counted] at count flapping signal
  rw [hold] at linkDropped flapping signal
  have held : ∀ why, IsHeld why c.countDrop e → IsHeld why d.countDrop e := fun why g =>
    g.of_same settings ident plan attempt counted
  exact ⟨count, fun h => held _ (linkDropped h), fun h limit reached => held _ (flapping h limit reached),
    fun h limit => (signal h limit).of_same settings module⟩

/-- An entry into ACTIVE in an event of the port: with every set lane LOCKED the port
stays ACTIVE, and else it is dropped at once (R21, R22, R36). -/
theorem State.runPort_entersActive (s : State) (p : PortNo) (f : Env → Ctl → Ctl) (x : Ctl)
    (hc : s.ctl p f = x.enterActive (s.env p)) (kinds : x.kinds = 0) (before : (s.port p).st ≠ .active)
    (set : x.port.laneSet = (s.port p).laneSet) :
    (SetLocked (s.port p) → (s.runPort p f).port p = (x.enterActive (s.env p)).port ∧ Reported p 2 s (s.runPort p f)) ∧
    (¬ SetLocked (s.port p) → ActiveThenDropped p x.port s (s.runPort p f)) := by
  have entered := x.enterActive_is (s.env p)
  obtain ⟨attempt, drops, -⟩ := x.enterActive_keeps (s.env p)
  have mark : (x.enterActive (s.env p)).kinds = 2 := by rw [Ctl.enterActive_kinds, kinds]; rfl
  generalize x.enterActive (s.env p) = y at hc entered attempt drops mark ⊢
  obtain ⟨port, frame, -, reported⟩ := s.settle_answer p y
  rw [mark] at reported
  obtain ⟨active, -, -, -, -, -, laneSet, -, settings, ident, plan, caps⟩ := entered
  have after : (s.ctl p f).port.st = .active := by rw [hc]; exact active
  refine ⟨fun locked => ?_, fun unlocked => ?_⟩
  · rw [State.runPort_activates_locked s p f before after locked, hc]
    exact ⟨port, reported (by decide)⟩
  · have run := State.runPort_activates s p f before after
    have frame' := s.runPort_frame p f
    rw [hc] at run
    generalize s.settle p y = t at port frame reported run
    obtain ⟨i, lane, fold⟩ := State.lockLostAt_first (s.port p).unlockedSet p allLanes t (by rw [port]; exact active)
      (fun i h => by rw [port, laneSet, set]; exact ((Port.hasLane_unlockedSet _ i).1 h).1) (by
        simp only [not_forall] at unlocked
        obtain ⟨i, h, st⟩ := unlocked
        exact ⟨i, mem_allLanes i, (Port.hasLane_unlockedSet _ i).2 ⟨h, st⟩⟩)
    obtain ⟨dropped, -, again, -⟩ := State.drop_answer t p i (by rw [port]; exact active) lane
    rw [run] at frame' ⊢
    rw [← fold] at dropped again
    generalize allLanes.foldl (State.lockLostAt (s.port p).unlockedSet p) t = u at *
    obtain ⟨-, -, -, -, -, ⟨engine, -, -, -, -, cfg, -⟩, -⟩ := frame
    rw [port, cfg] at dropped
    obtain ⟨count, held, flapping, signal⟩ := dropped.of_same settings ⟨ident, plan, caps⟩ attempt drops
    have twice : u.rep = (s.rep.withChange s.we.st.working p 2).withChange s.we.st.working p 2 := by
      rw [again, reported (by decide), engine]
    exact ⟨frame', twice, count, held, flapping, signal⟩

end Sys2Proof.Machine


/-!
# The end of a burst (R36, R98, R101, R106, R110)
-/

namespace Sys2Proof.Machine

theorem exec_burstSent (p : PortNo) (s : State) : exec (.burstSent p) s =
    act s fun s => if (s.port p).burst = some 0 then s.runPort p Ctl.endBurst else s := rfl

/-- The burst counter let go. -/
def Port.quitBurst (c : Port) : Port := { c with burst := none }

/-! ## By phase -/

section
variable {env : Env} {c : Ctl}

theorem Ctl.burstDone_go (st : c.port.st = .agree) (phase : c.port.phase = .go) : c.burstDone env = c.enterTrain env := by
  unfold Ctl.burstDone
  rw [st, phase]

theorem Ctl.burstDone_reject (st : c.port.st = .agree) (phase : c.port.phase = .reject) :
    c.burstDone env = c.enterHeld env.self .agreeConflict := by
  unfold Ctl.burstDone
  rw [st, phase]

theorem Ctl.burstDone_commit (st : c.port.st = .confirm) (phase : c.port.phase = .commit) :
    c.burstDone env = c.enterActive env := by
  unfold Ctl.burstDone
  rw [st, phase]

theorem Ctl.burstDone_retry (st : c.port.st = .confirm) (phase : c.port.phase = .retry) :
    c.burstDone env = c.enterAgreeLead env := by
  unfold Ctl.burstDone
  rw [st, phase]

theorem Ctl.burstDone_held (st : c.port.st = .confirm) (phase : c.port.phase = .heldWord) :
    c.burstDone env = c.enterHeld env.self c.port.phaseReason := by
  unfold Ctl.burstDone
  rw [st, phase]

end

/-! ## What agreement does not depend on -/

/-- A port with the fields of another that agreement does not look at: its state and phase, the timers, the outputs, the
test and the last decision. -/
def Port.aside (c x : Port) : Port :=
  { c with
    st := x.st, sub := x.sub, phase := x.phase, phaseReason := x.phaseReason, burst := x.burst, phaseTimer := x.phaseTimer,
    dwellTimer := x.dwellTimer, testTimer := x.testTimer, test := x.test, holdReason := x.holdReason,
    lowPower := x.lowPower, modReset := x.modReset, good := x.good }

theorem Port.aside_computeCaps (c x : Port) : (c.aside x).computeCaps = c.computeCaps.aside x := by
  obtain ⟨grades, widths⟩ := Port.computeCaps_congr (c := c) (d := c.aside x) rfl rfl rfl rfl
  rw [Port.computeCaps_eq, Port.computeCaps_eq c, grades, widths]
  rfl

theorem LeadAgrees.of_aside {cfg : ConfigCopy} {c x d : Port} (h : LeadAgrees cfg (c.aside x) d) : LeadAgrees cfg c d := by
  unfold LeadAgrees AgreementHeld IsProposing at *
  rw [Port.aside_computeCaps] at h
  exact h

theorem SelfAgrees.of_aside {cfg : ConfigCopy} {c x d : Port} (h : SelfAgrees cfg (c.aside x) d) : SelfAgrees cfg c d := by
  unfold SelfAgrees AgreementHeld at *
  rw [Port.aside_computeCaps] at h
  exact h

/-! ## The event at its port -/

/-- A command that is one event of one port, which completes no job and hands nothing over: the port and the lines change
alone. -/
theorem act_runPort_alone {s : State} {eff : State → State} {p : PortNo} (f : Env → Ctl → Ctl) (c : Ctl)
    (hs : s.hold = .released) (he : eff { s with out := [] } = State.runPort { s with out := [] } p f)
    (hc : s.ctl p f = c) (kinds : c.kinds = 0) (ended : c.ended = none)
    (st : c.port.st = (s.port p).st ∨ c.port.st.settled = false) :
    ∃ t, act s eff = .next t ∧ t.port p = c.port ∧ OnlyPort p s t ∧ t.out = c.out := by
  have answer := act_setPort s eff p c.port c.out hs (he.trans (State.runPort_plain _ p f c hc kinds ended st))
  have port : State.port { s.setPort p c.port with out := c.out } p = c.port := State.port_setPort s p c.port
  exact ⟨_, answer, port, by rw [OnlyPort, port], rfl⟩

/-- A command that is one event of one port which holds it. -/
theorem act_runPort_holds {s : State} {eff : State → State} {p : PortNo} (f : Env → Ctl → Ctl) (d : Port) (why : HoldReason)
    (hs : s.hold = .released) (he : eff { s with out := [] } = State.runPort { s with out := [] } p f)
    (hc : s.ctl p f = (Ctl.start d).enterHeld p why) :
    ∃ t, act s eff = .next t ∧ IsHeld why d (t.port p) ∧ Reported p 2 s t ∧ PortEventFrame p s t :=
  act_effect hs he (fun _ _ h => h) (State.runPort_holds { s with out := [] } p f d why hc)

section
variable {p : PortNo} {s : State}

/-- The burst of COMMIT has ended (R106). -/
theorem State.endBurst_commit (st : (s.port p).st = .confirm) (phase : (s.port p).phase = .commit) :
    (SetLocked (s.port p) → IsActive s.we.cfg (s.port p) ((s.runPort p Ctl.endBurst).port p) ∧
      Reported p 2 s (s.runPort p Ctl.endBurst) ∧ PortEventFrame p s (s.runPort p Ctl.endBurst)) ∧
    (¬ SetLocked (s.port p) → ActiveThenDropped p (s.port p) s (s.runPort p Ctl.endBurst)) := by
  have ctl : s.ctl p Ctl.endBurst = (Ctl.start (s.port p).quitBurst).enterActive (s.env p) :=
    Ctl.burstDone_commit st phase
  have before : (s.port p).st ≠ .active := by rw [st]; decide
  obtain ⟨stays, drops⟩ := State.runPort_entersActive s p _ _ ctl rfl before rfl
  refine ⟨fun locked => ?_, drops⟩
  obtain ⟨port, reported⟩ := stays locked
  exact ⟨by rw [port]; exact Ctl.enterActive_is _ (s.env p), reported, s.runPort_frame p _⟩

/-- The burst of RETRY has ended (R106, R110). -/
theorem State.endBurst_retry (st : (s.port p).st = .confirm) (phase : (s.port p).phase = .retry) :
    ((s.port p).role = .lead → LeadEntersAgree p (s.port p) s (s.runPort p Ctl.endBurst)) ∧
    ((s.port p).role = .self → SelfEntersAgree p (s.port p) s (s.runPort p Ctl.endBurst)) := by
  have ctl : s.ctl p Ctl.endBurst = (Ctl.start (s.port p).quitBurst).enterAgreeLead (s.env p) :=
    Ctl.burstDone_retry st phase
  have inactive : (Ctl.start (s.port p).quitBurst).port.st ≠ .active := by
    show (s.port p).st ≠ .active
    rw [st]; decide
  obtain ⟨lead, self⟩ := State.runPort_agreesLead s p _ _ ctl rfl inactive
  refine ⟨fun role => ?_, fun role => ?_⟩
  · obtain ⟨agrees, handed⟩ := lead (by show (s.port p).role ≠ .self; rw [role]; decide)
    exact ⟨LeadAgrees.of_aside (x := (s.port p).quitBurst) agrees, handed⟩
  · obtain ⟨agrees, handed⟩ := self role
    exact ⟨SelfAgrees.of_aside (x := (s.port p).quitBurst) agrees, handed⟩

end

/-- Settles O24: the end of a burst, by the port's state and the phase it sent. -/
theorem burstsEndByTheirPhase : Obligations.BurstsEndByTheirPhase := by
  intro p s hs
  rw [exec_burstSent]
  have ended : (s.port p).burst = some 0 →
      (fun s : State => if (s.port p).burst = some 0 then s.runPort p Ctl.endBurst else s) { s with out := [] } =
        State.runPort { s with out := [] } p Ctl.endBurst := fun burst => if_pos burst
  refine ⟨fun running => act_idle hs (if_neg running), fun g burst st phase agreed => ?_, fun burst st phase => ?_,
    fun burst st phase locked => ?_, fun burst st phase unlocked => ?_, fun burst st phase role => ?_,
    fun burst st phase role => ?_, fun burst st phase => ?_⟩
  · have trains := Ctl.enterTrain_is (Ctl.start (s.port p).quitBurst) (s.env p) g agreed
    have kinds : ((Ctl.start (s.port p).quitBurst).enterTrain (s.env p)).kinds = 0 := by
      rw [Ctl.enterTrain_kinds, Ctl.leavingMark_of_ne (show (s.port p).st ≠ .active by rw [st]; decide)]
      exact BitVec.or_zero
    obtain ⟨t, answer, port, only, -⟩ := act_runPort_alone Ctl.endBurst _ hs (ended burst)
      (Ctl.burstDone_go (c := Ctl.start (s.port p).quitBurst) st phase) kinds (Ctl.enterTrain_ended _ _)
      (.inr (by rw [Ctl.enterTrain_st]; rfl))
    exact ⟨t, answer, by rw [port]; exact trains, only⟩
  · exact act_runPort_holds Ctl.endBurst _ _ hs (ended burst)
      (Ctl.burstDone_reject (c := Ctl.start (s.port p).quitBurst) st phase)
  · exact act_effect hs (ended burst) (fun _ _ h => h) ((State.endBurst_commit (s := { s with out := [] }) st phase).1 locked)
  · exact act_effect hs (ended burst) (fun _ _ h => h)
      ((State.endBurst_commit (s := { s with out := [] }) st phase).2 unlocked)
  · exact act_effect hs (ended burst) (fun _ _ h => h) ((State.endBurst_retry (s := { s with out := [] }) st phase).1 role)
  · exact act_effect hs (ended burst) (fun _ _ h => h) ((State.endBurst_retry (s := { s with out := [] }) st phase).2 role)
  · exact act_runPort_holds Ctl.endBurst _ _ hs (ended burst)
      (Ctl.burstDone_held (c := Ctl.start (s.port p).quitBurst) st phase)

end Sys2Proof.Machine


/-!
# The entry of a follower into AGREE (R99, R100)
-/

namespace Sys2Proof.Machine

/-! ## Examining a proposal (R100) -/

theorem Grade.ofNum_eq_some (n : Nat) (g : Grade) : Grade.ofNum n = some g ↔ n = g.num := by
  refine ⟨fun h => ?_, fun h => ?_⟩
  · unfold Grade.ofNum at h
    have num := List.find?_some h
    rw [decide_eq_true_eq] at num
    exact num.symm
  · subst h
    cases g <;> rfl

/-- The own lanes that hear the lanes of a proposal. -/
def Port.heardLanes (c : Port) (S : LaneSet) : LaneSet := c.mappedInto 0b1111 S

/-- A proposal that the follower accepts at this grade (R100). -/
def Port.Fits (c : Port) (n : Byte) (S : LaneSet) (g : Grade) : Prop :=
  n.toNat = g.num ∧ hasGrade c.capGrades g = true ∧ laneCount (c.heardLanes S) = laneCount S ∧
  c.heardLanes S &&& ~~~c.usable = 0 ∧ hasWidth c.capWidths (laneCount S) = true

theorem Port.hasLane_mappedInto (c : Port) (m S : LaneSet) (j : LaneNo) : hasLane (c.mappedInto m S) j = true ↔
    hasLane m j = true ∧ ∃ f, c.laneMap[j] = some f ∧ S.getLsbD f.toNat = true := by
  unfold Port.mappedInto
  rw [hasLane_lanesWhere, Bool.and_eq_true]
  cases c.laneMap[j] <;> simp

theorem Port.hasLane_heardLanes (c : Port) (S : LaneSet) (j : LaneNo) :
    hasLane (c.heardLanes S) j = true ↔ ∃ f, c.laneMap[j] = some f ∧ S.getLsbD f.toNat = true := by
  have all : hasLane 0b1111 j = true := by revert j; decide
  unfold Port.heardLanes
  rw [Port.hasLane_mappedInto]
  exact and_iff_right all

/-- What the follower keeps of a proposal, whatever it answers. -/
def Port.takeUp (a : Byte) (c : Port) : Port := { c with attempt := a, agreed := none, laneSet := 0 }

theorem Port.examine_accepts (env : Env) {c : Port} (a : Byte) {n : Byte} {S : LaneSet} {g : Grade} (h : c.Fits n S g) :
    c.examine env a n S = { (c.takeUp a).setPhase .accept .noReason with
      agreed := some g, laneSet := c.heardLanes S, phaseTimer := some env.cfg.phaseWait } := by
  obtain ⟨num, rest⟩ := h
  unfold Port.examine
  dsimp only
  rw [(Grade.ofNum_eq_some _ _).2 num]
  obtain ⟨grade, count, subset, width⟩ := rest
  exact if_pos ⟨grade, count, decide_eq_true subset, width⟩

theorem Port.examine_rejects (env : Env) {c : Port} (a : Byte) {n : Byte} {S : LaneSet} (h : ∀ g, ¬ c.Fits n S g) :
    c.examine env a n S = (c.takeUp a).setBurst env .reject .agreeConflict := by
  unfold Port.examine
  dsimp only
  cases num : Grade.ofNum n.toNat with
  | none => rfl
  | some g =>
    refine if_neg ?_
    rintro ⟨grade, count, subset, width⟩
    exact h g ⟨(Grade.ofNum_eq_some _ _).1 num, grade, count, of_decide_eq_true subset, width⟩

/-! ## The proposal it finds (R92, R99) -/

/-- The proposal that a lane holds, with its attempt. -/
def Port.proposalOn (c : Port) (i : LaneNo) : Option (Byte × BeaconPart) :=
  match (c.lane i).neg with
  | none => none
  | some r => (c.takesPropose r).map fun b => (r.attempt, b)

/-- The first proposal that the present lanes hold, in increasing order. -/
def Port.firstProposal (c : Port) : Option (Byte × BeaconPart) :=
  (allLanes.filter c.isPresent).findSome? c.proposalOn

theorem Port.holdsProposal_iff (c : Port) (i : LaneNo) (a : Byte) (b : BeaconPart) :
    (c.isPresent i = true ∧ c.proposalOn i = some (a, b)) ↔ HoldsProposal c i a b := by
  refine and_congr_right fun _ => ?_
  unfold Port.proposalOn
  cases neg : (c.lane i).neg with
  | none => simp
  | some r =>
    simp only [Option.map_eq_some_iff, Prod.mk.injEq, Option.some.injEq]
    unfold Port.takesPropose
    constructor
    · rintro ⟨b', taken, attempt, rfl⟩
      split_ifs at taken with h
      obtain ⟨phase, greater, heard⟩ := h
      have far : c.far = some ⟨b'.sender.chassis, b'.sender.port⟩ := by
        simpa [Port.hears, taken, Port.fromFar] using heard
      exact ⟨attempt ▸ greater, far, r, rfl, phase, attempt, taken⟩
    · rintro ⟨greater, far, r', rfl, phase, attempt, beacon⟩
      refine ⟨b, ?_, attempt, rfl⟩
      rw [if_pos ⟨phase, by rw [attempt]; exact greater, by simp [Port.hears, beacon, Port.fromFar, far]⟩]
      exact beacon

theorem Port.firstProposal_iff (c : Port) (a : Byte) (b : BeaconPart) : c.firstProposal = some (a, b) ↔
    ∃ i, HoldsProposal c i a b ∧ ∀ j a' b', j < i → ¬ HoldsProposal c j a' b' := by
  unfold Port.firstProposal
  rw [allLanes_findSome_iff]
  refine exists_congr fun i => ?_
  rw [← and_assoc]
  refine and_congr (c.holdsProposal_iff i a b) (forall_congr' fun j => ?_)
  constructor
  · intro h a' b' less holds
    obtain ⟨present, found⟩ := (c.holdsProposal_iff j a' b').2 holds
    exact absurd ((h less present).symm.trans found) (by simp)
  · intro h less present
    refine Option.eq_none_iff_forall_ne_some.2 fun x found => ?_
    exact h x.1 x.2 less ((c.holdsProposal_iff j x.1 x.2).1 ⟨present, found⟩)

/-! ## The entry (R99) -/

/-- A follower waits for a proposal. -/
def Port.listen (env : Env) (c : Port) : Port := { c.setPhase .hello .noReason with phaseTimer := some env.cfg.phaseWait }

/-- A follower examines the first proposal it holds, if it holds one. -/
def Port.hearFirst (env : Env) (c : Port) : Port :=
  match c.firstProposal with
  | some (a, b) => c.examine env a b.propGrade b.propSet
  | none => c

theorem Ctl.enterAgreeFollow_steps (env : Env) (c : Ctl) :
    c.enterAgreeFollow env = ((c.openAgree env).mod (Port.listen env)).mod (Port.hearFirst env) := by
  unfold Ctl.enterAgreeFollow Ctl.openAgree
  dsimp only
  generalize (c.goTo .agree).commandAll env.self (c.goTo .agree).port.beaconing = x
  rfl

/-- The opened port listens. -/
theorem OpensAgree.listens {c d : Port} (h : OpensAgree c d) (env : Env) :
    IsListening env.cfg c (d.listen env) := by
  have caps := c.computeCaps_eq
  obtain ⟨lanes, test, port, beacons, -⟩ := h
  have lanesIn : LanesIn (d.listen env) (d.listen env).isPresent .beacon := by
    have present : (d.listen env).isPresent = c.isPresent := by rw [port]; rfl
    rw [present]
    exact beacons
  generalize e : d.listen env = x at lanesIn ⊢
  rw [port] at e
  subst e
  exact ⟨⟨rfl, ⟨rfl, rfl, rfl, rfl, rfl, rfl⟩, rfl, lanesIn, ⟨rfl, rfl, rfl, rfl, rfl⟩,
    ⟨by rw [caps]; rfl, by rw [caps]; rfl, rfl, rfl⟩, rfl, rfl, rfl, rfl⟩, rfl, rfl, rfl, rfl, rfl⟩

/-- The proposals that the opened port holds are those it held. -/
theorem OpensAgree.holdsProposal {c d : Port} (h : OpensAgree c d) (env : Env) (i : LaneNo) (a : Byte) (b : BeaconPart) :
    HoldsProposal (d.listen env) i a b ↔ HoldsProposal c i a b := by
  obtain ⟨lanes, test, port, -, neg⟩ := h
  have present : (d.listen env).isPresent = c.isPresent := by rw [port]; rfl
  have attempt : (d.listen env).attempt = c.attempt := by rw [port]; rfl
  have far : (d.listen env).far = c.far := by rw [port]; rfl
  have records : ((d.listen env).lane i).neg = (c.lane i).neg := neg i
  simp only [HoldsProposal, present, attempt, far, records]

/-- A listening follower answers a proposal. -/
theorem IsListening.answers {env : Env} {c d : Port} (h : IsListening env.cfg c d) (a : Byte) (b : BeaconPart) :
    IsAnswering env.cfg c (d.examine env a b.propGrade b.propSet) a b := by
  obtain ⟨⟨st, work, timer, lanes, settings, module, usable, far, map, left⟩, -⟩ := h
  have heard := d.hasLane_heardLanes b.propSet
  rw [map] at heard
  by_cases fits : ∃ g, d.Fits b.propGrade b.propSet g
  · obtain ⟨g, fits⟩ := fits
    have accepts := Port.examine_accepts env a fits
    generalize d.examine env a b.propGrade b.propSet = e at accepts ⊢
    subst accepts
    refine ⟨⟨st, work, rfl, lanes, settings, module, usable, far, map, left⟩, rfl, d.heardLanes b.propSet, heard,
      fun g' fits' => ?_, fun unfit => absurd ?_ (unfit g)⟩
    · have same : g' = g := by
        obtain ⟨num, -⟩ := fits
        obtain ⟨num', -⟩ := fits'
        exact Option.some.inj (((Grade.ofNum_eq_some _ _).2 num').symm.trans ((Grade.ofNum_eq_some _ _).2 num))
      exact ⟨rfl, rfl, rfl, by rw [same], rfl⟩
    · unfold Port.Fits at fits
      rw [usable] at fits
      exact fits
  · have unfit : ∀ g, ¬ d.Fits b.propGrade b.propSet g := fun g h => fits ⟨g, h⟩
    have rejects := Port.examine_rejects env a unfit
    generalize d.examine env a b.propGrade b.propSet = e at rejects ⊢
    subst rejects
    refine ⟨⟨st, work, rfl, lanes, settings, module, usable, far, map, left⟩, rfl, d.heardLanes b.propSet, heard,
      fun g fits' => absurd ?_ (unfit g), fun _ => ⟨rfl, rfl, rfl, rfl, rfl⟩⟩
    unfold Port.Fits
    rw [usable]
    exact fits'

/-- What a follower that enters AGREE does (R99). -/
theorem Ctl.enterAgreeFollow_is (env : Env) (c : Ctl) : FollowerAgrees env.cfg c.port (c.enterAgreeFollow env).port := by
  have opened := c.openAgree_opens env
  have listens := opened.listens env
  have holds := opened.holdsProposal env
  rw [Ctl.enterAgreeFollow_steps, Ctl.mod_port, Ctl.mod_port]
  generalize (c.openAgree env).port.listen env = d at listens holds ⊢
  simp only [FollowerAgrees, ← holds]
  refine ⟨fun silent => ?_, fun i a b first before => ?_⟩
  · have nothing : d.firstProposal = none := Option.eq_none_iff_forall_ne_some.2 fun x found => by
      obtain ⟨i, held, -⟩ := (d.firstProposal_iff x.1 x.2).1 found
      exact silent i _ _ held
    unfold Port.hearFirst
    rw [nothing]
    exact listens
  · have found : d.firstProposal = some (a, b) := (d.firstProposal_iff a b).2 ⟨i, first, fun j a' b' => before j a' b'⟩
    unfold Port.hearFirst
    rw [found]
    exact listens.answers a b

/-! ## What the entry into AGREE keeps, by any role -/

/-- What a run of verification has recorded stands. -/
def KeepsRun (c d : Port) : Prop :=
  d.verdict = c.verdict ∧ d.far = c.far ∧ d.laneMap = c.laneMap ∧ d.usable = c.usable ∧ d.role = c.role

theorem KeepsRun.trans {c d e : Port} (h : KeepsRun c d) (g : KeepsRun d e) : KeepsRun c e := by
  obtain ⟨verdict, far, map, usable, role⟩ := h
  obtain ⟨verdict', far', map', usable', role'⟩ := g
  exact ⟨verdict'.trans verdict, far'.trans far, map'.trans map, usable'.trans usable, role'.trans role⟩

theorem Ctl.enterHeld_keepsRun (self : PortNo) (why : HoldReason) (c : Ctl) : KeepsRun c.port (c.enterHeld self why).port := by
  simp [KeepsRun, Ctl.enterHeld, Ctl.commandAll_port, Port.mapLanes, Ctl.goTo_port, Port.closeTest, Port.setPhase]

theorem Ctl.enterTrain_keepsRun (env : Env) (c : Ctl) : KeepsRun c.port (c.enterTrain env).port := by
  unfold Ctl.enterTrain
  dsimp only
  split <;> simp [KeepsRun, Ctl.commandAll_port, Port.mapLanes, Ctl.goTo_port, Port.closeTest, Port.setPhase]

theorem OpensAgree.keepsRun {c d : Port} (h : OpensAgree c d) : KeepsRun c d := by
  obtain ⟨l, t, rfl, -⟩ := h
  exact ⟨rfl, rfl, rfl, rfl, rfl⟩

theorem Ctl.leadOpened_keepsRun (env : Env) (o : Ctl) : KeepsRun o.port (o.leadOpened env).port := by
  have spent : KeepsRun o.port o.port.spendAttempt := ⟨rfl, rfl, rfl, rfl, rfl⟩
  have chosen : ∀ S, KeepsRun o.port (o.port.spendAttempt.choose S) := fun S => ⟨rfl, rfl, rfl, rfl, rfl⟩
  by_cases left : o.port.left = 0
  · rw [Ctl.leadOpened_spent env left]
    exact o.enterHeld_keepsRun _ _
  by_cases common : o.port.spendAttempt.commonGrades = 0 ∨ o.port.spendAttempt.commonWidths = 0
  · rw [Ctl.leadOpened_apart env left common]
    exact spent.trans (Ctl.enterHeld_keepsRun _ _ _)
  cases rule : laneSetRule o.port.spendAttempt.commonWidths o.port.spendAttempt.usable with
  | none =>
    rw [Ctl.leadOpened_noLanes env left common rule]
    exact spent.trans (Ctl.enterHeld_keepsRun _ _ _)
  | some S =>
    rw [Ctl.leadOpened_chooses env left common rule]
    split_ifs
    · exact (chosen S).trans (Ctl.enterTrain_keepsRun _ _)
    · exact (chosen S).trans ⟨rfl, rfl, rfl, rfl, rfl⟩

/-- An examined proposal leaves the port's state, its attempts left, the good set and what verification has recorded. -/
theorem Port.examine_keeps (env : Env) (a n : Byte) (S : LaneSet) (c : Port) :
    (c.examine env a n S).st = c.st ∧ (c.examine env a n S).left = c.left ∧ (c.examine env a n S).good = c.good ∧
    KeepsRun c (c.examine env a n S) := by
  by_cases fits : ∃ g, c.Fits n S g
  · obtain ⟨g, fits⟩ := fits
    rw [Port.examine_accepts env a fits]
    exact ⟨rfl, rfl, rfl, rfl, rfl, rfl, rfl, rfl⟩
  · rw [Port.examine_rejects env a fun g h => fits ⟨g, h⟩]
    exact ⟨rfl, rfl, rfl, rfl, rfl, rfl, rfl, rfl⟩

theorem Port.hearFirst_keeps (env : Env) (c : Port) :
    (c.hearFirst env).st = c.st ∧ (c.hearFirst env).left = c.left ∧ (c.hearFirst env).good = c.good ∧
    KeepsRun c (c.hearFirst env) := by
  unfold Port.hearFirst
  split
  · exact c.examine_keeps env _ _ _
  · exact ⟨rfl, rfl, rfl, rfl, rfl, rfl, rfl, rfl⟩

theorem Ctl.enterAgreeFollow_keeps (env : Env) (c : Ctl) : (c.enterAgreeFollow env).port.st = .agree ∧
    (c.enterAgreeFollow env).port.left = c.port.left ∧ (c.enterAgreeFollow env).port.good = c.port.good ∧
    KeepsRun c.port (c.enterAgreeFollow env).port := by
  have opened := c.openAgree_opens env
  rw [Ctl.enterAgreeFollow_steps, Ctl.mod_port, Ctl.mod_port]
  generalize (c.openAgree env).port = d at opened ⊢
  obtain ⟨st, left, good, run⟩ := (d.listen env).hearFirst_keeps env
  have kept := opened.keepsRun.trans ⟨rfl, rfl, rfl, rfl, rfl⟩ |>.trans run
  obtain ⟨l, t, rfl, -⟩ := opened
  exact ⟨st, left, good, kept⟩

theorem Ctl.enterAgreeFollow_marks (env : Env) (c : Ctl) (st : c.port.st ≠ .active) :
    (c.enterAgreeFollow env).ended = c.ended ∧ (c.enterAgreeFollow env).kinds = c.kinds := by
  rw [Ctl.enterAgreeFollow_steps, Ctl.mod_ended, Ctl.mod_ended, Ctl.openAgree_ended, Ctl.mod_kinds, Ctl.mod_kinds,
    Ctl.openAgree_kinds, Ctl.leavingMark_of_ne st]
  exact ⟨rfl, BitVec.or_zero⟩

/-! ## The entry by role -/

section
variable {env : Env} {c : Ctl}

theorem Ctl.enterAgree_lead (role : c.port.role = .lead) : c.enterAgree env = c.enterAgreeLead env := by
  unfold Ctl.enterAgree
  rw [role]

theorem Ctl.enterAgree_self (role : c.port.role = .self) : c.enterAgree env = c.enterAgreeLead env := by
  unfold Ctl.enterAgree
  rw [role]

theorem Ctl.enterAgree_follow (role : c.port.role = .follow) : c.enterAgree env = c.enterAgreeFollow env := by
  unfold Ctl.enterAgree
  rw [role]

/-- What a port that enters AGREE does, by its role. -/
theorem Ctl.enterAgree_is : Agrees env.cfg c.port (c.enterAgree env).port := by
  refine ⟨fun role => ?_, fun role => ?_, fun role => ?_⟩
  · rw [Ctl.enterAgree_lead role]
    exact c.enterAgreeLead_lead env (by rw [role]; decide)
  · rw [Ctl.enterAgree_self role]
    exact c.enterAgreeLead_self env role
  · rw [Ctl.enterAgree_follow role]
    exact c.enterAgreeFollow_is env

/-- How the entry into AGREE shows (R30), and what it keeps. -/
theorem Ctl.enterAgree_marks (st : c.port.st ≠ .active) (role : c.port.role ≠ .noRole) :
    (c.enterAgree env).ended = c.ended ∧ KeepsRun c.port (c.enterAgree env).port ∧
    ((c.enterAgree env).port.st = .held ∧ (c.enterAgree env).kinds = c.kinds ||| kindMilestone ∨
      ((c.enterAgree env).port.st = .agree ∨ (c.enterAgree env).port.st = .train) ∧
        (c.enterAgree env).kinds = c.kinds) := by
  obtain ⟨ended, marks⟩ := c.enterAgreeLead_marks env st
  have run := (c.openAgree_opens env).keepsRun.trans (Ctl.leadOpened_keepsRun env (c.openAgree env))
  rw [← Ctl.enterAgreeLead_opened] at run
  cases e : c.port.role with
  | noRole => exact absurd e role
  | lead =>
    rw [Ctl.enterAgree_lead e]
    exact ⟨ended, run, marks⟩
  | self =>
    rw [Ctl.enterAgree_self e]
    exact ⟨ended, run, marks⟩
  | follow =>
    obtain ⟨st', -, -, run'⟩ := c.enterAgreeFollow_keeps env
    obtain ⟨ended', kinds'⟩ := c.enterAgreeFollow_marks env st
    rw [Ctl.enterAgree_follow e]
    exact ⟨ended', run', .inr ⟨.inl st', kinds'⟩⟩

end

theorem FollowerAgrees.of_aside {cfg : ConfigCopy} {c x d : Port} (h : FollowerAgrees cfg (c.aside x) d) :
    FollowerAgrees cfg c d := by
  unfold FollowerAgrees IsListening IsAnswering FollowsInAgree at *
  rw [Port.aside_computeCaps] at h
  exact h

theorem Agrees.of_aside {cfg : ConfigCopy} {c x d : Port} (h : Agrees cfg (c.aside x) d) : Agrees cfg c d := by
  obtain ⟨lead, self, follow⟩ := h
  exact ⟨fun role => (lead role).of_aside, fun role => (self role).of_aside, fun role => (follow role).of_aside⟩

/-- A lead that has entered AGREE and is not held has taken one of its attempts. -/
theorem LeadAgrees.spends {cfg : ConfigCopy} {c d : Port} (h : LeadAgrees cfg c d) (st : d.st ≠ .held) :
    d.attempt = nextAttempt c.attempt ∧ d.left = c.left - 1 := by
  obtain ⟨⟨spent, apart, noLanes⟩, proposes⟩ := h
  have left : c.left ≠ 0 := fun h => st (spent h).1
  have grades : c.computeCaps.commonGrades ≠ 0 := fun h => st (apart left (.inl h)).1
  have widths : c.computeCaps.commonWidths ≠ 0 := fun h => st (apart left (.inr h)).1
  have found := fun h => st (noLanes left grades widths h).1
  obtain ⟨-, -, -, -, attempt, more, -⟩ := proposes left grades widths found
  exact ⟨attempt, more⟩

/-- A SELF port that has entered AGREE and is not held has taken one of its attempts. -/
theorem SelfAgrees.spends {cfg : ConfigCopy} {c d : Port} (h : SelfAgrees cfg c d) (st : d.st ≠ .held) :
    d.attempt = nextAttempt c.attempt ∧ d.left = c.left - 1 := by
  obtain ⟨⟨spent, apart, noLanes⟩, trains⟩ := h
  have left : c.left ≠ 0 := fun h => st (spent h).1
  have grades : c.computeCaps.commonGrades ≠ 0 := fun h => st (apart left (.inl h)).1
  have widths : c.computeCaps.commonWidths ≠ 0 := fun h => st (apart left (.inr h)).1
  obtain ⟨S, found⟩ := Option.ne_none_iff_exists'.1 fun h => st (noLanes left grades widths h).1
  obtain ⟨⟨-, -, -, -, -, -, attempt, -⟩, more⟩ := trains S left grades widths found
  exact ⟨attempt, more⟩

end Sys2Proof.Machine


/-!
# A run of verification (R71, R72, R84 to R89)
-/

namespace Sys2Proof.Machine

/-! ## What the verdict does -/

section
variable {env : Env} {waiting : Bool} {v : Verdict} {c : Ctl}

theorem Ctl.proceed_agrees (passes : v.passes = true) (st : c.port.st ≠ .held) :
    c.proceed env waiting v = c.enterAgree env := (if_pos passes).trans (if_neg st)

theorem Ctl.proceed_agreesAnew (passes : v.passes = true) (st : c.port.st = .held) : c.proceed env waiting v =
    (c.mod fun p => { p with attempt := 0, left := env.cfg.attemptBudget }).enterAgree env :=
  (if_pos passes).trans (if_pos st)

theorem Ctl.proceed_waits (st : c.port.st ≠ .held) :
    c.proceed env waiting .epochWait = if waiting then c else c.mark kindEpoch :=
  (if_neg Bool.false_ne_true).trans ((if_pos rfl).trans (if_neg st))

theorem Ctl.proceed_entersWait (st : c.port.st = .held) :
    c.proceed env waiting .epochWait = (c.enterWait env).mark kindEpoch :=
  (if_neg Bool.false_ne_true).trans ((if_pos rfl).trans (if_pos st))

theorem Ctl.proceed_holds (fails : v.passes = false) (wait : v ≠ .epochWait) (st : c.port.st ≠ .held) :
    c.proceed env waiting v = c.enterHeld env.self v.reason :=
  (if_neg (Bool.eq_false_iff.1 fails)).trans ((if_neg wait).trans (if_neg st))

theorem Ctl.proceed_staysHeld (fails : v.passes = false) (wait : v ≠ .epochWait) (st : c.port.st = .held) :
    c.proceed env waiting v = c.mod fun p => { p with holdReason := v.reason, phaseReason := v.reason } :=
  (if_neg (Bool.eq_false_iff.1 fails)).trans ((if_neg wait).trans (if_pos st))

end

theorem electRole_ne_noRole (env : Env) {v : Verdict} (far : CableEnd) (passes : v.passes = true) :
    electRole env v far ≠ .noRole := by
  unfold electRole
  rw [if_pos passes]
  split_ifs <;> decide

/-! ## The run -/

/-- A run of verification, with the port's context recorded and VERDICT marked. -/
def Ctl.recorded (env : Env) (vs : LaneSet) (far : CableEnd) (c : Ctl) : Ctl :=
  (c.mod fun p => p.record env vs far (p.verdictOf env vs far)).mark kindVerdict

theorem Ctl.verify_some (env : Env) {vs : LaneSet} {far : CableEnd} (c : Ctl) (h : c.port.farIdentity vs = some far) :
    c.verify env vs = (c.recorded env vs far).proceed env c.port.inWait (c.port.verdictOf env vs far) := by
  unfold Ctl.verify
  rw [h]
  rfl

theorem RunRecorded.kept {env : Env} {c d e : Port} {vs : LaneSet} {far : CableEnd} (h : RunRecorded env c vs far d)
    (kept : KeepsRun d e) : RunRecorded env c vs far e := by
  obtain ⟨verdict, far, map, usable, role⟩ := h
  obtain ⟨verdict', far', map', usable', role'⟩ := kept
  exact ⟨verdict'.trans verdict, far'.trans far, map'.trans map, usable'.trans usable, role'.trans role⟩

/-- A recorded port that passes goes on to agreement as `Port.verified` says. -/
theorem Port.record_passes (env : Env) (c y : Port) {vs : LaneSet} {far : CableEnd}
    (passes : (c.verdictOf env vs far).passes = true) : (c.aside y).record env vs far (c.verdictOf env vs far) =
      (c.verified env vs far).aside { y with phaseTimer := none } := by
  unfold Port.record Port.verified
  rw [if_pos passes]
  rfl

/-- The change that a run of verification at a port in SIGNAL hands over. -/
def verificationKinds (waiting : Bool) (v : Verdict) (st : PortState) : BitVec 5 :=
  if st = .held then 6 else if v = .epochWait ∧ waiting = false then 20 else 4

theorem Ctl.recorded_keeps (env : Env) (vs : LaneSet) (far : CableEnd) (x : Ctl) :
    (x.recorded env vs far).port.st = x.port.st ∧ (x.recorded env vs far).ended = x.ended ∧
    (x.recorded env vs far).kinds = x.kinds ||| kindVerdict := ⟨rfl, rfl, rfl⟩

/-- A run of verification at a port in SIGNAL (R72, section 4.4). -/
theorem Ctl.verify_signal (env : Env) {c y : Port} {x : Ctl} {vs : LaneSet} {far : CableEnd} (hx : x.port = c.aside y)
    (st : x.port.st = .signal) (kinds : x.kinds = 0) (hf : c.farIdentity vs = some far) :
    VerdictActed env c vs far (x.verify env vs).port ∧ (x.verify env vs).ended = x.ended ∧
    (x.verify env vs).port.st ≠ .active ∧ (x.verify env vs).kinds =
      verificationKinds x.port.inWait (c.verdictOf env vs far) (x.verify env vs).port.st := by
  have found : x.port.farIdentity vs = some far := by rw [hx]; exact hf
  have verdict : x.port.verdictOf env vs far = c.verdictOf env vs far := by rw [hx]; rfl
  have context : (x.recorded env vs far).port = (c.aside y).record env vs far (c.verdictOf env vs far) := by
    show x.port.record env vs far (x.port.verdictOf env vs far) = _
    rw [verdict, hx]
  obtain ⟨st', ended, marks⟩ := x.recorded_keeps env vs far
  rw [x.verify_some env found, verdict]
  rw [st] at st'
  rw [kinds] at marks
  generalize x.recorded env vs far = z at context st' ended marks ⊢
  have unheld : z.port.st ≠ .held := by rw [st']; decide
  have inactive : z.port.st ≠ .active := by rw [st']; decide
  have recorded : RunRecorded env c vs far z.port := by rw [context]; exact ⟨rfl, rfl, rfl, rfl, rfl⟩
  by_cases passes : (c.verdictOf env vs far).passes = true
  · have role : z.port.role ≠ .noRole := by
      obtain ⟨-, -, -, -, role⟩ := recorded
      rw [role]
      exact electRole_ne_noRole env far passes
    have agrees := Ctl.enterAgree_is (env := env) (c := z)
    obtain ⟨ended', kept, shows⟩ := Ctl.enterAgree_marks (env := env) inactive role
    rw [Ctl.proceed_agrees passes unheld]
    generalize z.enterAgree env = d at agrees ended' kept shows ⊢
    rw [context, Port.record_passes env c y passes] at agrees
    have notWaiting : c.verdictOf env vs far ≠ .epochWait := fun h => by rw [h] at passes; cases passes
    refine ⟨⟨recorded.kept kept, fun _ => ⟨?_, agrees.of_aside⟩,
      fun h => absurd h notWaiting, fun h => absurd passes (Bool.eq_false_iff.1 h)⟩, ended'.trans ended, ?_, ?_⟩
    · rcases shows with ⟨held, -⟩ | ⟨agree | train, -⟩ <;> simp [*]
    · rcases shows with ⟨held, -⟩ | ⟨agree | train, -⟩ <;> simp [*]
    · unfold verificationKinds
      rcases shows with ⟨held, k⟩ | ⟨agree | train, k⟩ <;>
        simp [*, kindVerdict, kindMilestone]
  have fails : (c.verdictOf env vs far).passes = false := Bool.eq_false_iff.2 passes
  by_cases wait : c.verdictOf env vs far = .epochWait
  · rw [wait, Ctl.proceed_waits unheld]
    have timer : z.port.phaseTimer = none := by rw [context]; rfl
    have acted : VerdictActed env c vs far z.port :=
      ⟨recorded, fun h => absurd h passes, fun _ => ⟨st', timer⟩, fun _ h => absurd wait h⟩
    cases waiting : x.port.inWait with
    | true => exact ⟨acted, ended, inactive, by simp [verificationKinds, marks, st', kindVerdict]⟩
    | false => exact ⟨acted, ended, inactive, by simp [verificationKinds, marks, st', kindVerdict, kindEpoch]⟩
  · rw [Ctl.proceed_holds fails wait unheld]
    have held := z.enterHeld_is env.self (c.verdictOf env vs far).reason
    have kept := z.enterHeld_keepsRun env.self (c.verdictOf env vs far).reason
    have k := Ctl.enterHeld_kinds z env.self (c.verdictOf env vs far).reason
    have e := Ctl.enterHeld_ended z env.self (c.verdictOf env vs far).reason
    generalize z.enterHeld env.self (c.verdictOf env vs far).reason = d at held kept k e ⊢
    rw [context] at held
    obtain ⟨isHeld, -⟩ := id held
    refine ⟨⟨recorded.kept kept, fun h => absurd h passes, fun h => absurd h wait, fun _ _ => held⟩, e.trans ended, ?_, ?_⟩
    · rw [isHeld]; decide
    · simp [verificationKinds, isHeld, k, marks, kindVerdict, kindMilestone]

end Sys2Proof.Machine


/-!
# The end of the signal window (R19, R20, R83)
-/

namespace Sys2Proof.Machine

/-- The event of a run of verification at a port in SIGNAL, and what it hands over (R72, R85). -/
theorem State.runPort_verifies (s : State) (p : PortNo) (f : Env → Ctl → Ctl) {c y : Port} {x : Ctl} {vs : LaneSet}
    {far : CableEnd} (hc : s.ctl p f = x.verify (s.env p) vs) (hx : x.port = c.aside y) (st : x.port.st = .signal)
    (kinds : x.kinds = 0) (hf : c.farIdentity vs = some far) :
    VerificationRan x.port.inWait p c vs far s (s.runPort p f) := by
  obtain ⟨acted, -, inactive, marks⟩ := Ctl.verify_signal (s.env p) hx st kinds hf
  obtain ⟨port, frame, -, reported⟩ := State.runPort_answer s p f _ hc fun h => absurd h inactive
  have handed : (x.verify (s.env p) vs).kinds ≠ 0 := by
    rw [marks]
    unfold verificationKinds
    split_ifs <;> decide
  refine ⟨frame, by rw [port]; exact acted, ?_⟩
  rw [port]
  rw [marks] at reported handed
  exact reported handed

/-! ## What is heard -/

theorem hasLane_and (a b : LaneSet) (i : LaneNo) : hasLane (a &&& b) i = (hasLane a i && hasLane b i) :=
  BitVec.getLsbD_and

/-- A lane is heard when it is present and identified. -/
theorem Port.hasLane_heardSet (c : Port) (i : LaneNo) :
    hasLane c.heardSet i = true ↔ c.isPresent i = true ∧ (c.lane i).far ≠ none := by
  unfold Port.heardSet
  rw [hasLane_and, Port.hasLane_identifiedSet, Port.hasLane_presentSet, Bool.and_eq_true, and_comm,
    Option.isSome_iff_ne_none]

theorem Port.farIdentity_heardSet_none (c : Port) (h : ∀ i, c.isPresent i = true → (c.lane i).far = none) :
    c.farIdentity c.heardSet = none := by
  have silent : lowestLane c.heardSet = none := (lowestLane_eq_none _).2 fun i => Bool.eq_false_iff.2 fun heard =>
    ((c.hasLane_heardSet i).1 heard).2 (h i ((c.hasLane_heardSet i).1 heard).1)
  unfold Port.farIdentity
  rw [silent]

theorem Port.farIdentity_heardSet_some (c : Port) (h : ∃ i, c.isPresent i = true ∧ (c.lane i).far ≠ none) :
    ∃ far, c.farIdentity c.heardSet = some far := by
  cases lowest : lowestLane c.heardSet with
  | none =>
    obtain ⟨i, present, identified⟩ := h
    have silent := (lowestLane_eq_none _).1 lowest i
    exact absurd ((c.hasLane_heardSet i).2 ⟨present, identified⟩) (Bool.eq_false_iff.1 silent)
  | some i =>
    obtain ⟨heard, -⟩ := (lowestLane_eq_some _ _).1 lowest
    obtain ⟨f, far⟩ := Option.ne_none_iff_exists'.1 ((c.hasLane_heardSet i).1 heard).2
    exact ⟨⟨f.chassis, f.port⟩, by unfold Port.farIdentity; rw [lowest]; simp [far]⟩

theorem Port.anySeen_iff (c : Port) (vs : LaneSet) : c.anySeen vs = true ↔
    ∃ i b, hasLane vs i = true ∧ (c.lane i).beaconPart = some b ∧ b.seenPort ≠ 0xFF := by
  unfold Port.anySeen
  rw [List.any_eq_true]
  constructor
  · rintro ⟨i, -, h⟩
    obtain ⟨heard, seen⟩ := Bool.and_eq_true_iff.1 h
    cases beacon : (c.lane i).beaconPart with
    | none => simp [beacon] at seen
    | some b => exact ⟨i, b, heard, beacon, by simpa [beacon, BeaconPart.carriesSeen] using seen⟩
  · rintro ⟨i, b, heard, beacon, seen⟩
    exact ⟨i, mem_allLanes i, by simpa [heard, beacon, BeaconPart.carriesSeen] using seen⟩

/-! ## The window over -/

/-- The port that hears and is not seen, its context recorded and VERDICT marked (R19, R83). -/
def Ctl.oneWay (env : Env) (far : CableEnd) (c : Ctl) : Ctl :=
  (c.mod fun p => p.record env p.heardSet far .oneWay).mark kindVerdict

@[simp] theorem Ctl.enterDark_kinds (c : Ctl) : c.enterDark.kinds = c.kinds ||| kindMilestone := by
  simp [Ctl.enterDark, Ctl.goTo_kinds, PortState.milestone]

section
variable {env : Env} {c : Ctl}

theorem Ctl.windowOver_dark (h : c.port.farIdentity c.port.heardSet = none) : c.windowOver env = c.enterDark := by
  unfold Ctl.windowOver
  dsimp only
  rw [h]

theorem Ctl.windowOver_oneWay {far : CableEnd} (h : c.port.farIdentity c.port.heardSet = some far)
    (seen : c.port.anySeen c.port.heardSet = false) : c.windowOver env =
      (c.oneWay env far).enterHeld env.self .oneWay := by
  unfold Ctl.windowOver
  dsimp only
  rw [h]
  exact if_neg (Bool.eq_false_iff.1 seen)

theorem Ctl.windowOver_verifies {far : CableEnd} (h : c.port.farIdentity c.port.heardSet = some far)
    (seen : c.port.anySeen c.port.heardSet = true) : c.windowOver env = c.verify env c.port.heardSet := by
  unfold Ctl.windowOver
  dsimp only
  rw [h]
  exact if_pos seen

end

theorem exec_signalWindowExpiry (p : PortNo) (s : State) : exec (.signalWindowExpiry p) s = act s fun s =>
    if (s.port p).st = .signal ∧ due (s.port p).phaseTimer then
      s.runPort p fun env c => c.stopPhase.windowOver env else s := rfl

/-- The port with its window over. -/
def Port.stopWindow (c : Port) : Port := { c with phaseTimer := none }

/-- Settles O26: the end of the signal window, by what the present lanes have heard. -/
theorem theSignalWindowDecides : Obligations.TheSignalWindowDecides := by
  intro p s hs
  rw [exec_signalWindowExpiry]
  have expired : (s.port p).st = .signal → (s.port p).phaseTimer = some 0 →
      (fun s : State => if (s.port p).st = .signal ∧ due (s.port p).phaseTimer then
        s.runPort p fun env c => c.stopPhase.windowOver env else s) { s with out := [] } =
        State.runPort { s with out := [] } p fun env c => c.stopPhase.windowOver env :=
    fun st timer => if_pos ⟨st, (due_iff _).2 timer⟩
  refine ⟨fun idle => act_idle hs (if_neg ?_), fun st timer silent => ?_, fun st timer heard unseen => ?_,
    fun far i b st wait timer identity present identified beacon seen => ?_⟩
  · rintro ⟨st, timer⟩
    have timer := (due_iff _).1 timer
    exact idle.elim (fun h => h st) fun h => h timer
  · have ctl : State.ctl s p (fun env c => c.stopPhase.windowOver env) = (Ctl.start (s.port p).stopWindow).enterDark :=
      Ctl.windowOver_dark (c := Ctl.start (s.port p).stopWindow) (Port.farIdentity_heardSet_none (s.port p) silent)
    refine act_runPort_quiet _ _ hs (expired st timer) ctl rfl (.inr rfl) fun t answer engine _ lines => ?_
    obtain ⟨port, frame, -, reported⟩ := answer
    rw [Ctl.enterDark_kinds, Ctl.start_kinds] at reported
    exact ⟨by rw [port]; rfl, reported (by decide), frame, engine, lines⟩
  · obtain ⟨far, identity⟩ := Port.farIdentity_heardSet_some (s.port p) heard
    have unseen' : (s.port p).anySeen (s.port p).heardSet = false := Bool.eq_false_iff.2 fun h => by
      obtain ⟨i, b, lane, beacon, seen⟩ := ((s.port p).anySeen_iff _).1 h
      obtain ⟨present, identified⟩ := ((s.port p).hasLane_heardSet i).1 lane
      exact seen (unseen i b present identified beacon)
    have ctl : State.ctl s p (fun env c => c.stopPhase.windowOver env) =
        ((Ctl.start (s.port p).stopWindow).oneWay (s.env p) far).enterHeld p .oneWay :=
      Ctl.windowOver_oneWay (c := Ctl.start (s.port p).stopWindow) identity unseen'
    have held := Ctl.enterHeld_is ((Ctl.start (s.port p).stopWindow).oneWay (s.env p) far) p .oneWay
    obtain ⟨verdict, farEnd, map, usable, role⟩ := Ctl.enterHeld_keepsRun p .oneWay
      ((Ctl.start (s.port p).stopWindow).oneWay (s.env p) far)
    have marks : (((Ctl.start (s.port p).stopWindow).oneWay (s.env p) far).enterHeld p .oneWay).kinds = 6 := by
      rw [Ctl.enterHeld_kinds]
      exact (by decide : (0 ||| kindVerdict) ||| kindMilestone = 6)
    refine act_runPort _ _ hs (expired st timer) ctl (fun h => by rw [held.1] at h; cases h) fun t answer => ?_
    obtain ⟨port, frame, -, reported⟩ := answer
    rw [marks] at reported
    rw [port]
    exact ⟨held, verdict, farEnd.trans identity.symm, usable, role, map, reported (by decide), frame⟩
  · have seen' : (s.port p).anySeen (s.port p).heardSet = true :=
      ((s.port p).anySeen_iff _).2 ⟨i, b, ((s.port p).hasLane_heardSet i).2 ⟨present, identified⟩, beacon, seen⟩
    have ctl : State.ctl { s with out := [] } p (fun env c => c.stopPhase.windowOver env) =
        (Ctl.start (s.port p).stopWindow).verify (s.env p) (s.port p).heardSet :=
      Ctl.windowOver_verifies (c := Ctl.start (s.port p).stopWindow) identity seen'
    have ran := State.runPort_verifies { s with out := [] } p _ (c := s.port p) (y := (s.port p).stopWindow) ctl rfl st rfl
      identity
    have notWaiting : (s.port p).stopWindow.inWait = false := by
      show (decide ((s.port p).st = .signal) && decide ((s.port p).verdict = .epochWait)) = false
      simp [wait]
    rw [Ctl.start_port, notWaiting] at ran
    exact act_effect hs (expired st timer) (fun _ _ h => h) ran

end Sys2Proof.Machine


/-!
# Training words (R36, R51, R92, R99, R100, R104, R105, R107, R108)
-/

namespace Sys2Proof.Machine

theorem exec_trainingWord (p : PortNo) (i : LaneNo) (bytes : Vector Byte 8) (s : State) :
    exec (.trainingWord p i bytes) s =
      act s fun s => if ((s.port p).lane i).st = .locked then s.takeWord p i bytes.toList else s := rfl

/-! ## A word that is taken (R51) -/

theorem Lane.fromFarLane_iff (l : Lane) (b : List Byte) :
    l.fromFarLane b = true ↔ ∀ f, l.far = some f → (byteAt b 4).toNat = f.lane.toNat := by
  unfold Lane.fromFarLane
  cases l.far <;> simp

theorem State.takeWord_dropped {s : State} {p : PortNo} {i : LaneNo} {b : List Byte} (check : checkOk 6 b = true)
    (h : Phase.ofWord (byteAt b 0) = none ∨ ((s.port p).lane i).fromFarLane b = false) : s.takeWord p i b = s := by
  unfold State.takeWord
  dsimp only
  rw [if_pos check]
  cases phase : Phase.ofWord (byteAt b 0) with
  | none => rfl
  | some ph =>
    rcases h with h | h
    · rw [phase] at h; cases h
    · exact if_neg (Bool.eq_false_iff.1 h)

theorem State.takeWord_taken {s : State} {p : PortNo} {i : LaneNo} {b : List Byte} {ph : Phase}
    (check : checkOk 6 b = true) (phase : Phase.ofWord (byteAt b 0) = some ph)
    (lane : ((s.port p).lane i).fromFarLane b = true) :
    s.takeWord p i b = s.runPort p (Ctl.hearWord i (((s.port p).lane i).wordRecord ph b)) := by
  unfold State.takeWord
  dsimp only
  rw [if_pos check, phase]
  exact if_pos lane

/-- The port with the record that a word made on a lane. -/
def Port.withRecord (i : LaneNo) (r : NegRecord) (c : Port) : Port := c.modLane i fun l => { l with neg := some r }

/-! ## What the port does with it (R92) -/

/-- A word that R92 lets the port act on: of the far end, and of the current attempt. -/
def Port.ActsOnWord (c : Port) (r : NegRecord) : Prop :=
  (c.st = .train ∨ c.st = .qualify ∨ c.st = .confirm) ∧ c.hears r = true ∧ r.attempt = c.attempt

theorem PortState.hearsWords_iff (st : PortState) :
    st.hearsWords = true ↔ st = .train ∨ st = .qualify ∨ st = .confirm := by
  cases st <;> decide

theorem Port.hears_iff (c : Port) (r : NegRecord) :
    c.hears r = true ↔ ∃ b, r.beacon = some b ∧ c.far = some ⟨b.sender.chassis, b.sender.port⟩ := by
  unfold Port.hears Port.fromFar
  cases r.beacon <;> simp

section
variable {env : Env} {c : Ctl} {r : NegRecord}

theorem Ctl.wordHears_ignores (h : ¬ c.port.ActsOnWord r) : c.wordHears env r = c := by
  refine if_neg ?_
  rintro ⟨st, hears, attempt⟩
  exact h ⟨(PortState.hearsWords_iff _).1 st, hears, attempt⟩

theorem Ctl.wordHears_held (h : c.port.ActsOnWord r) (role : c.port.role = .lead ∨ c.port.role = .follow)
    (phase : r.phase = .heldWord) : c.wordHears env r = c.enterHeld env.self .farHeld := by
  obtain ⟨st, rest⟩ := h
  refine (if_pos ⟨(PortState.hearsWords_iff _).2 st, rest⟩).trans ?_
  rcases role with role | role <;> rw [role, phase]

theorem Ctl.wordHears_retry (h : c.port.ActsOnWord r) (role : c.port.role = .follow) (phase : r.phase = .retry) :
    c.wordHears env r = (c.mod (Port.recordWordMask r.good)).enterAgreeFollow env := by
  obtain ⟨st, rest⟩ := h
  refine (if_pos ⟨(PortState.hearsWords_iff _).2 st, rest⟩).trans ?_
  rw [role, phase]

theorem Ctl.wordHears_commit (h : c.port.ActsOnWord r) (role : c.port.role = .follow) (phase : r.phase = .commit)
    (st : c.port.st = .confirm) : c.wordHears env r = (c.mod (Port.recordWordMask r.good)).enterActive env := by
  obtain ⟨st', rest⟩ := h
  refine (if_pos ⟨(PortState.hearsWords_iff _).2 st', rest⟩).trans ?_
  rw [role, phase]
  exact if_pos st

theorem Ctl.wordHears_training (h : c.port.ActsOnWord r) (role : c.port.role = .lead ∨ c.port.role = .follow)
    (phase : r.phase = .training) (st : c.port.st = .confirm) (sends : c.port.phase = .result) :
    c.wordHears env r = c.mod fun p => { p with phaseTimer := some env.cfg.phaseWait } := by
  obtain ⟨st', rest⟩ := h
  refine (if_pos ⟨(PortState.hearsWords_iff _).2 st', rest⟩).trans ?_
  have awaits : c.port.awaitsFar = true := by simp [Port.awaitsFar, st, sends]
  rcases role with role | role <;> rw [role, phase] <;> exact if_pos awaits

/-- The words that a port acts on in no way (R92, R105 to R108). -/
theorem Ctl.wordHears_idle (h : c.port.role = .self ∨ c.port.role = .noRole ∨
      (c.port.role = .lead ∧ (r.phase = .commit ∨ r.phase = .retry)) ∨ (c.port.role = .follow ∧ r.phase = .result) ∨
      ((c.port.st ≠ .confirm ∨ c.port.phase ≠ .result) ∧ (r.phase = .training ∨ r.phase = .result)) ∨
      (c.port.st ≠ .confirm ∧ r.phase = .commit)) : c.wordHears env r = c := by
  by_cases acts : c.port.st.hearsWords ∧ c.port.hears r ∧ r.attempt = c.port.attempt
  · refine (if_pos acts).trans ?_
    rcases h with role | role | ⟨role, phase | phase⟩ | ⟨role, phase⟩ | ⟨waits, phase⟩ | ⟨st, phase⟩
    · cases r.phase <;> rw [role]
    · cases r.phase <;> rw [role]
    · rw [role, phase]
    · rw [role, phase]
    · rw [role, phase]
    · have deaf : c.port.awaitsFar ≠ true := by
        rcases waits with h | h <;> simp [Port.awaitsFar, h]
      rcases phase with phase | phase <;> cases role : c.port.role <;> rw [phase] <;> simp [deaf]
    · rw [phase]
      cases c.port.role <;> simp [st]
  · exact if_neg acts

end

/-! ## The masks of a word (R108) -/

/-- The lanes of the own good set whose far lanes the word finds good are good both ways. -/
def Port.maskGood (F : LaneSet) (c : Port) : Port := { c with good := c.mappedInto (c.laneSet &&& c.good) F }

theorem Port.recordWordMask_confirm {F : LaneSet} {c : Port} (st : c.st = .confirm) : c.recordWordMask F = c.maskGood F :=
  if_pos st

theorem Port.recordWordMask_other {F : LaneSet} {c : Port} (st : c.st ≠ .confirm) : c.recordWordMask F = c := if_neg st

theorem Port.hasLane_maskGood (F : LaneSet) (c : Port) (j : LaneNo) : hasLane (c.maskGood F).good j = true ↔
    hasLane c.laneSet j = true ∧ hasLane c.good j = true ∧ ∃ f, c.laneMap[j] = some f ∧ F.getLsbD f.toNat = true := by
  unfold Port.maskGood
  rw [Port.hasLane_mappedInto, hasLane_and, Bool.and_eq_true, and_assoc]

/-- The port that has recorded a word and its mask. -/
theorem Port.withRecord_maskGood (c : Port) (i : LaneNo) (r : NegRecord) : ∃ good lanes,
    (c.withRecord i r).maskGood r.good = { c with good := good, lanes := lanes } ∧
    ∀ j, hasLane good j = true ↔ hasLane c.laneSet j = true ∧ hasLane c.good j = true ∧
      ∃ f, c.laneMap[j] = some f ∧ r.good.getLsbD f.toNat = true :=
  ⟨_, _, rfl, Port.hasLane_maskGood r.good (c.withRecord i r)⟩

/-- What follows an entry into ACTIVE depends on no good set and no record. -/
theorem ActiveThenDropped.of_masked {p : PortNo} {c : Port} {g : LaneSet} {lanes : Vector Lane 4} {s t : State}
    (h : ActiveThenDropped p { c with good := g, lanes := lanes } s t) : ActiveThenDropped p c s t := h

theorem IsActive.of_masked {cfg : ConfigCopy} {c d : Port} {g : LaneSet} {lanes : Vector Lane 4}
    (h : IsActive cfg { c with good := g, lanes := lanes } d) : IsActive cfg c d := h

/-- A follower goes back to AGREE on RETRY (R99, R108). -/
def Ctl.retried (env : Env) (F : LaneSet) (c : Ctl) : Ctl := (c.mod (Port.recordWordMask F)).enterAgreeFollow env

theorem Ctl.retried_is (env : Env) (F : LaneSet) (d : Port) :
    FollowerAgrees env.cfg d ((Ctl.start d).retried env F).port ∧
    (d.st ≠ .confirm → ((Ctl.start d).retried env F).port.good = d.good) ∧
    (d.st = .confirm → ((Ctl.start d).retried env F).port.good = (d.maskGood F).good) := by
  have agrees := Ctl.enterAgreeFollow_is env ((Ctl.start d).mod (Port.recordWordMask F))
  obtain ⟨-, -, good, -⟩ := Ctl.enterAgreeFollow_keeps env ((Ctl.start d).mod (Port.recordWordMask F))
  have aside : d.recordWordMask F = d.aside (d.recordWordMask F) := by
    unfold Port.recordWordMask
    split_ifs <;> rfl
  unfold Ctl.retried
  rw [good, Ctl.mod_port, Ctl.start_port]
  rw [Ctl.mod_port, Ctl.start_port, aside] at agrees
  exact ⟨agrees.of_aside, fun st => by rw [Port.recordWordMask_other st], fun st => by rw [Port.recordWordMask_confirm st]⟩

theorem Ctl.retried_marks (env : Env) (F : LaneSet) (d : Port) (st : d.st ≠ .active) :
    ((Ctl.start d).retried env F).kinds = 0 ∧ ((Ctl.start d).retried env F).ended = none ∧
    ((Ctl.start d).retried env F).port.st = .agree := by
  have same : (d.recordWordMask F).st = d.st := by
    unfold Port.recordWordMask
    split_ifs <;> rfl
  obtain ⟨ended, kinds⟩ := Ctl.enterAgreeFollow_marks env ((Ctl.start d).mod (Port.recordWordMask F))
    (by rw [Ctl.mod_port, Ctl.start_port, same]; exact st)
  obtain ⟨agree, -⟩ := Ctl.enterAgreeFollow_keeps env ((Ctl.start d).mod (Port.recordWordMask F))
  rw [Ctl.mod_kinds, Ctl.start_kinds] at kinds
  rw [Ctl.mod_ended, Ctl.start_ended] at ended
  unfold Ctl.retried
  exact ⟨kinds, ended, agree⟩

/-! ## The event at its port -/

section
variable {p : PortNo} {i : LaneNo} {s : State} {r : NegRecord}

/-- COMMIT at a follower in CONFIRM (R108). -/
theorem State.hearWord_commit (acts : (s.port p).ActsOnWord r) (st : (s.port p).st = .confirm)
    (role : (s.port p).role = .follow) (phase : r.phase = .commit) :
    (SetLocked (s.port p) → IsActive s.we.cfg (s.port p) ((s.runPort p (Ctl.hearWord i r)).port p) ∧
      (∀ j, hasLane ((s.runPort p (Ctl.hearWord i r)).port p).good j = true ↔ hasLane (s.port p).laneSet j = true ∧
        hasLane (s.port p).good j = true ∧ ∃ f, (s.port p).laneMap[j] = some f ∧ r.good.getLsbD f.toNat = true) ∧
      Reported p 2 s (s.runPort p (Ctl.hearWord i r)) ∧ PortEventFrame p s (s.runPort p (Ctl.hearWord i r))) ∧
    (¬ SetLocked (s.port p) → ActiveThenDropped p (s.port p) s (s.runPort p (Ctl.hearWord i r))) := by
  have ctl : s.ctl p (Ctl.hearWord i r) =
      (Ctl.start (((s.port p).withRecord i r).recordWordMask r.good)).enterActive (s.env p) :=
    Ctl.wordHears_commit acts role phase st
  obtain ⟨good, lanes, masked, both⟩ := (s.port p).withRecord_maskGood i r
  rw [Port.recordWordMask_confirm (show ((s.port p).withRecord i r).st = .confirm from st), masked] at ctl
  have before : (s.port p).st ≠ .active := by rw [st]; decide
  obtain ⟨stays, drops⟩ := State.runPort_entersActive s p _ _ ctl rfl before rfl
  refine ⟨fun locked => ?_, fun unlocked => (drops unlocked).of_masked⟩
  obtain ⟨port, reported⟩ := stays locked
  obtain ⟨-, -, kept⟩ :=
    (Ctl.start { s.port p with good := good, lanes := lanes }).enterActive_keeps (s.env p)
  have active := Ctl.enterActive_is (Ctl.start { s.port p with good := good, lanes := lanes }) (s.env p)
  rw [port, kept]
  exact ⟨IsActive.of_masked active, both, reported, s.runPort_frame p _⟩

end

/-- Settles O19: a training word by its phase and its sender, and at the port by the rules of R92. -/
theorem trainingWordsActByPhase : Obligations.TrainingWordsActByPhase := by
  intro p i bytes s hs
  rw [exec_trainingWord]
  intro c l w locked check
  have arrives : (fun s : State => if ((s.port p).lane i).st = .locked then s.takeWord p i bytes.toList else s)
      { s with out := [] } = State.takeWord { s with out := [] } p i w := if_pos locked
  refine ⟨fun drop => act_idle hs (arrives.trans (State.takeWord_dropped check ?_)), fun ph phase lane => ?_⟩
  · refine drop.imp id ?_
    rintro ⟨f, far, other⟩
    exact Bool.eq_false_iff.2 fun h => other ((l.fromFarLane_iff w).1 h f far)
  intro r d attempting masked
  have taken := arrives.trans (State.takeWord_taken (s := { s with out := [] }) check phase ((l.fromFarLane_iff w).2 lane))
  change _ = State.runPort { s with out := [] } p (Ctl.hearWord i r) at taken
  have acts : ∀ b, r.beacon = some b → c.far = some ⟨b.sender.chassis, b.sender.port⟩ → r.attempt = c.attempt →
      attempting → c.ActsOnWord r := fun b beacon far attempt st => ⟨st, (c.hears_iff r).2 ⟨b, beacon, far⟩, attempt⟩
  refine ⟨fun ignored => ?_, fun b beacon far attempt st sends role word => ?_, fun b beacon far attempt st role word => ?_,
    fun b beacon far attempt st role word => ?_, fun b beacon far attempt st role word => ⟨fun all => ?_, fun unlocked => ?_⟩⟩
  · have ctl : s.ctl p (Ctl.hearWord i r) = Ctl.start d := by
      by_cases on : c.ActsOnWord r
      · refine Ctl.wordHears_idle (c := Ctl.start d) ?_
        obtain ⟨st, hears, attempt⟩ := on
        obtain ⟨b, beacon, far⟩ := (c.hears_iff r).1 hears
        rcases ignored with h | h | h | h | h | h | h | h | h
        · exact .inl h
        · exact .inr (.inl h)
        · exact absurd attempt h
        · exact absurd st h
        · exact absurd far (h b beacon)
        · exact .inr (.inr (.inl h))
        · exact .inr (.inr (.inr (.inl h)))
        · exact .inr (.inr (.inr (.inr (.inl h))))
        · exact .inr (.inr (.inr (.inr (.inr h))))
      · exact Ctl.wordHears_ignores (c := Ctl.start d) on
    exact act_runPort_alone _ _ hs taken ctl rfl rfl (.inl rfl)
  · have on := acts b beacon far attempt (.inr (.inr st))
    exact act_runPort_alone _ _ hs taken (Ctl.wordHears_training (c := Ctl.start d) on role word st sends) rfl rfl (.inl rfl)
  · have on := acts b beacon far attempt st
    have ctl : s.ctl p (Ctl.hearWord i r) = (Ctl.start d).retried (s.env p) r.good :=
      Ctl.wordHears_retry (c := Ctl.start d) on role word
    have inactive : d.st ≠ .active := by
      rcases st with st | st | st <;> exact fun h => PortState.noConfusion (st.symm.trans h)
    obtain ⟨kinds, ended, agree⟩ := Ctl.retried_marks (s.env p) r.good d inactive
    obtain ⟨agrees, other, confirm⟩ := Ctl.retried_is (s.env p) r.good d
    obtain ⟨t, answer, port, only, -⟩ := act_runPort_alone _ _ hs taken ctl kinds ended (.inr (by rw [agree]; rfl))
    rw [← port] at agrees other confirm
    exact ⟨t, answer, agrees, other, fun st j => by rw [confirm st]; exact Port.hasLane_maskGood r.good d j, only⟩
  · have on := acts b beacon far attempt st
    exact act_runPort_holds _ d _ hs taken (Ctl.wordHears_held (c := Ctl.start d) on role word)
  · have on := acts b beacon far attempt (.inr (.inr st))
    exact act_effect hs taken (fun _ _ h => h) ((State.hearWord_commit (s := { s with out := [] }) on st role word).1 all)
  · have on := acts b beacon far attempt (.inr (.inr st))
    exact act_effect hs taken (fun _ _ h => h)
      ((State.hearWord_commit (s := { s with out := [] }) on st role word).2 unlocked)

end Sys2Proof.Machine


/-!
# Beacons (R18, R20, R25, R43 to R49, R85 to R87)
-/

namespace Sys2Proof.Machine

/-- A frame taken in BEACON and COLLECT (R37, R42, R43). -/
def State.takeFrame (s : State) (p : PortNo) (i : LaneNo) (bytes : List Byte) : State :=
  if ((s.port p).lane i).st = .beacon ∧ ((s.port p).lane i).rx = .collect then s.takeBeacon p i bytes else s

theorem exec_beaconFrame (p : PortNo) (i : LaneNo) (bytes : Vector Byte 18) (s : State) :
    exec (.beaconFrame p i bytes) s = act s fun s => s.takeFrame p i bytes.toList := rfl

/-! ## A beacon as one event of its port (R43 to R48) -/

@[simp] theorem State.setPort_setPort (s : State) (p : PortNo) (c d : Port) :
    (s.setPort p c).setPort p d = s.setPort p d := by
  simp [State.setPort]

@[simp] theorem Port.setLane_setLane (c : Port) (i : LaneNo) (l m : Lane) : (c.setLane i l).setLane i m = c.setLane i m := by
  simp [Port.setLane]

/-- What an event hands over does not depend on the port's context before it, its state aside. -/
theorem State.settle_setPort (s : State) (p : PortNo) (d : Port) (c : Ctl) (st : d.st = (s.port p).st) :
    (s.setPort p d).settle p c = s.settle p c := by
  unfold State.settle
  dsimp only
  rw [State.port_setPort, st, State.setPort_setPort]

/-- The receiver of a lane goes to HUNT (R43). -/
def Port.hunts (i : LaneNo) (c : Port) : Port := c.modLane i fun l => { l with rx := .hunt }

/-- A valid beacon on a lane, the receiver's return to HUNT and the arrival at the port in one event. -/
def Ctl.takesBeacon (i : LaneNo) (id : Ident) (r : NegRecord) (env : Env) (c : Ctl) : Ctl :=
  (c.mod (Port.hunts i)).hearBeacon i id r env

theorem Lane.correct_eq (l : Lane) (bytes : List Byte) :
    l.correct bytes = if l.polarity = .inverted then bytes.map (fun b => ~~~b) else bytes := by
  unfold Lane.correct
  cases l.polarity <;> rfl

section
variable {s : State} {p : PortNo} {i : LaneNo} {bytes : List Byte}

/-- A beacon dropped for its content leaves all but the receiver (R45). -/
theorem State.takeFrame_dropped (st : ((s.port p).lane i).st = .beacon) (rx : ((s.port p).lane i).rx = .collect)
    (check : checkOk 16 (((s.port p).lane i).correct bytes) = true)
    (h : beaconOf (((s.port p).lane i).correct bytes) = none) :
    s.takeFrame p i bytes = s.setPort p ((s.port p).hunts i) := by
  refine (if_pos ⟨st, rx⟩).trans ?_
  unfold State.takeBeacon
  dsimp only
  rw [if_pos check, h]
  rfl

theorem State.takeBeacon_hears {r : NegRecord} {b : BeaconPart}
    (check : checkOk 16 (((s.port p).lane i).correct bytes) = true)
    (h : beaconOf (((s.port p).lane i).correct bytes) = some r) (beacon : r.beacon = some b) :
    s.takeBeacon p i bytes = (s.setPort p ((s.port p).hunts i)).runPort p (Ctl.hearBeacon i b.sender r) := by
  obtain ⟨ph, a, g, why, part⟩ := r
  change part = some b at beacon
  subst beacon
  unfold State.takeBeacon
  dsimp only
  rw [if_pos check, h]
  rfl

/-- A valid beacon is one event of its port. -/
theorem State.takeFrame_event {r : NegRecord} {b : BeaconPart} {x : Ctl}
    (st : ((s.port p).lane i).st = .beacon) (rx : ((s.port p).lane i).rx = .collect)
    (check : checkOk 16 (((s.port p).lane i).correct bytes) = true)
    (h : beaconOf (((s.port p).lane i).correct bytes) = some r) (beacon : r.beacon = some b)
    (hx : s.ctl p (Ctl.takesBeacon i b.sender r) = x) (enters : x.port.st = .active → (s.port p).st = .active) :
    s.takeFrame p i bytes = s.runPort p (Ctl.takesBeacon i b.sender r) := by
  have same : ((s.port p).hunts i).st = (s.port p).st := rfl
  have ctl : (s.setPort p ((s.port p).hunts i)).ctl p (Ctl.hearBeacon i b.sender r) = x := by
    rw [← hx]
    unfold State.ctl
    rw [State.port_setPort]
    rfl
  refine (if_pos ⟨st, rx⟩).trans ?_
  rw [State.takeBeacon_hears check h beacon,
    State.runPort_settles _ p _ (by rw [ctl, State.port_setPort, same]; exact enters),
    State.runPort_settles s p _ (by rw [hx]; exact enters), ctl, hx, State.settle_setPort s p _ x same]

end

/-! ## The lane record (R46 to R49) -/

/-- The port with the record of a valid beacon on a lane, its receiver in HUNT. -/
def Port.hearing (i : LaneNo) (id : Ident) (r : NegRecord) (c : Port) : Port :=
  c.setLane i ({ c.lane i with rx := .hunt }.hear id r)

theorem Ctl.takesBeacon_start (i : LaneNo) (id : Ident) (r : NegRecord) (env : Env) (c : Port) :
    (Ctl.start c).takesBeacon i id r env = if (c.hearing i id r).isPresent i then
      (Ctl.start (c.hearing i id r)).arrival env ((c.lane i).markOf id) r else Ctl.start (c.hearing i id r) := by
  have record : (c.hunts i).modLane i (fun l => l.hear id r) = c.hearing i id r := by
    simp [Port.hunts, Port.modLane, Port.hearing]
  have lane : (c.hunts i).lane i = { c.lane i with rx := .hunt } := by simp [Port.hunts, Port.modLane]
  have mark : ((c.hunts i).lane i).markOf id = (c.lane i).markOf id := by rw [lane]; rfl
  rw [← record, ← mark]
  rfl

theorem Lane.markOf_identified (l : Lane) (id : Ident) :
    l.markOf id = .identified ↔ l.nextRep id = 2 ∧ l.far = none := by
  unfold Lane.markOf
  split_ifs <;> simp [*]

theorem Lane.markOf_noMark (l : Lane) (id : Ident) :
    l.markOf id = .noMark ↔ l.nextRep id ≠ 2 ∨ l.far = some id := by
  unfold Lane.markOf
  split_ifs <;> simp [*]

theorem Lane.nextRep_eq_two (l : Lane) (id : Ident) : l.nextRep id = 2 ↔ l.cand = some id ∧ 1 ≤ l.rep := by
  unfold Lane.nextRep
  split_ifs with h
  · simp only [h, true_and]
    omega
  · simp [h]

/-! ## The arrival by port state (R18, R20, R25, R85 to R87) -/

section
variable {env : Env} {mark : ArrivalMark} {r : NegRecord} {c : Ctl}

/-- A record that holds the port in SIGNAL (R18). -/
def NegRecord.HoldsSignal (r : NegRecord) : Prop := r.phase = .reject ∨ HoldsFarEnd r

theorem NegRecord.holdsSignal_iff (r : NegRecord) : (r.holdsUs = true ∨ r.phase = .reject) ↔ r.HoldsSignal := by
  unfold NegRecord.HoldsSignal
  rw [r.holdsUs_iff, or_comm]

theorem Port.inWait_iff (c : Port) : c.inWait = true ↔ c.st = .signal ∧ c.verdict = .epochWait := by
  simp [Port.inWait]

theorem Ctl.arrival_elsewhere
    (st : c.port.st ≠ .signal ∧ c.port.st ≠ .dark ∧ c.port.st ≠ .agree ∧ c.port.st ≠ .held) :
    c.arrival env mark r = c := by
  obtain ⟨signal, dark, agree, held⟩ := st
  unfold Ctl.arrival
  cases e : c.port.st with
  | signal => exact absurd e signal
  | dark => exact absurd e dark
  | agree => exact absurd e agree
  | held => exact absurd e held
  | off | empty | identify | train | qualify | confirm | active => rfl

theorem Ctl.arrival_dark (st : c.port.st = .dark) : c.arrival env mark r = c.darkHears env mark := by
  unfold Ctl.arrival
  rw [st]

theorem Ctl.arrival_held (st : c.port.st = .held) : c.arrival env mark r = c.heldHears env mark r := by
  unfold Ctl.arrival
  rw [st]

theorem Ctl.arrival_wait (st : c.port.st = .signal) (verdict : c.port.verdict = .epochWait) :
    c.arrival env mark r = c.waitHears env mark r := by
  unfold Ctl.arrival
  rw [st]
  exact if_pos ((Port.inWait_iff _).2 ⟨st, verdict⟩)

theorem Ctl.arrival_signal (st : c.port.st = .signal) (verdict : c.port.verdict ≠ .epochWait) :
    c.arrival env mark r = c.signalHears env r := by
  unfold Ctl.arrival
  rw [st]
  exact if_neg fun h => verdict ((Port.inWait_iff _).1 h).2

/-- SIGNAL, in or outside the wait: a record that holds. -/
theorem Ctl.arrival_holds (st : c.port.st = .signal) (holds : r.HoldsSignal) :
    c.arrival env mark r = c.enterHeld env.self .farHeld := by
  by_cases verdict : c.port.verdict = .epochWait
  · rw [Ctl.arrival_wait st verdict]
    exact if_pos (r.holdsSignal_iff.2 holds)
  · rw [Ctl.arrival_signal st verdict]
    exact if_pos (r.holdsSignal_iff.2 holds)

/-- SIGNAL outside the wait: the test of R18. -/
theorem Ctl.arrival_unseen (st : c.port.st = .signal) (verdict : c.port.verdict ≠ .epochWait) (holds : ¬ r.HoldsSignal)
    (seen : ¬ FarEndSeesUs env c.port) : c.arrival env mark r = c := by
  rw [Ctl.arrival_signal st verdict]
  exact (if_neg fun h => holds (r.holdsSignal_iff.1 h)).trans (if_neg fun h => seen ((c.port.signalTest_iff env).1 h))

theorem Ctl.arrival_seen (st : c.port.st = .signal) (verdict : c.port.verdict ≠ .epochWait) (holds : ¬ r.HoldsSignal)
    (seen : FarEndSeesUs env c.port) : c.arrival env mark r = c.verify env c.port.presentSet := by
  rw [Ctl.arrival_signal st verdict]
  exact (if_neg fun h => holds (r.holdsSignal_iff.1 h)).trans (if_pos ((c.port.signalTest_iff env).2 seen))

/-- The EPOCH_WAIT wait: a beacon with a mark runs verification (R86). -/
theorem Ctl.arrival_waitUnmarked (st : c.port.st = .signal) (verdict : c.port.verdict = .epochWait)
    (holds : ¬ r.HoldsSignal) (unmarked : mark = .noMark) : c.arrival env mark r = c := by
  rw [Ctl.arrival_wait st verdict]
  exact (if_neg fun h => holds (r.holdsSignal_iff.1 h)).trans (if_pos unmarked)

theorem Ctl.arrival_waitMarked (st : c.port.st = .signal) (verdict : c.port.verdict = .epochWait)
    (holds : ¬ r.HoldsSignal) (marked : mark ≠ .noMark) : c.arrival env mark r = c.verify env c.port.identifiedSet := by
  rw [Ctl.arrival_wait st verdict]
  exact (if_neg fun h => holds (r.holdsSignal_iff.1 h)).trans (if_neg marked)

theorem Ctl.arrival_darkUnmarked (st : c.port.st = .dark) (unmarked : mark ≠ .identified) :
    c.arrival env mark r = c := (Ctl.arrival_dark st).trans (if_neg unmarked)

/-- A lane identified in DARK: SIGNAL with a fresh window, and the test of R18 there (R20). -/
theorem Ctl.arrival_darkUnseen (st : c.port.st = .dark) (marked : mark = .identified)
    (seen : ¬ FarEndSeesUs env (c.returnToSignal env).port) : c.arrival env mark r = c.returnToSignal env :=
  (Ctl.arrival_dark st).trans ((if_pos marked).trans (if_neg fun h => seen ((Port.signalTest_iff env _).1 h)))

theorem Ctl.arrival_darkSeen (st : c.port.st = .dark) (marked : mark = .identified)
    (seen : FarEndSeesUs env (c.returnToSignal env).port) :
    c.arrival env mark r = (c.returnToSignal env).verify env (c.returnToSignal env).port.presentSet :=
  (Ctl.arrival_dark st).trans ((if_pos marked).trans (if_pos ((Port.signalTest_iff env _).2 seen)))

/-- HELD for a cabling reason (R87). -/
theorem Ctl.arrival_cablingUnmarked (st : c.port.st = .held) (cabling : c.port.holdReason.cabling = true)
    (unmarked : mark = .noMark) : c.arrival env mark r = c :=
  (Ctl.arrival_held st).trans ((if_pos cabling).trans (if_pos unmarked))

theorem Ctl.arrival_cablingMarked (st : c.port.st = .held) (cabling : c.port.holdReason.cabling = true)
    (marked : mark ≠ .noMark) : c.arrival env mark r = c.verify env c.port.identifiedSet :=
  (Ctl.arrival_held st).trans ((if_pos cabling).trans (if_neg marked))

/-- HELD for another reason (R25). -/
theorem Ctl.arrival_lifts (st : c.port.st = .held)
    (reason : c.port.holdReason = .farHeld ∨ c.port.holdReason = .farRejected) (phase : r.phase = .hello)
    (attempt : r.attempt = 0) : c.arrival env mark r = c.enterSignal env := by
  have cabling : c.port.holdReason.cabling ≠ true := by
    rcases reason with h | h <;> rw [h] <;> decide
  exact (Ctl.arrival_held st).trans ((if_neg cabling).trans (if_pos ⟨reason, phase, attempt⟩))

theorem Ctl.arrival_stays (st : c.port.st = .held) (cabling : c.port.holdReason.cabling = false)
    (lifts : ¬ ((c.port.holdReason = .farHeld ∨ c.port.holdReason = .farRejected) ∧ r.phase = .hello ∧ r.attempt = 0)) :
    c.arrival env mark r = c :=
  (Ctl.arrival_held st).trans ((if_neg (Bool.eq_false_iff.1 cabling)).trans (if_neg lifts))

end

end Sys2Proof.Machine


/-!
# What a beacon makes of its port (R18, R20, R25, R45 to R49, R54, R85, R86)
-/

namespace Sys2Proof.Machine

section
variable {s : State} {p : PortNo} {i : LaneNo} {bytes : List Byte} {r : NegRecord} {b : BeaconPart}

/-- A valid beacon has arrived on a lane: its frame passes the check and carries this record. -/
structure ValidBeacon (s : State) (p : PortNo) (i : LaneNo) (bytes : List Byte) (r : NegRecord) (b : BeaconPart) :
    Prop where
  st : ((s.port p).lane i).st = .beacon
  rx : ((s.port p).lane i).rx = .collect
  check : checkOk 16 (((s.port p).lane i).correct bytes) = true
  record : beaconOf (((s.port p).lane i).correct bytes) = some r
  beacon : r.beacon = some b

/-- The port at work on the arrival, on a present lane. -/
theorem State.takesBeacon_present (present : ((s.port p).hearing i b.sender r).isPresent i = true) :
    s.ctl p (Ctl.takesBeacon i b.sender r) =
      (Ctl.start ((s.port p).hearing i b.sender r)).arrival (s.env p) (((s.port p).lane i).markOf b.sender) r :=
  (Ctl.takesBeacon_start i b.sender r (s.env p) (s.port p)).trans (if_pos present)

theorem State.takesBeacon_absent (absent : ((s.port p).hearing i b.sender r).isPresent i = false) :
    s.ctl p (Ctl.takesBeacon i b.sender r) = Ctl.start ((s.port p).hearing i b.sender r) :=
  (Ctl.takesBeacon_start i b.sender r (s.env p) (s.port p)).trans (if_neg (Bool.eq_false_iff.1 absent))

theorem ValidBeacon.event (h : ValidBeacon s p i bytes r b) {x : Ctl} (hx : s.ctl p (Ctl.takesBeacon i b.sender r) = x)
    (enters : x.port.st = .active → (s.port p).st = .active) : State.takeFrame { s with out := [] } p i bytes =
      State.runPort { s with out := [] } p (Ctl.takesBeacon i b.sender r) :=
  State.takeFrame_event (s := { s with out := [] }) h.st h.rx h.check h.record h.beacon hx enters

/-- What makes a beacon do no more than its record (R18, R20, R25, R49, R85, R86). -/
def DoesNoMore (env : Env) (mark : ArrivalMark) (r : NegRecord) (i : LaneNo) (d : Port) : Prop :=
  d.isPresent i = false ∨ (d.st ≠ .signal ∧ d.st ≠ .dark ∧ d.st ≠ .agree ∧ d.st ≠ .held) ∨
  (d.st = .held ∧ d.holdReason.cabling = false ∧
    ¬ ((d.holdReason = .farHeld ∨ d.holdReason = .farRejected) ∧ r.phase = .hello ∧ r.attempt = 0)) ∨
  (d.st = .held ∧ d.holdReason.cabling = true ∧ mark = .noMark) ∨ (d.st = .dark ∧ mark ≠ .identified) ∨
  (d.st = .signal ∧ ¬ r.HoldsSignal ∧ if d.verdict = .epochWait then mark = .noMark else ¬ FarEndSeesUs env d)

theorem State.takesBeacon_idle (h : DoesNoMore (s.env p) (((s.port p).lane i).markOf b.sender) r i
      ((s.port p).hearing i b.sender r)) :
    s.ctl p (Ctl.takesBeacon i b.sender r) = Ctl.start ((s.port p).hearing i b.sender r) := by
  by_cases present : ((s.port p).hearing i b.sender r).isPresent i = true
  · rw [State.takesBeacon_present present]
    generalize (s.port p).hearing i b.sender r = d at h present ⊢
    rcases h with absent | st | ⟨st, cabling, lifts⟩ | ⟨st, cabling, unmarked⟩ | ⟨st, unmarked⟩ | ⟨st, holds, test⟩
    · exact absurd present (Bool.eq_false_iff.1 absent)
    · exact Ctl.arrival_elsewhere (c := Ctl.start d) st
    · exact Ctl.arrival_stays (c := Ctl.start d) st cabling lifts
    · exact Ctl.arrival_cablingUnmarked (c := Ctl.start d) st cabling unmarked
    · exact Ctl.arrival_darkUnmarked (c := Ctl.start d) st unmarked
    · split_ifs at test with verdict
      · exact Ctl.arrival_waitUnmarked (c := Ctl.start d) st verdict holds test
      · exact Ctl.arrival_unseen (c := Ctl.start d) st verdict holds test
  · exact State.takesBeacon_absent (Bool.eq_false_iff.2 present)

end

/-- The return from DARK changes nothing that the test of R18 looks at. -/
theorem FarEndSeesUs.returned (env env' : Env) (c : Port) :
    FarEndSeesUs env ((Ctl.start c).returnToSignal env').port ↔ FarEndSeesUs env c := Iff.rfl

theorem Ctl.returnToSignal_kinds (env : Env) (c : Port) (st : c.st ≠ .active) :
    ((Ctl.start c).returnToSignal env).kinds = 0 := by
  simp [Ctl.returnToSignal, Ctl.goTo_kinds, PortState.milestone, st]

/-- Settles O17: a beacon by its content, its lane and its port's state. -/
theorem validBeaconsMakeTheLaneRecord : Obligations.ValidBeaconsMakeTheLaneRecord := by
  intro p i bytes s hs
  rw [exec_beaconFrame]
  intro c l frame st rx check
  have content : l.correct bytes.toList = frame := l.correct_eq bytes.toList
  refine ⟨fun invalid => ?_, fun r b record part => ?_, fun r b record part held present reason phase attempt => ?_⟩
  · have effect := State.takeFrame_dropped (s := { s with out := [] }) st rx (by rw [← content] at check; exact check)
      (by rw [← content] at invalid; exact invalid)
    have answer := act_setPort s _ p (c.hunts i) [] hs (effect.trans (State.emit_nil _).symm)
    have port : State.port { s.setPort p (c.hunts i) with out := [] } p = c.hunts i := State.port_setPort s p (c.hunts i)
    exact ⟨_, answer, port, by rw [OnlyPort, port], rfl⟩
  · have valid : ValidBeacon s p i bytes.toList r b :=
      ⟨st, rx, by rw [← content] at check; exact check, by rw [← content] at record; exact record, part⟩
    intro n d noMark lifts holds
    refine ⟨fun idle => ?_, fun signal present held => ?_, fun dark present twice first unseen => ?_⟩
    · have more : DoesNoMore (s.env p) (l.markOf b.sender) r i d := by
        rcases idle with h | h | h | ⟨held, cabling, mark⟩ | ⟨dark, mark⟩ | ⟨signal, nothing, test⟩
        · exact .inl h
        · exact .inr (.inl h)
        · exact .inr (.inr (.inl h))
        · exact .inr (.inr (.inr (.inl ⟨held, cabling, (l.markOf_noMark b.sender).2 mark⟩)))
        · refine .inr (.inr (.inr (.inr (.inl ⟨dark, fun h => ?_⟩))))
          obtain ⟨twice, first⟩ := (l.markOf_identified b.sender).1 h
          exact mark.elim (fun h => h twice) fun h => h first
        · refine .inr (.inr (.inr (.inr (.inr ⟨signal, nothing, ?_⟩))))
          have verdict : d.verdict = c.verdict := rfl
          rw [verdict]
          split_ifs at test ⊢ with wait
          · exact (l.markOf_noMark b.sender).2 test
          · exact test
      have ctl := State.takesBeacon_idle (s := s) (p := p) (i := i) (b := b) more
      exact act_runPort_alone _ _ hs (valid.event ctl fun h => h) ctl rfl rfl (.inl rfl)
    · have ctl := (State.takesBeacon_present (s := s) (p := p) (i := i) (r := r) (b := b) present).trans
        (Ctl.arrival_holds (c := Ctl.start d) signal held)
      have entered := Ctl.enterHeld_is (Ctl.start d) (s.env p).self .farHeld
      exact act_runPort_holds _ d _ hs (valid.event ctl fun h => PortState.noConfusion (entered.1.symm.trans h)) ctl
    · have marked : l.markOf b.sender = .identified := (l.markOf_identified b.sender).2 ⟨twice, first⟩
      have ctl := (State.takesBeacon_present (s := s) (p := p) (i := i) (r := r) (b := b) present).trans
        (Ctl.arrival_darkUnseen (c := Ctl.start d) dark marked
          fun h => unseen ((FarEndSeesUs.returned (s.env p) (s.env p) d).1 h))
      have kinds := Ctl.returnToSignal_kinds (s.env p) d (show d.st ≠ .active from fun h =>
        PortState.noConfusion (dark.symm.trans h))
      exact act_runPort_alone _ _ hs (valid.event ctl fun h => PortState.noConfusion h) ctl kinds rfl (.inr rfl)
  · have valid : ValidBeacon s p i bytes.toList r b :=
      ⟨st, rx, by rw [← content] at check; exact check, by rw [← content] at record; exact record, part⟩
    have ctl := (State.takesBeacon_present (s := s) (p := p) (i := i) (r := r) (b := b) present).trans
      (Ctl.arrival_lifts (c := Ctl.start (c.hearing i b.sender r)) held reason phase attempt)
    have entered := Ctl.enterSignal_is (Ctl.start (c.hearing i b.sender r)) (s.env p)
    have kinds : ((Ctl.start (c.hearing i b.sender r)).enterSignal (s.env p)).kinds = 0 := by
      rw [Ctl.enterSignal_kinds, Ctl.leavingMark_of_ne (show c.st ≠ .active from fun h =>
        PortState.noConfusion (held.symm.trans h))]
      exact BitVec.or_zero
    have inactive : ((Ctl.start (c.hearing i b.sender r)).enterSignal (s.env p)).port.st = .active →
        (s.port p).st = .active := fun h => PortState.noConfusion (entered.1.symm.trans h)
    refine act_runPort _ _ hs (valid.event ctl inactive) ctl inactive fun t answer => ?_
    obtain ⟨port, frame, silent, -⟩ := answer
    exact ⟨by rw [port]; exact entered, silent kinds, frame⟩

end Sys2Proof.Machine


/-!
# Beacons that run verification (R18, R20, R25, R71, R72, R85 to R87)
-/

namespace Sys2Proof.Machine

/-! ## A run at a port in HELD (R25, R87) -/

/-- The attempts start over. -/
def Port.anew (budget : Nat) (c : Port) : Port := { c with attempt := 0, left := budget }

/-- The port that a run in HELD has recorded. -/
theorem Ctl.recorded_start (env : Env) (vs : LaneSet) (far : CableEnd) (c : Port) :
    ((Ctl.start c).recorded env vs far).port = c.record env vs far (c.verdictOf env vs far) ∧
    ((Ctl.start c).recorded env vs far).kinds = 4 :=
  ⟨rfl, (by decide : 0 ||| kindVerdict = 4)⟩

/-- A follower that enters AGREE keeps its attempts left. -/
theorem Ctl.enterAgree_followLeft {env : Env} {c : Ctl} (role : c.port.role = .follow) :
    (c.enterAgree env).port.left = c.port.left := by
  obtain ⟨-, left, -⟩ := c.enterAgreeFollow_keeps env
  rw [Ctl.enterAgree_follow role, left]

/-- A port that has entered AGREE otherwise, and is not held, has taken one of its attempts. -/
theorem Agrees.spends {cfg : ConfigCopy} {c d : Port} (h : Agrees cfg c d) (role : c.role = .lead ∨ c.role = .self)
    (st : d.st ≠ .held) : d.attempt = nextAttempt c.attempt ∧ d.left = c.left - 1 := by
  obtain ⟨lead, self, -⟩ := h
  rcases role with role | role
  · exact (lead role).spends st
  · exact (self role).spends st

section
variable {s : State} {p : PortNo} {f : Env → Ctl → Ctl} {c : Port} {vs : LaneSet} {far : CableEnd}

/-- The verdict passes: the port goes on to agreement, its attempts at the budget. -/
theorem State.runPort_heldPasses (hc : s.ctl p f = (Ctl.start c).verify (s.env p) vs) (st : c.st = .held)
    (hf : c.farIdentity vs = some far) (passes : (c.verdictOf (s.env p) vs far).passes = true) :
    (s.ctl p f).port.st ≠ .active ∧ VerifiedInHeld p c vs far s (s.runPort p f) := by
  obtain ⟨port, kinds⟩ := Ctl.recorded_start (s.env p) vs far c
  have ctl : s.ctl p f = (((Ctl.start c).recorded (s.env p) vs far).mod (Port.anew s.we.cfg.attemptBudget)).enterAgree
      (s.env p) := by
    rw [hc, Ctl.verify_some (s.env p) (Ctl.start c) hf]
    exact Ctl.proceed_agreesAnew passes st
  have recorded : RunRecorded (s.env p) c vs far ((Ctl.start c).recorded (s.env p) vs far).port := by
    rw [port]; exact ⟨rfl, rfl, rfl, rfl, rfl⟩
  have held : ((Ctl.start c).recorded (s.env p) vs far).port.st = .held := st
  generalize (Ctl.start c).recorded (s.env p) vs far = z at port kinds ctl recorded held
  have context : (z.mod (Port.anew s.we.cfg.attemptBudget)).port =
      ((c.verified (s.env p) vs far).anew s.we.cfg.attemptBudget).aside { c with phaseTimer := none } := by
    rw [Ctl.mod_port, port]
    exact congrArg (Port.anew s.we.cfg.attemptBudget) (Port.record_passes (s.env p) c c passes)
  have inactive : (z.mod (Port.anew s.we.cfg.attemptBudget)).port.st ≠ .active := by
    show z.port.st ≠ .active
    rw [held]; decide
  have role : (z.mod (Port.anew s.we.cfg.attemptBudget)).port.role ≠ .noRole := by
    obtain ⟨-, -, -, -, role⟩ := recorded
    show z.port.role ≠ .noRole
    rw [role]
    exact electRole_ne_noRole (s.env p) far passes
  have agrees := Ctl.enterAgree_is (env := s.env p) (c := z.mod (Port.anew s.we.cfg.attemptBudget))
  have follows := Ctl.enterAgree_followLeft (env := s.env p) (c := z.mod (Port.anew s.we.cfg.attemptBudget))
  obtain ⟨-, kept, shows⟩ := Ctl.enterAgree_marks (env := s.env p) inactive role
  generalize (z.mod (Port.anew s.we.cfg.attemptBudget)).enterAgree (s.env p) = y at ctl agrees follows kept shows
  have run : RunRecorded (s.env p) c vs far y.port := recorded.kept kept
  rw [context] at agrees
  have agrees := agrees.of_aside
  have left : y.port.role = .follow → y.port.left = s.we.cfg.attemptBudget := fun h => by
    obtain ⟨-, -, -, -, same⟩ := kept
    exact follows (same.symm.trans h)
  have spends := agrees.spends
  have leaves : y.port.st ≠ .active := fun h => by
    rcases shows with ⟨st, -⟩ | ⟨st | st, -⟩ <;> exact PortState.noConfusion (st.symm.trans h)
  obtain ⟨answer, frame, -, reported⟩ := State.runPort_answer s p f y ctl fun h => absurd h leaves
  have notWaiting : c.verdictOf (s.env p) vs far ≠ .epochWait := fun h => by rw [h] at passes; cases passes
  unfold VerifiedInHeld
  rw [ctl, answer]
  refine ⟨leaves, frame, run, fun _ => ?_, fun _ => agrees, fun _ => left, fun _ other unheld => ?_, fun h => absurd h notWaiting,
    fun h => absurd passes (Bool.eq_false_iff.1 h)⟩
  · rw [Ctl.mod_kinds, kinds] at shows
    rcases shows with ⟨st', k⟩ | ⟨st', k⟩ <;> rw [k] at reported
    · exact .inr ⟨st', reported (by decide)⟩
    · exact .inl ⟨st', reported (by decide)⟩
  · obtain ⟨-, -, -, -, elected⟩ := run
    have chosen : electRole (s.env p) (c.verdictOf (s.env p) vs far) far = .lead ∨
        electRole (s.env p) (c.verdictOf (s.env p) vs far) far = .self := by
      have some := electRole_ne_noRole (s.env p) far passes
      rw [← elected] at some ⊢
      cases e : y.port.role <;> simp [e] at some other ⊢
    exact spends chosen unheld

/-- The verdict is EPOCH_WAIT: the port enters the wait. -/
theorem State.runPort_heldWaits (hc : s.ctl p f = (Ctl.start c).verify (s.env p) vs) (st : c.st = .held)
    (hf : c.farIdentity vs = some far) (wait : c.verdictOf (s.env p) vs far = .epochWait) :
    (s.ctl p f).port.st ≠ .active ∧ VerifiedInHeld p c vs far s (s.runPort p f) := by
  obtain ⟨port, kinds⟩ := Ctl.recorded_start (s.env p) vs far c
  have ctl : s.ctl p f = (((Ctl.start c).recorded (s.env p) vs far).enterWait (s.env p)).mark kindEpoch := by
    rw [hc, Ctl.verify_some (s.env p) (Ctl.start c) hf, show (Ctl.start c).port.verdictOf (s.env p) vs far = _ from wait]
    exact Ctl.proceed_entersWait st
  have held : ((Ctl.start c).recorded (s.env p) vs far).port.st = .held := st
  generalize (Ctl.start c).recorded (s.env p) vs far = z at port kinds ctl held
  have marks : ((z.enterWait (s.env p)).mark kindEpoch).kinds = 20 := by
    simp [Ctl.enterWait, Ctl.goTo_kinds, PortState.milestone, kindEpoch, held, kinds]
  have recorded : RunRecorded (s.env p) c vs far z.port := by rw [port]; exact ⟨rfl, rfl, rfl, rfl, rfl⟩
  have kept : KeepsRun z.port ((z.enterWait (s.env p)).mark kindEpoch).port := ⟨rfl, rfl, rfl, rfl, rfl⟩
  obtain ⟨answer, frame, -, reported⟩ := State.runPort_answer s p f _ ctl fun h => PortState.noConfusion h
  rw [marks] at reported
  unfold VerifiedInHeld
  rw [ctl, answer, wait]
  exact ⟨fun h => PortState.noConfusion h, frame, recorded.kept kept, fun h => Bool.noConfusion h, fun h => Bool.noConfusion h, fun h => Bool.noConfusion h,
    fun h => Bool.noConfusion h, fun _ => ⟨rfl, rfl, rfl, rfl, reported (by decide)⟩, fun _ h => absurd rfl h⟩

/-- The verdict fails: the port stays in HELD with the new reason. -/
theorem State.runPort_heldStays (hc : s.ctl p f = (Ctl.start c).verify (s.env p) vs) (st : c.st = .held)
    (hf : c.farIdentity vs = some far) (fails : (c.verdictOf (s.env p) vs far).passes = false)
    (wait : c.verdictOf (s.env p) vs far ≠ .epochWait) :
    (s.ctl p f).port.st ≠ .active ∧ VerifiedInHeld p c vs far s (s.runPort p f) := by
  obtain ⟨port, kinds⟩ := Ctl.recorded_start (s.env p) vs far c
  have ctl : s.ctl p f = ((Ctl.start c).recorded (s.env p) vs far).mod fun q =>
      { q with holdReason := (c.verdictOf (s.env p) vs far).reason,
               phaseReason := (c.verdictOf (s.env p) vs far).reason } := by
    rw [hc, Ctl.verify_some (s.env p) (Ctl.start c) hf]
    exact Ctl.proceed_staysHeld fails wait st
  have held : ((Ctl.start c).recorded (s.env p) vs far).port.st = .held := st
  generalize (Ctl.start c).recorded (s.env p) vs far = z at port kinds ctl held
  have recorded : RunRecorded (s.env p) c vs far z.port := by rw [port]; exact ⟨rfl, rfl, rfl, rfl, rfl⟩
  obtain ⟨answer, frame, -, reported⟩ := State.runPort_answer s p f _ ctl fun h => PortState.noConfusion (held.symm.trans h)
  rw [Ctl.mod_kinds, kinds] at reported
  unfold VerifiedInHeld
  rw [ctl, answer]
  exact ⟨fun h => PortState.noConfusion (held.symm.trans h), frame, recorded, fun h => absurd h (Bool.eq_false_iff.1 fails), fun h => absurd h (Bool.eq_false_iff.1 fails),
    fun h => absurd h (Bool.eq_false_iff.1 fails), fun h => absurd h (Bool.eq_false_iff.1 fails),
    fun h => absurd h wait, fun _ _ => ⟨held, rfl, rfl, reported (by decide)⟩⟩

/-- A run of verification at a port in HELD. -/
theorem State.runPort_verifiesHeld (hc : s.ctl p f = (Ctl.start c).verify (s.env p) vs) (st : c.st = .held)
    (hf : c.farIdentity vs = some far) :
    (s.ctl p f).port.st ≠ .active ∧ VerifiedInHeld p c vs far s (s.runPort p f) := by
  by_cases passes : (c.verdictOf (s.env p) vs far).passes = true
  · exact State.runPort_heldPasses hc st hf passes
  · by_cases wait : c.verdictOf (s.env p) vs far = .epochWait
    · exact State.runPort_heldWaits hc st hf wait
    · exact State.runPort_heldStays hc st hf (Bool.eq_false_iff.2 passes) wait

end

/-! ## The beacons that run it -/

/-- A beacon that identifies its lane, or changes its far identity, carries a mark (R49). -/
theorem Lane.markOf_marked {l : Lane} {id : Ident}
    (h : (l.cand = some id ∧ 1 ≤ l.rep ∧ l.far = none) ∨
      (l.cand = some id ∧ 1 ≤ l.rep ∧ l.far ≠ none ∧ l.far ≠ some id)) : l.markOf id ≠ .noMark := by
  rw [Ne, Lane.markOf_noMark, Ne, Lane.nextRep_eq_two]
  rcases h with ⟨cand, rep, far⟩ | ⟨cand, rep, -, far⟩
  · rintro (h | h)
    · exact h ⟨cand, rep⟩
    · rw [far] at h; cases h
  · rintro (h | h)
    · exact h ⟨cand, rep⟩
    · exact far h

section
variable {s : State} {p : PortNo} {i : LaneNo} {bytes : List Byte} {r : NegRecord} {b : BeaconPart} {vs : LaneSet}
  {far : CableEnd}

/-- A beacon that runs verification in SIGNAL. -/
theorem ValidBeacon.verifies (valid : ValidBeacon s p i bytes r b) (hs : s.hold = .released) {c : Port} {x : Ctl}
    (ctl : s.ctl p (Ctl.takesBeacon i b.sender r) = x.verify (s.env p) vs) (context : x.port = c.aside x.port)
    (st : x.port.st = .signal) (kinds : x.kinds = 0) (hf : c.farIdentity vs = some far) :
    ∃ t, act s (fun s => s.takeFrame p i bytes) = .next t ∧ VerificationRan x.port.inWait p c vs far s t := by
  obtain ⟨-, -, inactive, -⟩ := Ctl.verify_signal (s.env p) context st kinds hf
  exact act_effect hs (valid.event ctl fun h => absurd h inactive) (fun _ _ h => h)
    (State.runPort_verifies { s with out := [] } p _ ctl context st kinds hf)

end

/-- Settles O18: the beacons that run verification, by the port's state. -/
theorem fullIdentificationRunsVerification : Obligations.FullIdentificationRunsVerification := by
  intro p i bytes s r b far hs
  rw [exec_beaconFrame]
  intro l frame c identified changed st rx check record part present holds
  have content : l.correct bytes.toList = frame := l.correct_eq bytes.toList
  have valid : ValidBeacon s p i bytes.toList r b :=
    ⟨st, rx, by rw [← content] at check; exact check, by rw [← content] at record; exact record, part⟩
  have arrives := State.takesBeacon_present (s := s) (p := p) (i := i) (r := r) (b := b) present
  refine ⟨fun signal wait nothing seen identity => ?_, fun dark wait first seen identity => ?_,
    fun signal wait nothing marked identity => ?_, fun held cabling marked identity => ?_⟩
  · have ran := valid.verifies hs (arrives.trans (Ctl.arrival_seen (c := Ctl.start c) signal wait nothing seen))
      (c := c) rfl signal rfl identity
    have outside : c.inWait = false := Bool.eq_false_iff.2 fun h => wait ((c.inWait_iff).1 h).2
    rw [Ctl.start_port, outside] at ran
    exact ran
  · obtain ⟨cand, rep, unknown⟩ := first
    have mark := (l.markOf_identified b.sender).2 ⟨(l.nextRep_eq_two b.sender).2 ⟨cand, rep⟩, unknown⟩
    have ctl := arrives.trans (Ctl.arrival_darkSeen (c := Ctl.start c) dark mark
      ((FarEndSeesUs.returned (s.env p) (s.env p) c).2 seen))
    have kinds := Ctl.returnToSignal_kinds (s.env p) c fun h => PortState.noConfusion (dark.symm.trans h)
    have ran := valid.verifies hs ctl (c := c) rfl rfl kinds identity
    have outside : ((Ctl.start c).returnToSignal (s.env p)).port.inWait = false :=
      Bool.eq_false_iff.2 fun h => wait ((Port.inWait_iff _).1 h).2
    rw [outside] at ran
    exact ran
  · have ran := valid.verifies hs (arrives.trans (Ctl.arrival_waitMarked (c := Ctl.start c) signal wait nothing
      (Lane.markOf_marked marked))) (c := c) rfl signal rfl identity
    have inside : c.inWait = true := (c.inWait_iff).2 ⟨signal, wait⟩
    rw [Ctl.start_port, inside] at ran
    exact ran
  · have ctl := arrives.trans (Ctl.arrival_cablingMarked (c := Ctl.start c) held cabling (Lane.markOf_marked marked))
    obtain ⟨leaves, ran⟩ := State.runPort_verifiesHeld (s := { s with out := [] }) (p := p) (c := c) ctl held identity
    exact act_effect hs (valid.event rfl fun h => absurd h leaves) (fun _ _ h => h) ran

end Sys2Proof.Machine


/-!
# Send instants (R38 to R40, R50)
-/

namespace Sys2Proof.Machine

theorem exec_sendInstant (p : PortNo) (s : State) : exec (.sendInstant p) s =
    act s fun s => if due (s.port p).sendClock then s.runPort p Ctl.send else s := rfl

/-- What one lane of a port sends at a send instant (R38). -/
def Port.frameOf (env : Env) (c : Port) (i : LaneNo) : List Out :=
  if (c.lane i).st = .beacon then [.beacon env.self i (c.beaconBytes env i)]
  else if (c.lane i).st = .locked then [.word env.self i (c.wordBytes i)]
  else []

theorem Port.frames_eq (env : Env) (c : Port) : c.frames env = allLanes.flatMap (c.frameOf env) := by
  unfold Port.frames Port.frameOf
  congr 1
  funext i
  cases (c.lane i).st <;> rfl

/-- A port sends nothing exactly when no lane is in BEACON or LOCKED. -/
theorem Port.frames_eq_nil (env : Env) (c : Port) :
    c.frames env = [] ↔ ¬ ∃ i, (c.lane i).st = .beacon ∨ (c.lane i).st = .locked := by
  rw [Port.frames_eq, List.flatMap_eq_nil_iff, not_exists]
  refine ⟨fun h i sends => ?_, fun h i _ => ?_⟩
  · have silent := h i (mem_allLanes i)
    unfold Port.frameOf at silent
    split_ifs at silent with beacon locked
    exact sends.elim beacon locked
  · obtain ⟨beacon, locked⟩ := not_or.1 (h i)
    exact (if_neg beacon).trans (if_neg locked)

/-- The port after a send instant: its clock starts again, and a burst counts down when a lane has sent. -/
theorem Ctl.send_start (env : Env) (c : Port) : (Ctl.start c).send env =
    ⟨{ c with
        sendClock := some env.cfg.beaconInterval
        burst := if ∃ i, (c.lane i).st = .beacon ∨ (c.lane i).st = .locked then c.burst.map (· - 1) else c.burst },
      0, c.frames env, none⟩ := by
  unfold Ctl.send
  by_cases sends : ∃ i, (c.lane i).st = .beacon ∨ (c.lane i).st = .locked
  · have some : c.frames env ≠ [] := fun none => (c.frames_eq_nil env).1 none sends
    simp [Ctl.start, sends, some]
  · have none : c.frames env = [] := (c.frames_eq_nil env).2 sends
    simp [Ctl.start, sends, none]

/-- Settles O23: a send instant whose clock is due is one event of its port, which hands nothing over. -/
theorem sendInstantsSendFrames : Obligations.SendInstantsSendFrames := by
  intro p s hs
  rw [exec_sendInstant]
  refine ⟨fun running => act_idle hs (if_neg (mt (due_iff _).1 running)), fun clock => ?_⟩
  obtain ⟨t, answer, port, only, lines⟩ := act_runPort_alone Ctl.send _ hs (if_pos ((due_iff _).2 clock))
    (Ctl.send_start (s.env p) (s.port p)) rfl rfl (.inl rfl)
  exact ⟨t, answer, port, only, lines.trans (Port.frames_eq _ _)⟩

end Sys2Proof.Machine

/-!
# Delimiters, and frames and words that are dropped (R37, R42 to R44, R51, R53)
-/

namespace Sys2Proof.Machine

theorem exec_delimiterFound (p : PortNo) (i : LaneNo) (sense : Polarity) (s : State) :
    exec (.delimiterFound p i sense) s = act s fun s =>
      if ((s.port p).lane i).st = .beacon then
        s.setPort p ((s.port p).modLane i fun l => { l with polarity := sense, rx := .collect })
      else s := rfl

/-- A command that changes the record of one lane, and nothing else. -/
theorem act_setLane {s : State} {eff : State → State} {p : PortNo} {i : LaneNo} {l : Lane} (hs : s.hold = .released)
    (he : eff { s with out := [] } = State.setPort { s with out := [] } p ((s.port p).setLane i l)) :
    ∃ t, act s eff = .next t ∧ t.port p = (s.port p).setLane i l ∧ OnlyPort p s t ∧ t.out = [] := by
  have answer := act_setPort s eff p ((s.port p).setLane i l) [] hs (he.trans (State.emit_nil _).symm)
  have port : State.port { s.setPort p ((s.port p).setLane i l) with out := [] } p = (s.port p).setLane i l :=
    State.port_setPort s p _
  exact ⟨_, answer, port, by rw [OnlyPort, port], rfl⟩

section
variable {s : State} {p : PortNo} {i : LaneNo}

/-- A beacon whose check fails: the receiver returns to HUNT, and the lane counts it (R43, R44). -/
theorem State.takeFrame_badCheck {bytes : List Byte} (st : ((s.port p).lane i).st = .beacon)
    (rx : ((s.port p).lane i).rx = .collect) (check : checkOk 16 (((s.port p).lane i).correct bytes) = false) :
    s.takeFrame p i bytes =
      s.setPort p ((s.port p).setLane i ({ (s.port p).lane i with rx := .hunt } : Lane).countError) := by
  refine (if_pos ⟨st, rx⟩).trans ?_
  unfold State.takeBeacon
  dsimp only
  rw [if_neg (Bool.eq_false_iff.1 check)]
  simp [Port.modLane]

/-- A word whose check fails is counted (R44, R51). -/
theorem State.takeWord_badCheck {b : List Byte} (check : checkOk 6 b = false) :
    s.takeWord p i b = s.setPort p ((s.port p).setLane i ((s.port p).lane i).countError) :=
  if_neg (Bool.eq_false_iff.1 check)

end

/-- Settles O16: a delimiter, a beacon and a word each by the state of the lane. -/
theorem delimitersAndFailedChecks : Obligations.DelimitersAndFailedChecks := by
  intro p i s hs c l
  refine ⟨fun sense beacon => ?_, fun sense other => ?_, fun bytes beacon collect check => ?_, fun bytes other => ?_,
    fun bytes locked check => ?_, fun bytes other => ?_⟩
  · rw [exec_delimiterFound]
    exact act_setLane hs (if_pos beacon)
  · rw [exec_delimiterFound]
    exact act_idle hs (if_neg other)
  · rw [exec_beaconFrame]
    rw [← Lane.correct_eq] at check
    exact act_setLane hs (State.takeFrame_badCheck (s := { s with out := [] }) beacon collect check)
  · rw [exec_beaconFrame]
    refine act_idle hs (if_neg ?_)
    rintro ⟨beacon, collect⟩
    exact other.elim (fun h => h beacon) fun hunt => RxPhase.noConfusion (hunt.symm.trans collect)
  · rw [exec_trainingWord]
    exact act_setLane hs ((if_pos locked).trans (State.takeWord_badCheck (s := { s with out := [] }) check))
  · rw [exec_trainingWord]
    exact act_idle hs (if_neg other)

end Sys2Proof.Machine


/-!
# Frames as they are sent and read back (R39, R41 to R46, R48, R50, R51, R188)
-/

namespace Sys2Proof.Machine

/-! ## Packed fields -/

section
variable {u v w : Nat} (a : BitVec u) (x : BitVec v) (y : BitVec w)

theorem packed_low : (a ++ (x ++ y)).extractLsb' 0 w = y := by
  rw [BitVec.extractLsb'_append_eq_of_add_le (by omega), BitVec.extractLsb'_append_eq_right]

theorem packed_mid : (a ++ (x ++ y)).extractLsb' w v = x := by
  rw [BitVec.extractLsb'_append_eq_of_add_le (by omega), BitVec.extractLsb'_append_eq_left]

end

/-- A reserved top bit is 0 (R188). -/
theorem packed_reserved {w : Nat} (x : BitVec w) : (0#1 ++ x).getLsbD w = false := by
  rw [BitVec.getLsbD_append, if_neg (lt_irrefl w), Nat.sub_self]
  rfl

/-- A 16-bit field that a frame carries most significant byte first reads back. -/
theorem beField_toBE (before after : List Byte) (x : BitVec 16) :
    beField (before ++ (toBE 2 x.toNat ++ after)) before.length 2 = x.toNat := by
  have bytes : beField (before ++ (toBE 2 x.toNat ++ after)) before.length 2 =
      256 * (256 * 0 + (BitVec.ofNat 8 (x.toNat / 256)).toNat) + (BitVec.ofNat 8 x.toNat).toNat := by
    unfold beField
    rw [List.drop_left]
    rfl
  have range := x.isLt
  rw [bytes, BitVec.toNat_ofNat, BitVec.toNat_ofNat]
  omega

/-- A payload with its check passes the check (R44). -/
theorem checkOk_withCheck (payload : List Byte) : checkOk payload.length (withCheck payload) = true := by
  have field := beField_toBE payload [] (crc payload)
  rw [List.append_nil] at field
  unfold checkOk withCheck
  rw [List.take_left, field]
  exact decide_eq_true rfl

/-! ## Phases (R45, R51) -/

/-- A phase that beacons carry (R40). -/
def Phase.InBeacons (ph : Phase) : Prop :=
  ph = .hello ∨ ph = .propose ∨ ph = .accept ∨ ph = .reject ∨ ph = .go ∨ ph = .heldBeacon

/-- A phase that training words carry (R40). -/
def Phase.InWords (ph : Phase) : Prop :=
  ph = .training ∨ ph = .result ∨ ph = .commit ∨ ph = .retry ∨ ph = .heldWord

theorem Phase.ofBeacon_code {ph : Phase} (h : ph.InBeacons) : Phase.ofBeacon (ph.code.extractLsb' 0 4) = some ph := by
  rcases h with rfl | rfl | rfl | rfl | rfl | rfl <;> rfl

theorem Phase.ofWord_code {ph : Phase} (h : ph.InWords) : Phase.ofWord ph.code = some ph := by
  rcases h with rfl | rfl | rfl | rfl | rfl <;> rfl

/-! ## Beacons (R39, R43 to R48) -/

section
variable (ph : Phase) (own : Ident) (grades : BitVec 4) (widths : BitVec 3) (attempt propGrade : Byte)
  (propSet good : LaneSet) (reason verdict : Byte) (seenChassis : BitVec 16) (seenPort : Byte) (check : List Byte)

/-- Where a beacon carries its fields (R39, Formats). -/
theorem beaconPayload_layout : ∃ b, b = beaconPayload ph own grades widths attempt propGrade propSet good reason verdict
      seenChassis seenPort ++ check ∧
    byteAt b 0 = 1#4 ++ ph.code.extractLsb' 0 4 ∧ beField b 1 2 = own.chassis.toNat ∧
    byteAt b 3 = 0#1 ++ (own.lane ++ own.port) ∧ beField b 4 2 = own.epoch.toNat ∧
    byteAt b 6 = 0#1 ++ (widths ++ grades) ∧ byteAt b 7 = attempt ∧ byteAt b 8 = propGrade ∧
    byteAt b 9 = good ++ propSet ∧ byteAt b 10 = reason ∧ beField b 12 2 = seenChassis.toNat ∧ byteAt b 14 = seenPort :=
  ⟨_, rfl, rfl, beField_toBE [_] _ _, rfl, beField_toBE [_, _, _, _] _ _, rfl, rfl, rfl, rfl, rfl,
    beField_toBE [_, _, _, _, _, _, _, _, _, _, _, _] _ _, rfl⟩

/-- The record that a beacon payload gives, whatever check follows it (R45, R46, R48). -/
theorem beaconOf_beaconPayload (phase : ph.InBeacons) (named : own.chassis ≠ 0) :
    beaconOf (beaconPayload ph own grades widths attempt propGrade propSet good reason verdict seenChassis seenPort ++
      check) = some
      { phase := ph, attempt := attempt, good := good, reason := reason
        beacon := some
          { sender := own, propGrade := propGrade, propSet := propSet, grades := grades, widths := widths
            seenChassis := seenChassis, seenPort := seenPort } } := by
  obtain ⟨b, frame, b0, b1, b3, b4, b6, b7, b8, b9, b10, b12, b14⟩ := beaconPayload_layout ph own grades widths
    attempt propGrade propSet good reason verdict seenChassis seenPort check
  rw [← frame]
  have format : (byteAt b 0).extractLsb' 4 4 = 1#4 := by rw [b0]; exact BitVec.extractLsb'_append_eq_left
  have code : (byteAt b 0).extractLsb' 0 4 = ph.code.extractLsb' 0 4 := by
    rw [b0]; exact BitVec.extractLsb'_append_eq_right
  have port : (byteAt b 3).extractLsb' 0 5 = own.port := by rw [b3]; exact packed_low _ _ _
  have lane : (byteAt b 3).extractLsb' 5 2 = own.lane := by rw [b3]; exact packed_mid _ _ _
  have gradeSet : (byteAt b 6).extractLsb' 0 4 = grades := by rw [b6]; exact packed_low _ _ _
  have widthSet : (byteAt b 6).extractLsb' 4 3 = widths := by rw [b6]; exact packed_mid _ _ _
  have laneSet : (byteAt b 9).extractLsb' 0 4 = propSet := by rw [b9]; exact BitVec.extractLsb'_append_eq_right
  have goodSet : (byteAt b 9).extractLsb' 4 4 = good := by rw [b9]; exact BitVec.extractLsb'_append_eq_left
  unfold beaconOf
  rw [format, code, Phase.ofBeacon_code phase, b1, b4, b7, b8, b10, b12, b14, port, lane, gradeSet, widthSet, laneSet,
    goodSet]
  simp only [BitVec.ofNat_toNat, BitVec.setWidth_eq, ne_eq, not_true_eq_false, if_false, if_neg named]

end

/-- A frame inverted by crossed wires is received as it was sent (R43). -/
theorem Lane.correct_inverted {l : Lane} (h : l.polarity = .inverted) (frame : List Byte) :
    l.correct (frame.map fun b => ~~~b) = frame := by
  rw [Lane.correct_eq, if_pos h, List.map_map]
  exact (List.map_congr_left fun b _ => BitVec.not_not).trans (List.map_id frame)

theorem Lane.correct_normal {l : Lane} (h : l.polarity = .normal) (frame : List Byte) : l.correct frame = frame := by
  rw [Lane.correct_eq, h]
  rfl

/-! ## The seen identity (R41) -/

theorem Port.seenSent_none {c : Port} (h : ∀ j, (c.lane j).far = none) : c.seenSent = (0, 0xFF) := by
  have silent : lowestLane c.identifiedSet = none := (lowestLane_eq_none _).2 fun j => by simp [h j]
  unfold Port.seenSent
  rw [silent]

theorem Port.seenSent_some {c : Port} {j : LaneNo} {f : Ident} (far : (c.lane j).far = some f)
    (first : ∀ k, k < j → (c.lane k).far = none) : c.seenSent = (f.chassis, BitVec.ofNat 8 f.port.toNat) := by
  have lowest : lowestLane c.identifiedSet = some j :=
    (lowestLane_eq_some _ j).2 ⟨by simp [far], fun k lt => by simp [first k lt]⟩
  unfold Port.seenSent
  rw [lowest]
  dsimp only
  rw [far]
  exact congrArg (Prod.mk f.chassis) (BitVec.ofNat_toNat _ _).symm

/-! ## What a port sends -/

/-- The payload of the beacon that a lane of a port sends (R39). -/
def Port.payload (env : Env) (c : Port) (i : LaneNo) : List Byte :=
  beaconPayload c.phase ⟨env.chassis, portBits env.self, laneBits i, env.epoch⟩ c.capGrades c.capWidths c.attempt
    (gradeByte c.agreed) c.laneSet c.good c.frameReason.code c.verdict.code c.seenSent.1 c.seenSent.2

theorem Port.beaconBytes_eq (env : Env) (c : Port) (i : LaneNo) :
    c.beaconBytes env i = 0xB3 :: 0x8E :: withCheck (c.payload env i) := rfl

/-- Settles O58: the fields of the frames a port sends, read where the formats place them. -/
theorem framesReadBackAsSent : Obligations.FramesReadBackAsSent := by
  intro env c i
  refine ⟨Port.seenSent_none, fun j f => Port.seenSent_some, fun phase named => ?_, fun phase => ?_⟩
  · refine ⟨withCheck (c.payload env i), c.beaconBytes_eq env i, rfl, checkOk_withCheck (c.payload env i),
      rfl, rfl, packed_reserved _, packed_reserved _, fun l normal => Lane.correct_normal normal _,
      fun l inverted => Lane.correct_inverted inverted _, ?_⟩
    exact beaconOf_beaconPayload _ _ _ _ _ _ _ _ _ _ _ _ _ phase named
  · refine ⟨rfl, checkOk_withCheck (wordPayload _ _ _ _ _), Phase.ofWord_code phase, rfl,
      BitVec.extractLsb'_append_eq_right, rfl, ?_, rfl, BitVec.extractLsb'_append_eq_left⟩
    exact (BitVec.toNat_ofNat _ _).trans (Nat.mod_eq_of_lt (by omega))

end Sys2Proof.Machine


/-!
# Qualification: the test that runs, the entry into QUALIFY and the entry into CONFIRM (R104, R105, R112, R114)
-/

namespace Sys2Proof.Machine

/-! ## The lanes that run (R112) -/

/-- A lane that runs in the port's test, with its E so far. -/
def Port.Runs (c : Port) (T : PortTest) (i : LaneNo) (e : Nat) : Prop :=
  c.test = some T ∧ T.ended = false ∧ hasLane T.lanes i = true ∧ (c.lane i).test = some ⟨e, none⟩

theorem Port.runningTest_eq {c : Port} {T : PortTest} (test : c.test = some T) (runs : T.ended = false) :
    c.runningTest = some T := by
  unfold Port.runningTest
  rw [test, Option.filter_some, runs]
  rfl

theorem Port.runningTest_eq_some {c : Port} {T : PortTest} :
    c.runningTest = some T ↔ c.test = some T ∧ T.ended = false := by
  unfold Port.runningTest
  rw [Option.filter_eq_some_iff, Bool.not_eq_true']

theorem Port.runningRecord_eq_some {c : Port} {i : LaneNo} {r : TestRecord} :
    c.runningRecord i = some r ↔ ∃ T e, r = ⟨e, none⟩ ∧ c.Runs T i e := by
  obtain ⟨e, g⟩ := r
  unfold Port.runningRecord Port.Runs
  cases test : c.runningTest with
  | none =>
    have idle : ∀ T, c.test = some T → T.ended ≠ false := fun T h h' => by
      rw [Port.runningTest_eq h h'] at test; cases test
    simp only [reduceCtorEq, false_iff]
    rintro ⟨T, e, -, h, h', -⟩
    exact idle T h h'
  | some T =>
    obtain ⟨h, h'⟩ := Port.runningTest_eq_some.1 test
    by_cases lane : hasLane T.lanes i = true
    · simp [h, h', lane, Option.filter_eq_some_iff]
      constructor
      · rintro ⟨rec, rfl⟩
        exact ⟨rfl, rec⟩
      · rintro ⟨rfl, rec⟩
        exact ⟨rec, rfl⟩
    · simp [h, lane]

theorem Port.runningRecord_eq_none {c : Port} {i : LaneNo} : c.runningRecord i = none ↔ ∀ T e, ¬ c.Runs T i e := by
  refine ⟨fun h T e runs => ?_, fun h => Option.eq_none_iff_forall_ne_some.2 fun r hr => ?_⟩
  · rw [Port.runningRecord_eq_some.2 ⟨T, e, rfl, runs⟩] at h
    cases h
  · obtain ⟨T, e, -, runs⟩ := Port.runningRecord_eq_some.1 hr
    exact h T e runs

theorem Port.runningLanes_eq_zero {c : Port} : c.runningLanes = 0 ↔ ∀ T i e, ¬ c.Runs T i e := by
  unfold Port.runningLanes
  simp only [lanesWhere_eq_zero, Option.isSome_eq_false_iff, Option.isNone_iff_eq_none, Port.runningRecord_eq_none]
  exact forall_comm

/-- A lane runs as it did when another lane's record changes. -/
theorem Port.runs_setLane {c : Port} {T : PortTest} {i j : LaneNo} {e : Nat} {l : Lane} (h : j ≠ i) :
    (c.setLane i l).Runs T j e ↔ c.Runs T j e := by
  unfold Port.Runs
  rw [Port.lane_setLane_of_ne c i j l h]
  rfl

/-- No lane runs once the last one has its verdict. -/
theorem Port.runningLanes_setLane {c : Port} {T : PortTest} {i : LaneNo} {l : Lane} (test : c.test = some T)
    (runs : T.ended = false) (given : ∀ e, l.test ≠ some ⟨e, none⟩) : (c.setLane i l).runningLanes = 0 ↔
    ∀ j e, j ≠ i → hasLane T.lanes j = true → (c.lane j).test ≠ some ⟨e, none⟩ := by
  rw [Port.runningLanes_eq_zero]
  refine ⟨fun none j e ne lane rec => none T j e ((Port.runs_setLane ne).2 ⟨test, runs, lane, rec⟩), ?_⟩
  rintro none T' j e r
  by_cases ne : j = i
  · subst ne
    obtain ⟨-, -, -, rec⟩ := r
    exact given e (by rwa [Port.lane_setLane] at rec)
  · obtain ⟨test', -, lane, rec⟩ := (Port.runs_setLane ne).1 r
    obtain rfl : T = T' := Option.some.inj (test.symm.trans test')
    exact none j e ne lane rec

/-! ## The entry into QUALIFY (R104, R114) -/

theorem Port.hasLane_setIn (c : Port) (st : LaneState) (i : LaneNo) :
    hasLane (c.setIn st) i = (hasLane c.laneSet i && (c.lane i).st = st) := hasLane_lanesWhere _ i

theorem Ctl.enterQualify_agreed (env : Env) (c : Ctl) : (c.enterQualify env).port.agreed = c.port.agreed := by
  unfold Ctl.enterQualify
  rw [Ctl.mod_port, Ctl.goTo_port]
  dsimp only
  split <;> rfl

/-- QUALIFY entered in TRAIN: the test runs on the LOCKED set lanes, and nothing is handed over. -/
theorem Ctl.enterQualify_starts (env : Env) {c : Ctl} {g : Grade} (agreed : c.port.agreed = some g)
    (st : c.port.st ≠ .active) :
    IsQualify g c.port (c.enterQualify env).port (fun j => hasLane c.port.laneSet j && (c.port.lane j).st = .locked) ∧
    (∀ j, ((c.enterQualify env).port.lane j).st = (c.port.lane j).st) ∧ (c.enterQualify env).kinds = c.kinds ∧
    (c.enterQualify env).ended = c.ended ∧ (c.enterQualify env).out = c.out := by
  obtain ⟨qualify, work, reached, phase, timer, ⟨target, dwell, test, dwellTimer⟩, lane, settings, module, set, attempt,
    kinds, out, ended⟩ := c.enterQualify_is env g agreed
  rw [if_neg st] at kinds
  refine ⟨⟨qualify, work, reached, phase, timer, ⟨_, test, rfl, rfl, rfl, rfl, rfl, dwellTimer, ?_⟩, fun j => ?_, settings,
    module, set, attempt, c.enterQualify_agreed env⟩, fun j => by rw [lane], kinds.trans BitVec.or_zero, ended, out⟩
  · exact c.port.hasLane_setIn .locked
  · rw [lane, Port.hasLane_setIn]

/-- The look at the set lanes in TRAIN: it waits for a TRAINING one (R102). -/
theorem Ctl.checkTrain_waits (env : Env) {c : Ctl}
    (h : c.port.st ≠ .train ∨ ∃ j, hasLane c.port.laneSet j = true ∧ (c.port.lane j).st = .training) :
    c.checkTrain env = c := by
  refine if_neg ?_
  rintro ⟨st, none, -⟩
  rcases h with h | ⟨j, set, training⟩
  · exact h st
  · exact (Port.setIn_eq_zero _ _).1 none j set training

/-- With none TRAINING and one LOCKED it enters QUALIFY (R102). -/
theorem Ctl.checkTrain_qualifies (env : Env) {c : Ctl} (st : c.port.st = .train)
    (none : ∀ j, hasLane c.port.laneSet j = true → (c.port.lane j).st ≠ .training)
    (some : ∃ j, hasLane c.port.laneSet j = true ∧ (c.port.lane j).st = .locked) :
    c.checkTrain env = c.enterQualify env := by
  obtain ⟨j, set, locked⟩ := some
  exact if_pos ⟨st, (Port.setIn_eq_zero _ _).2 none, fun zero => (Port.setIn_eq_zero _ _).1 zero j set locked⟩

/-! ## The entry into CONFIRM (R105) -/

theorem Port.heldResult_none {c : Port} (h : ∀ i r, (c.lane i).neg = some r → r.phase ≠ .result) :
    c.heldResult = none := by
  unfold Port.heldResult
  refine List.findSome?_eq_none_iff.2 fun i _ => ?_
  cases neg : (c.lane i).neg with
  | none => rfl
  | some r => exact if_neg fun result => h i r neg result.1

theorem Port.hasLane_ownGood (c : Port) (j : LaneNo) : hasLane c.ownGood j = true ↔
    hasLane c.laneSet j = true ∧ (c.lane j).st = .locked ∧
      ∃ r v, (c.lane j).test = some r ∧ r.given = some v ∧ v.verdict = .pass := by
  unfold Port.ownGood
  rw [hasLane_lanesWhere]
  cases test : (c.lane j).test with
  | none => simp
  | some r => cases given : r.given <;> simp [and_assoc, given]

/-- The context of a port that has entered CONFIRM and has decided nothing. -/
def Port.confirms (env : Env) (c : Port) : Port :=
  { c.setPhase .result .noReason with good := c.ownGood, phaseTimer := some env.cfg.phaseWait }

/-- A follower, and a lead that holds no RESULT, decides nothing on its entry into CONFIRM. -/
theorem Ctl.enterConfirm_waits (env : Env) {c : Ctl} (waits : WaitsForResult c.port) :
    c.enterConfirm env = (c.goTo .confirm).mod (Port.confirms env) := by
  have role : ((c.goTo .confirm).mod (Port.confirms env)).port.role = c.port.role := rfl
  have entered : c.enterConfirm env = match ((c.goTo .confirm).mod (Port.confirms env)).port.role with
      | .lead => match ((c.goTo .confirm).mod (Port.confirms env)).port.heldResult with
        | some F => ((c.goTo .confirm).mod (Port.confirms env)).decide env F
        | none => (c.goTo .confirm).mod (Port.confirms env)
      | .self => ((c.goTo .confirm).mod (Port.confirms env)).decide env
          ((c.goTo .confirm).mod (Port.confirms env)).port.good
      | .follow | .noRole => (c.goTo .confirm).mod (Port.confirms env) := rfl
  rw [entered, role]
  rcases waits with follow | ⟨lead, none⟩
  · rw [follow]
  · rw [lead, Port.heldResult_none (c := ((c.goTo .confirm).mod (Port.confirms env)).port) none]

/-- The end of a bring-up test takes a port that has nothing to decide to CONFIRM (R105). -/
theorem Ctl.bringUpOver_waits (env : Env) {c : Ctl} {T : PortTest} (waits : WaitsForResult c.port)
    (test : c.port.test = some T) (st : c.port.st ≠ .active) :
    IsConfirm env.cfg c.port (c.bringUpOver env).port ∧ (c.bringUpOver env).port.test = some { T with ended := true } ∧
    (c.bringUpOver env).port.lanes = c.port.lanes ∧ (c.bringUpOver env).kinds = c.kinds ∧
    (c.bringUpOver env).ended = c.ended ∧ (c.bringUpOver env).out = c.out := by
  have ends : c.bringUpOver env = ((c.mod Port.closeTest).goTo .confirm).mod (Port.confirms env) :=
    Ctl.enterConfirm_waits env (c := c.mod Port.closeTest) waits
  rw [ends]
  refine ⟨⟨rfl, Port.hasLane_ownGood ((c.mod Port.closeTest).goTo .confirm).port⟩, ?_, rfl, ?_, rfl, rfl⟩
  · simp [Port.confirms, Port.setPhase, Ctl.goTo_port, Port.closeTest, test]
  · rw [Ctl.mod_kinds, Ctl.goTo_kinds]
    simp [st, PortState.milestone, Port.closeTest]

/-- What a port waits for in CONFIRM depends on its role and the records heard alone. -/
theorem WaitsForResult.of_neg {c d : Port} (h : WaitsForResult c) (role : d.role = c.role)
    (neg : ∀ i, (d.lane i).neg = (c.lane i).neg) : WaitsForResult d := by
  unfold WaitsForResult at *
  simp only [role, neg]
  exact h

/-- An event that ends the bring-up test of a port that has nothing to decide. -/
theorem act_runPort_confirms {s : State} {eff : State → State} {p : PortNo} (f : Env → Ctl → Ctl) {x : Ctl} {T : PortTest}
    (hs : s.hold = .released) (he : eff { s with out := [] } = State.runPort { s with out := [] } p f)
    (hc : s.ctl p f = x.bringUpOver (s.env p)) (waits : WaitsForResult x.port) (test : x.port.test = some T)
    (st : x.port.st ≠ .active) (kinds : x.kinds = 0) (ended : x.ended = none) :
    ∃ t, act s eff = .next t ∧ IsConfirm s.we.cfg x.port (t.port p) ∧
      (t.port p).test = some { T with ended := true } ∧ (∀ j, (t.port p).lane j = x.port.lane j) ∧ OnlyPort p s t ∧
      t.out = x.out := by
  obtain ⟨confirms, tested, lanes, marks, ends, lines⟩ := Ctl.bringUpOver_waits (s.env p) waits test st
  have state : (x.bringUpOver (s.env p)).port.st = .confirm := congrArg Port.st confirms.1
  obtain ⟨t, answer, port, only, out⟩ := act_runPort_alone f _ hs he hc (marks.trans kinds) (ends.trans ended)
    (.inr (by rw [state]; rfl))
  rw [← port] at confirms tested lanes
  exact ⟨t, answer, confirms, tested, fun j => congrArg (fun l : Vector Lane 4 => l[j]) lanes, only, out.trans lines⟩

/-! ## The entry into HELD in the middle of an event (R24) -/

/-- An event that has its port enter HELD, whatever it did before. -/
theorem State.runPort_entersHeld (s : State) (p : PortNo) (f : Env → Ctl → Ctl) {x : Ctl} {why : HoldReason}
    (hc : s.ctl p f = x.enterHeld p why) (kinds : x.kinds = 0) :
    s.runPort p f = s.settle p (x.enterHeld p why) ∧ IsHeld why x.port ((s.runPort p f).port p) ∧
    Reported p 2 s (s.runPort p f) ∧ PortEventFrame p s (s.runPort p f) := by
  have entered := x.enterHeld_is p why
  have inactive : (x.enterHeld p why).port.st = .active → (s.port p).st = .active := by
    rw [entered.1]
    exact fun h => PortState.noConfusion h
  obtain ⟨port, frame, -, reported⟩ := State.runPort_answer s p f _ hc inactive
  have marks : (x.enterHeld p why).kinds = 2 := by rw [Ctl.enterHeld_kinds, kinds]; rfl
  rw [marks] at reported
  rw [← port] at entered
  exact ⟨by rw [State.runPort_settles s p f (by rw [hc]; exact inactive), hc], entered, reported (by decide), frame⟩

end Sys2Proof.Machine

/-!
# Lock gained (R34, R102, R104)
-/

namespace Sys2Proof.Machine

theorem exec_lockGained (p : PortNo) (i : LaneNo) (s : State) : exec (.lockGained p i) s =
    act s fun s => if ((s.port p).lane i).st = .training then s.runPort p (Ctl.gainLock i) else s := rfl

/-- A lane that has gained lock is LOCKED (R34). -/
def Port.lockLane (i : LaneNo) (c : Port) : Port := c.setLane i { c.lane i with st := .locked }

theorem Port.lockLane_st (i : LaneNo) (c : Port) (j : LaneNo) :
    ((c.lockLane i).lane j).st = if j = i then .locked else (c.lane j).st := by
  unfold Port.lockLane
  rw [Port.lane_setLane_ite]
  split_ifs <;> rfl

/-- An event that takes its port to QUALIFY (R104). -/
theorem act_runPort_qualifies {s : State} {eff : State → State} {p : PortNo} (f : Env → Ctl → Ctl) {x : Ctl} {g : Grade}
    (hs : s.hold = .released) (he : eff { s with out := [] } = State.runPort { s with out := [] } p f)
    (hc : s.ctl p f = x.enterQualify (s.env p)) (agreed : x.port.agreed = some g) (st : x.port.st ≠ .active)
    (kinds : x.kinds = 0) (ended : x.ended = none) :
    ∃ t, act s eff = .next t ∧
      IsQualify g x.port (t.port p) (fun j => hasLane x.port.laneSet j && (x.port.lane j).st = .locked) ∧
      (∀ j, ((t.port p).lane j).st = (x.port.lane j).st) ∧ OnlyPort p s t ∧ t.out = x.out := by
  obtain ⟨qualifies, states, marks, ends, lines⟩ := Ctl.enterQualify_starts (s.env p) agreed st
  obtain ⟨t, answer, port, only, out⟩ := act_runPort_alone f _ hs he hc (marks.trans kinds) (ends.trans ended)
    (.inr (by rw [qualifies.1]; rfl))
  rw [← port] at qualifies states
  exact ⟨t, answer, qualifies, states, only, out.trans lines⟩

/-- Settles O13: lock gained by the lane's state, and on the last set lane of a port in TRAIN. -/
theorem lockGainedLocksALane : Obligations.LockGainedLocksALane := by
  intro p i s hs c
  rw [exec_lockGained]
  have gains : (c.lane i).st = .training → (fun s : State => if ((s.port p).lane i).st = .training then
      s.runPort p (Ctl.gainLock i) else s) { s with out := [] } = State.runPort { s with out := [] } p (Ctl.gainLock i) :=
    fun training => if_pos training
  have other : ∀ j, j ≠ i → ((c.lockLane i).lane j).st = (c.lane j).st := fun j ne => by
    rw [Port.lockLane_st, if_neg ne]
  have own : ((c.lockLane i).lane i).st = .locked := by rw [Port.lockLane_st, if_pos rfl]
  refine ⟨fun idle => act_idle hs (if_neg idle), fun training waits => ?_, fun training st lane last g agreed => ?_⟩
  · have ctl : s.ctl p (Ctl.gainLock i) = Ctl.start (c.lockLane i) := by
      refine Ctl.checkTrain_waits (s.env p) (c := Ctl.start (c.lockLane i)) (waits.imp id ?_)
      rintro ⟨j, ne, set, st⟩
      exact ⟨j, set, (other j ne).trans st⟩
    exact act_runPort_alone _ _ hs (gains training) ctl rfl rfl (.inl rfl)
  · have ctl : s.ctl p (Ctl.gainLock i) = (Ctl.start (c.lockLane i)).enterQualify (s.env p) := by
      refine Ctl.checkTrain_qualifies (s.env p) (c := Ctl.start (c.lockLane i)) st (fun j set => ?_) ⟨i, lane, own⟩
      by_cases ne : j = i
      · rw [ne]
        exact fun h => LaneState.noConfusion (own.symm.trans h)
      · exact fun h => last j ne set ((other j ne).symm.trans h)
    obtain ⟨t, answer, ⟨qualify, work, reached, phase, timer, ⟨T, test, kind, grade, elapsed, ended, drop, dwell, lanes⟩,
      records, settings, module, set, attempt, -⟩, states, only, lines⟩ := act_runPort_qualifies _ hs (gains training) ctl
      agreed (fun h => PortState.noConfusion (st.symm.trans h)) rfl rfl
    have tested : ∀ j, (hasLane c.laneSet j && ((c.lockLane i).lane j).st = .locked) = true ↔
        hasLane c.laneSet j = true ∧ (j = i ∨ (c.lane j).st = .locked) := fun j => by
      rw [Port.lockLane_st]
      by_cases ne : j = i <;> simp [ne]
    exact ⟨t, answer, qualify, work, reached, phase, timer, ⟨T, test, kind, grade, elapsed, ended, drop, dwell,
      fun j => by rw [lanes]; exact tested j⟩, fun j => ⟨(states j).trans (c.lockLane_st i j),
      (records j).trans (if_congr (tested j) rfl rfl)⟩, settings, module, set, attempt, only, lines⟩

end Sys2Proof.Machine


/-!
# Line errors (R52, R105, R120, R124, R127, R130)
-/

namespace Sys2Proof.Machine

theorem exec_lineErrorIncrement (p : PortNo) (i : LaneNo) (n : Nat) (s : State) :
    exec (.lineErrorIncrement p i n) s = act s fun s => s.runPort p (Ctl.countErrors i n) := rfl

/-! ## The counts (R52, R120) -/

/-- The port with n more line errors on a lane, and a test record there. -/
def Port.counts (i : LaneNo) (n : Nat) (test : Option TestRecord) (c : Port) : Port :=
  c.setLane i { c.lane i with lineErrs := min ((c.lane i).lineErrs + n) 4294967295, test := test }

/-- The record of a lane that has failed early with this E (R120). -/
def PortTest.failRecord (T : PortTest) (e : Nat) : TestRecord :=
  ⟨e, some ⟨.fail, T.grade.bitsPerMs * T.elapsed, demonstrated e (T.grade.bitsPerMs * T.elapsed), true⟩⟩

theorem PortTest.exceeded_iff (T : PortTest) (e : Nat) : T.exceeded e = true ↔ ∃ a, T.eAllow = some a ∧ a < e := by
  unfold PortTest.exceeded
  cases T.eAllow <;> simp

section
variable {c : Port} {i : LaneNo} {T : PortTest} {e : Nat}

/-- A count that leaves the lane's test record does not change which lanes run. -/
theorem Port.runs_counts (n : Nat) : (c.counts i n (c.lane i).test).Runs T i e ↔ c.Runs T i e := by
  unfold Port.Runs Port.counts
  rw [Port.lane_setLane]
  rfl

/-- Errors on a lane that does not run are counted, and nothing else (R52; log 20). -/
theorem Ctl.countErrors_idle (env : Env) (n : Nat) (idle : ∀ T e, ¬ c.Runs T i e) :
    (Ctl.start c).countErrors i n env = Ctl.start (c.counts i n (c.lane i).test) := by
  have record : (c.counts i n (c.lane i).test).runningRecord i = none :=
    Port.runningRecord_eq_none.2 fun T e runs => idle T e ((Port.runs_counts n).1 runs)
  have steps : (Ctl.start c).countErrors i n env =
      match (c.counts i n (c.lane i).test).runningTest, (c.counts i n (c.lane i).test).runningRecord i with
      | some t, some r => (Ctl.start (c.counts i n (c.lane i).test)).addToTest i n t r env
      | _, _ => Ctl.start (c.counts i n (c.lane i).test) := rfl
  rw [steps, record]
  cases (c.counts i n (c.lane i).test).runningTest <;> rfl

/-- Errors on a running lane join its E; past E_allow the lane fails at once (R120). -/
theorem Ctl.countErrors_running (env : Env) (n : Nat) (runs : c.Runs T i e) :
    (Ctl.start c).countErrors i n env =
      if T.exceeded (min (e + n) 4294967295) then
        (Ctl.start (c.counts i n (some (T.failRecord (min (e + n) 4294967295))))).laneFailed T env
      else Ctl.start (c.counts i n (some ⟨min (e + n) 4294967295, none⟩)) := by
  have counted := (Port.runs_counts (c := c) n).2 runs
  have record := Port.runningRecord_eq_some.2 ⟨T, e, rfl, counted⟩
  have test := Port.runningTest_eq counted.1 counted.2.1
  have steps : (Ctl.start c).countErrors i n env =
      match (c.counts i n (c.lane i).test).runningTest, (c.counts i n (c.lane i).test).runningRecord i with
      | some t, some r => (Ctl.start (c.counts i n (c.lane i).test)).addToTest i n t r env
      | _, _ => Ctl.start (c.counts i n (c.lane i).test) := rfl
  have lane : ∀ r : TestRecord, (c.counts i n (c.lane i).test).modLane i (fun l => { l with test := some r }) =
      c.counts i n (some r) := fun r => by
    unfold Port.counts Port.modLane
    rw [Port.lane_setLane, Port.setLane_setLane]
  rw [steps, record, test, ← lane, ← lane]
  rfl

end

/-! ## What a lane's FAIL does (R124, R127) -/

section
variable {x : Ctl} {T : PortTest} {env : Env}

theorem Ctl.laneFailed_goesOn (drop : T.dropOnFail = false) (running : x.port.runningLanes ≠ 0) :
    x.laneFailed T env = x := by
  unfold Ctl.laneFailed
  rw [drop, if_neg running, if_neg running]
  cases T.kind <;> rfl

theorem Ctl.laneFailed_endsBringUp (kind : T.kind = .bringUp) (last : x.port.runningLanes = 0) :
    x.laneFailed T env = x.bringUpOver env := by
  unfold Ctl.laneFailed
  rw [kind]
  exact if_pos last

theorem Ctl.laneFailed_endsLaneTest (kind : T.kind = .laneTest) (drop : T.dropOnFail = false)
    (last : x.port.runningLanes = 0) : x.laneFailed T env = x.endLaneTest .ok asStop := by
  unfold Ctl.laneFailed
  rw [kind, drop]
  exact if_pos last

theorem Ctl.laneFailed_drops (kind : T.kind = .laneTest) (drop : T.dropOnFail = true) :
    x.laneFailed T env = (x.endLaneTest .ok asStop).enterHeld env.self .testFailed := by
  unfold Ctl.laneFailed
  rw [kind, drop]
  rfl

end

/-! ## The end of a LANE_TEST whose port stays (R130) -/

@[simp] theorem State.meetStall_slots (s : State) (f : Stall → Bool) : (s.meetStall f).we.slots = s.we.slots := by
  unfold State.meetStall State.triggerScan
  split_ifs <;> rfl

/-- A job's completion frees its slot and no other. -/
theorem State.completeSlot_slots (s : State) (k : Fin 16) (j : Job) (bufs : List MemOp) (st : Status) (n : Nat) :
    (s.completeSlot k j bufs st n).we.slots = s.we.slots.set k none := by
  unfold State.completeSlot
  simp

/-- An event that ends its port's LANE_TEST and nothing else frees the test's slot alone. -/
theorem State.settle_slots {s : State} {p : PortNo} {y : Ctl} {T : PortTest} {k : Fin 16} {tag : JobTag} {e : TestEnd}
    (runs : TestRuns s p T k tag) (ended : y.ended = some e) (kinds : y.kinds = 0) (st : y.port.st = (s.port p).st) :
    (s.settle p y).we.slots = s.we.slots.set k none := by
  have slot : ((s.setPort p y.port).emit y.out).laneTestSlot p = some (k, ⟨tag, p, .laneTest⟩) :=
    State.laneTestSlot_of_runs (s := s) runs
  unfold State.settle
  dsimp only
  rw [ended, kinds, if_pos rfl, if_neg fun h => h.2 st]
  dsimp only
  unfold State.finishLaneTest
  rw [slot]
  exact State.completeSlot_slots _ _ _ _ _ _

/-- The end of a LANE_TEST by an event that has changed lane records before. -/
theorem State.settle_laneTestEnded_after {s : State} {p : PortNo} {d : Port} {y : Ctl} {st : Status}
    {g : PortTest → LaneNo → TestRecord → LaneVerdict} {v : PortTest → LaneNo → Nat → LaneVerdict}
    (state : d.st = (s.port p).st) (test : d.test = (s.port p).test)
    (hend : y.ended = ((Ctl.start d).endLaneTest st g).ended) (hv : ∀ T i e, g T i ⟨e, none⟩ = v T i e)
    (held : (∀ T, ((Ctl.start d).endLaneTest st g).port.test = some T → T.ended = true → y.port.test = some T) ∧
      ∀ i, (y.port.lane i).test = (((Ctl.start d).endLaneTest st g).port.lane i).test) :
    LaneTestEnded p d v st s.mm.ops s (s.settle p y) := by
  have ended := State.settle_laneTestEnded (s := s.setPort p d) (p := p) (c := Ctl.start d) (by simp) (by simp) hend hv
    fun _ => held
  rw [State.port_setPort, State.settle_setPort s p d y state] at ended
  rintro T k tag ⟨running, kind, runs, slot, first⟩
  obtain ⟨c', closed, free, done, kept⟩ :=
    ended T k tag ⟨by rw [State.port_setPort, test]; exact running, kind, runs, slot, first⟩
  exact ⟨c', closed, free, done.of_same rfl, kept⟩

/-- A port in HELD keeps the line errors of its lanes. -/
theorem Ctl.enterHeld_lineErrs (x : Ctl) (self : PortNo) (why : HoldReason) (i : LaneNo) :
    ((x.enterHeld self why).port.lane i).lineErrs = (x.port.lane i).lineErrs := by
  unfold Ctl.enterHeld
  rw [Ctl.commandAll_port, Port.lane_mapLanes]
  obtain ⟨-, -, -, -, -, -, lineErrs, -⟩ := Lane.after_keeps _ _
  exact lineErrs

/-! ## The event at its port -/

section
variable {s : State} {p : PortNo} {i : LaneNo} {n : Nat} {T : PortTest} {tag : JobTag} {k : Fin 16} {d : Port}
  {r : TestRecord}

/-- The end of a LANE_TEST leaves the lane that has failed as it is. -/
theorem Ctl.endLaneTest_failedLane (failed : d = (s.port p).counts i n (some r)) (given : r.given ≠ none)
    (test : (s.port p).test = some T) (kind : T.kind = .laneTest) (running : T.ended = false) :
    ((Ctl.start d).endLaneTest .ok asStop).port.lane i = d.lane i := by
  subst failed
  obtain ⟨⟨-, -, -, -, idle⟩, -⟩ := (Ctl.start ((s.port p).counts i n (some r))).endLaneTest_closes T .ok asStop
    (stopGives T) test kind running fun _ _ => rfl
  refine idle i ?_
  rintro ⟨-, e, rec⟩
  rw [Ctl.start_port, Port.counts, Port.lane_setLane] at rec
  rw [Option.some.inj rec] at given
  exact given rfl

/-- The last running lane of a LANE_TEST has failed: the test ends with OK, and its port stays (R124, R130). -/
theorem State.failsLast (failed : d = (s.port p).counts i n (some r)) (given : r.given ≠ none)
    (ctl : s.ctl p (Ctl.countErrors i n) = (Ctl.start d).endLaneTest .ok asStop)
    (last : ∀ j e, j ≠ i → hasLane T.lanes j = true → ((s.port p).lane j).test ≠ some ⟨e, none⟩)
    (runs : TestRuns s p T k tag) :
    let t := s.runPort p (Ctl.countErrors i n)
    (t.port p).st = (s.port p).st ∧ (t.port p).test = some { T with ended := true } ∧ (t.port p).testTimer = none ∧
    ((t.port p).lane i).test = some r ∧ (∀ j, j ≠ i → (t.port p).lane j = (s.port p).lane j) ∧
    JobCompleted s t s.mm.ops tag (bufferOp tag.bufAddr (t.port p).results) .ok (laneCount T.lanes) ∧
    t.we.slots = s.we.slots.set k none ∧ t.rep = s.rep ∧ PortEventFrame p s t := by
  obtain ⟨test, kind, running, -, -⟩ := id runs
  have own := Ctl.endLaneTest_failedLane failed given test kind running
  subst failed
  obtain ⟨⟨closed, timer, -, -, idle⟩, ended⟩ := (Ctl.start ((s.port p).counts i n (some r))).endLaneTest_closes T .ok
    asStop (stopGives T) test kind running fun _ _ => rfl
  obtain ⟨lanes, test', dwell, timer', context⟩ :=
    Ctl.endLaneTest_port .ok asStop (Ctl.start ((s.port p).counts i n (some r)))
  have kinds : ((Ctl.start ((s.port p).counts i n (some r))).endLaneTest .ok asStop).kinds = 0 := Ctl.endLaneTest_kinds _ _ _
  generalize (Ctl.start ((s.port p).counts i n (some r))).endLaneTest .ok asStop = y at *
  have st : y.port.st = (s.port p).st := by rw [context]; rfl
  have other : ∀ j, j ≠ i → y.port.lane j = (s.port p).lane j := fun j ne => by
    have same : ((s.port p).counts i n (some r)).lane j = (s.port p).lane j := Port.lane_setLane_of_ne _ _ _ _ ne
    rw [← same]
    refine idle j ?_
    rintro ⟨set, e, rec⟩
    rw [Ctl.start_port, same] at rec
    exact last j e ne set rec
  have settled : s.runPort p (Ctl.countErrors i n) = s.settle p y := by
    rw [State.runPort_settles s p _ (by rw [ctl, st]; exact id), ctl]
  obtain ⟨port, frame, silent, -⟩ := s.settle_answer p y
  obtain ⟨done, -⟩ := State.settle_completes runs ended
  rw [settled]
  dsimp only
  rw [port]
  refine ⟨st, closed, timer, ?_, other, done, State.settle_slots runs ended kinds st, silent kinds, frame⟩
  rw [own, Port.counts, Port.lane_setLane]

/-- A lane of a drop-on-fail LANE_TEST has failed: the test ends with OK, and the port is held (R127). -/
theorem State.failsDropping (failed : d = (s.port p).counts i n (some r)) (given : r.given ≠ none)
    (ctl : s.ctl p (Ctl.countErrors i n) = ((Ctl.start d).endLaneTest .ok asStop).enterHeld p .testFailed)
    (test : (s.port p).test = some T) (kind : T.kind = .laneTest) (running : T.ended = false) :
    let t := s.runPort p (Ctl.countErrors i n)
    IsHeld .testFailed (s.port p) (t.port p) ∧ Reported p 2 s t ∧
    ((t.port p).lane i).lineErrs = min (((s.port p).lane i).lineErrs + n) 4294967295 ∧
    ((t.port p).lane i).test = some r ∧ LaneTestEnded p d stopGives .ok s.mm.ops s t ∧ PortEventFrame p s t := by
  have own := Ctl.endLaneTest_failedLane failed given test kind running
  subst failed
  obtain ⟨lanes, test', dwell, timer', context⟩ :=
    Ctl.endLaneTest_port .ok asStop (Ctl.start ((s.port p).counts i n (some r)))
  obtain ⟨settled, held, reported, frame⟩ := s.runPort_entersHeld p _ ctl (Ctl.endLaneTest_kinds _ _ _)
  have keeps := Ctl.enterHeld_keepsTest ((Ctl.start ((s.port p).counts i n (some r))).endLaneTest .ok asStop) p .testFailed
  have errors := Ctl.enterHeld_lineErrs ((Ctl.start ((s.port p).counts i n (some r))).endLaneTest .ok asStop) p .testFailed i
  have ended := State.settle_laneTestEnded_after (s := s) (p := p) (d := (s.port p).counts i n (some r)) (st := .ok)
    (g := asStop) (v := stopGives) rfl rfl (Ctl.enterHeld_ended _ p .testFailed) (fun _ _ _ => rfl) keeps
  obtain ⟨-, records⟩ := keeps
  rw [context] at held
  refine ⟨held, reported, ?_, ?_, by rw [settled]; exact ended, frame⟩
  · rw [settled, State.port_settle, errors, own, Port.counts, Port.lane_setLane]
  · rw [settled, State.port_settle, records, own, Port.counts, Port.lane_setLane]

end

/-- Settles O20: line errors on a lane that does not run, on one that runs on, and on one that fails, by the kind of its
test and the other lanes. -/
theorem lineErrorsAreCounted : Obligations.LineErrorsAreCounted := by
  intro p i n s hs _ c l errs
  rw [exec_lineErrorIncrement]
  have event : (fun s : State => s.runPort p (Ctl.countErrors i n)) { s with out := [] } =
      State.runPort { s with out := [] } p (Ctl.countErrors i n) := rfl
  refine ⟨fun idle => ?_, fun T e test running lane record => ?_⟩
  · have stopped : ∀ T e, ¬ c.Runs T i e := by
      rintro T e ⟨test, running, lane, record⟩
      rcases idle with none | ⟨T', test', ended | outside⟩ | none | ⟨r, v, given, verdict⟩
      · rw [none] at test; cases test
      · rw [Option.some.inj (test'.symm.trans test), running] at ended; cases ended
      · rw [Option.some.inj (test'.symm.trans test), lane] at outside; cases outside
      · rw [none] at record; cases record
      · rw [Option.some.inj (given.symm.trans record)] at verdict; cases verdict
    have ctl : s.ctl p (Ctl.countErrors i n) = _ := Ctl.countErrors_idle (s.env p) n stopped
    exact act_runPort_alone _ _ hs event ctl rfl rfl (.inl rfl)
  intro e'
  have counted : s.ctl p (Ctl.countErrors i n) = _ := Ctl.countErrors_running (s.env p) n ⟨test, running, lane, record⟩
  have failed : ∀ a, T.eAllow = some a → a < e' → s.ctl p (Ctl.countErrors i n) =
      (Ctl.start (c.counts i n (some (T.failRecord e')))).laneFailed T (s.env p) := fun a allow past =>
    counted.trans (if_pos ((T.exceeded_iff e').2 ⟨a, allow, past⟩))
  have given : (T.failRecord e').given ≠ none := fun h => by cases h
  have others : (c.counts i n (some (T.failRecord e'))).runningLanes = 0 ↔
      ∀ j e, j ≠ i → hasLane T.lanes j = true → (c.lane j).test ≠ some ⟨e, none⟩ :=
    Port.runningLanes_setLane test running fun e h => by cases h
  refine ⟨fun within => ?_, fun a allow past drop more => ?_, fun a allow past kind st waits last => ?_,
    fun a k tag allow past drop last runs => ?_, fun a allow past kind drop => ?_⟩
  · have stays : ¬ T.exceeded e' = true := fun h => by
      obtain ⟨a, allow, past⟩ := (T.exceeded_iff e').1 h
      rcases within with none | ⟨a', allow', le⟩
      · rw [none] at allow; cases allow
      · rw [Option.some.inj (allow'.symm.trans allow)] at le
        omega
    exact act_runPort_alone _ _ hs event (counted.trans (if_neg stays)) rfl rfl (.inl rfl)
  · obtain ⟨j, e₂, ne, set, rec⟩ := more
    have ctl := (failed a allow past).trans
      (Ctl.laneFailed_goesOn drop fun zero => others.1 zero j e₂ ne set rec)
    exact act_runPort_alone _ _ hs event ctl rfl rfl (.inl rfl)
  · have ctl := (failed a allow past).trans
      (Ctl.laneFailed_endsBringUp kind (others.2 fun j e₂ ne set => last j e₂ ne set))
    have waits' : WaitsForResult (c.counts i n (some (T.failRecord e'))) := waits.of_neg rfl fun j => by
      rw [Port.counts, Port.lane_setLane_ite]
      split_ifs with own
      · rw [own]
      · rfl
    obtain ⟨t, answer, confirms, tested, lanes, only, lines⟩ := act_runPort_confirms
      (eff := fun s => s.runPort p (Ctl.countErrors i n)) _ hs event ctl waits' test
      (fun h => PortState.noConfusion (st.symm.trans h)) rfl rfl
    refine ⟨t, answer, confirms, tested, ?_, fun j ne => ?_, only, lines⟩
    · rw [lanes, Ctl.start_port, Port.counts, Port.lane_setLane]
      rfl
    · rw [lanes, Ctl.start_port, Port.counts, Port.lane_setLane_of_ne _ _ _ _ ne]
  · obtain ⟨-, kind, -⟩ := id runs
    have ctl := (failed a allow past).trans (Ctl.laneFailed_endsLaneTest kind drop (others.2 last))
    exact act_effect hs event (fun _ _ h => h)
      (State.failsLast (s := { s with out := [] }) rfl given ctl last runs)
  · have ctl := (failed a allow past).trans (Ctl.laneFailed_drops kind drop)
    exact act_effect hs event (fun _ _ h => h)
      (State.failsDropping (s := { s with out := [] }) rfl given ctl test kind running)

end Sys2Proof.Machine


/-!
# Lock lost in an attempt (R35, R97, R102, R105, R109, R110, R121, R124)
-/

namespace Sys2Proof.Machine

/-! ## The lane that has lost lock (R35, R121) -/

/-- The port whose lane has lost lock: the lane's running test has ended with LOST, and it is FAILED. -/
def Port.loseLane (i : LaneNo) (c : Port) : Port :=
  c.setLane i { (c.loseRunning i).lane i with st := .failed, rx := .hunt }

section
variable {c : Port} {i : LaneNo}

/-- A lane that ran in the port's test gets LOST with the N of the moment (R121). -/
theorem Port.loseLane_running {T : PortTest} {e : Nat} (runs : c.Runs T i e) : c.loseLane i = c.setLane i { c.lane i with
    st := .failed, rx := .hunt
    test := some ⟨e, some ⟨.lost, T.grade.bitsPerMs * T.elapsed, demonstrated e (T.grade.bitsPerMs * T.elapsed),
      false⟩⟩ } := by
  obtain ⟨test, running, -⟩ := id runs
  unfold Port.loseLane Port.loseRunning
  rw [Port.runningTest_eq test running, Port.runningRecord_eq_some.2 ⟨T, e, rfl, runs⟩]
  dsimp only
  rw [Port.modLane, Port.lane_setLane]
  rfl

/-- A lane without a running test fails and keeps its record. -/
theorem Port.loseLane_idle (idle : ∀ T e, ¬ c.Runs T i e) :
    c.loseLane i = c.setLane i { c.lane i with st := .failed, rx := .hunt } := by
  unfold Port.loseLane Port.loseRunning
  rw [Port.runningRecord_eq_none.2 idle]
  cases c.runningTest <;> rfl

/-- A lock lost changes the lane's state, receiver and test record alone, and the lane runs no longer. -/
theorem Port.loseLane_eq (c : Port) (i : LaneNo) :
    (∃ test, c.loseLane i = c.setLane i { c.lane i with st := .failed, rx := .hunt, test := test }) ∧
    ∀ T e, ¬ (c.loseLane i).Runs T i e := by
  by_cases runs : ∃ T e, c.Runs T i e
  · obtain ⟨T, e, runs⟩ := runs
    rw [Port.loseLane_running runs]
    refine ⟨⟨_, rfl⟩, ?_⟩
    rintro T' e' ⟨-, -, -, rec⟩
    rw [Port.lane_setLane] at rec
    cases rec
  · rw [Port.loseLane_idle fun T e h => runs ⟨T, e, h⟩]
    refine ⟨⟨_, rfl⟩, ?_⟩
    rintro T e ⟨test, on, set, rec⟩
    rw [Port.lane_setLane] at rec
    exact runs ⟨T, e, test, on, set, rec⟩

theorem Port.loseLane_other {j : LaneNo} (ne : j ≠ i) : (c.loseLane i).lane j = c.lane j :=
  Port.lane_setLane_of_ne _ _ _ _ ne

theorem Port.loseLane_st (c : Port) (i : LaneNo) (j : LaneNo) :
    ((c.loseLane i).lane j).st = if j = i then .failed else (c.lane j).st := by
  obtain ⟨⟨test, lost⟩, -⟩ := c.loseLane_eq i
  rw [lost, Port.lane_setLane_ite]
  split_ifs <;> rfl

/-- The records heard stand. -/
theorem Port.loseLane_neg (c : Port) (i : LaneNo) (j : LaneNo) : ((c.loseLane i).lane j).neg = (c.lane j).neg := by
  obtain ⟨⟨test, lost⟩, -⟩ := c.loseLane_eq i
  rw [lost, Port.lane_setLane_ite]
  split_ifs with own
  · rw [own]
  · rfl

/-- The other lanes run on. -/
theorem Port.runningLanes_loseLane : (c.loseLane i).runningLanes = 0 ↔ ∀ T j e, j ≠ i → ¬ c.Runs T j e := by
  rw [Port.runningLanes_eq_zero]
  refine ⟨fun none T j e ne runs => none T j e ((Port.runs_setLane ne).2 runs), fun none T j e runs => ?_⟩
  by_cases ne : j = i
  · rw [ne] at runs
    exact (c.loseLane_eq i).2 T e runs
  · exact none T j e ne ((Port.runs_setLane ne).1 runs)

/-- The port in the middle of the event: its lane has lost lock, and the front end is QUIET. -/
def Ctl.lost (self : PortNo) (i : LaneNo) (c : Port) : Ctl := ⟨c.loseLane i, 0, [.frontEnd self i .quiet], none⟩

theorem Ctl.command_of_ne (self : PortNo) {cmd : LaneCmd} (x : Ctl) (h : (x.port.lane i).st ≠ cmd.names) :
    x.command self i cmd = { x with
      port := x.port.setLane i ((x.port.lane i).take cmd)
      out := x.out ++ [.frontEnd self i ((x.port.lane i).frontEnd cmd)] } := if_neg h

theorem PortState.inAttempt_iff (st : PortState) : st.inAttempt = true ↔ st = .train ∨ st = .qualify ∨ st = .confirm := by
  cases st <;> decide

/-- The end of a lane's test by a lock lost changes the test record alone. -/
theorem Port.loseRunning_eq (c : Port) (i : LaneNo) :
    ∃ test, c.loseRunning i = c.setLane i { c.lane i with test := test } := by
  have same : c = c.setLane i (c.lane i) := by simp [Port.setLane, Port.lane]
  unfold Port.loseRunning
  split
  · exact ⟨_, rfl⟩
  · exact ⟨(c.lane i).test, same⟩

/-- The event of a lock lost on a LOCKED lane, before the port looks at it. -/
theorem Ctl.loseLock_fails (self : PortNo) (locked : (c.lane i).st = .locked) :
    ((Ctl.start c).mod fun p => p.loseRunning i).command self i .failed = Ctl.lost self i c := by
  obtain ⟨test, ends⟩ := c.loseRunning_eq i
  have st : ((c.loseRunning i).lane i).st = .locked := by rw [ends, Port.lane_setLane]; exact locked
  rw [Ctl.command_of_ne self _ (by
    show ((c.loseRunning i).lane i).st ≠ .failed
    rw [st]; decide)]
  unfold Ctl.lost Port.loseLane
  rw [Ctl.mod_port, Ctl.start_port, ends, Port.setLane_setLane]
  rfl

/-- The event of a lock lost on a LOCKED lane: the port looks at it when the lane belongs to an attempt (R109). -/
theorem Ctl.loseLock_start (env : Env) (locked : (c.lane i).st = .locked) : (Ctl.start c).loseLock i env =
    if c.st.inAttempt ∧ hasLane c.laneSet i then (Ctl.lost env.self i c).lockLossInAttempt env
    else Ctl.lost env.self i c := by
  unfold Ctl.loseLock
  dsimp only
  rw [Ctl.loseLock_fails env.self locked]
  rfl

end

/-! ## What the port makes of it (R102, R109, R124) -/

section
variable {env : Env} {x : Ctl}

/-- A set lane is still LOCKED or TRAINING. -/
def Port.HasLanes (c : Port) : Prop :=
  ∃ j, hasLane c.laneSet j = true ∧ ((c.lane j).st = .locked ∨ (c.lane j).st = .training)

theorem Port.hasLanes_iff (c : Port) : ¬ c.HasLanes ↔ c.setIn .locked = 0 ∧ c.setIn .training = 0 := by
  rw [Port.setIn_eq_zero, Port.setIn_eq_zero]
  refine ⟨fun none => ⟨fun j set st => none ⟨j, set, .inl st⟩, fun j set st => none ⟨j, set, .inr st⟩⟩, ?_⟩
  rintro ⟨locked, training⟩ ⟨j, set, st | st⟩
  · exact locked j set st
  · exact training j set st

theorem Ctl.lockLoss_train (some : x.port.HasLanes) (st : x.port.st = .train) :
    x.lockLossInAttempt env = x.checkTrain env := by
  refine (if_neg fun none => (x.port.hasLanes_iff).2 none some).trans ?_
  rw [st]

theorem Ctl.lockLoss_qualify (some : x.port.HasLanes) (st : x.port.st = .qualify) :
    x.lockLossInAttempt env = if x.port.runningLanes = 0 then x.bringUpOver env else x := by
  refine (if_neg fun none => (x.port.hasLanes_iff).2 none some).trans ?_
  rw [st]

theorem Ctl.lockLoss_confirm (some : x.port.HasLanes) (st : x.port.st = .confirm) : x.lockLossInAttempt env = x := by
  refine (if_neg fun none => (x.port.hasLanes_iff).2 none some).trans ?_
  rw [st]

/-- The decision of the port has closed the attempt already (R109). -/
abbrev Port.HasDecided (c : Port) : Prop := c.st = .confirm ∧ (c.phase = .retry ∨ c.phase = .heldWord)

theorem Ctl.lockLoss_decided (none : ¬ x.port.HasLanes) (decided : x.port.HasDecided) (role : x.port.role ≠ .follow) :
    x.lockLossInAttempt env = x.burstDone env := by
  obtain ⟨st, phase⟩ := decided
  exact (if_pos ((x.port.hasLanes_iff).1 none)).trans (if_pos ⟨st, role, phase⟩)

theorem Ctl.lockLoss_fails (none : ¬ x.port.HasLanes) (open' : x.port.role = .follow ∨ ¬ x.port.HasDecided) :
    x.lockLossInAttempt env = x.attemptFailed env := by
  refine (if_pos ((x.port.hasLanes_iff).1 none)).trans (if_neg ?_)
  rintro ⟨st, role, phase⟩
  exact open'.elim role fun h => h ⟨st, phase⟩

theorem Ctl.attemptFailed_follow (role : x.port.role = .follow) : x.attemptFailed env = x.enterSignal env := by
  unfold Ctl.attemptFailed
  rw [role]

theorem Ctl.attemptFailed_lead (role : x.port.role = .lead ∨ x.port.role = .self) :
    x.attemptFailed env = (x.mod fun p => p.closeFailed 0).enterAgreeLead env := by
  unfold Ctl.attemptFailed
  rcases role with role | role <;> rw [role]

end

/-! ## Agreement looks at the records of the lanes alone (R93, R96, R97) -/

/-- A port with other lane records. -/
def Port.withLanes (l : Vector Lane 4) (c : Port) : Port := { c with lanes := l }

section
variable {c : Port} {l : Vector Lane 4}

theorem Port.common_withLanes (neg : ∀ j, ((c.withLanes l).lane j).neg = (c.lane j).neg) :
    (c.withLanes l).commonGrades = c.commonGrades ∧ (c.withLanes l).commonWidths = c.commonWidths := by
  have far : (c.withLanes l).farCaps = c.farCaps := Port.farCaps_congr rfl rfl rfl rfl rfl neg
  unfold Port.commonGrades Port.commonWidths
  rw [far]
  exact ⟨rfl, rfl⟩

theorem Port.computeCaps_withLanes : (c.withLanes l).computeCaps = c.computeCaps.withLanes l := by
  obtain ⟨grades, widths⟩ := Port.computeCaps_congr (c := c) (d := c.withLanes l) rfl rfl rfl rfl
  rw [Port.computeCaps_eq, Port.computeCaps_eq c, grades, widths]
  rfl

theorem Port.common_computeCaps_withLanes (neg : ∀ j, ((c.withLanes l).lane j).neg = (c.lane j).neg) :
    (c.computeCaps.withLanes l).commonGrades = c.computeCaps.commonGrades ∧
    (c.computeCaps.withLanes l).commonWidths = c.computeCaps.commonWidths :=
  Port.common_withLanes fun j => by rw [Port.computeCaps_eq c]; exact neg j

theorem Port.closeFailed_withLanes (neg : ∀ j, ((c.withLanes l).lane j).neg = (c.lane j).neg) (G : LaneSet) :
    (c.withLanes l).closeFailed G = (c.closeFailed G).withLanes l := by
  obtain ⟨grades, -⟩ := Port.common_withLanes neg
  have found : ((c.withLanes l).agreed.map Grade.num).getD 0 = (c.agreed.map Grade.num).getD 0 := rfl
  unfold Port.closeFailed
  rw [grades, found]
  cases highestUpTo c.commonGrades ((c.agreed.map Grade.num).getD 0 - 1) <;> rfl

theorem Port.closeFailed_keeps (c : Port) (G : LaneSet) : (c.closeFailed G).st = c.st ∧ (c.closeFailed G).role = c.role ∧
    ∀ j, (c.closeFailed G).lane j = c.lane j := by
  unfold Port.closeFailed
  split <;> exact ⟨rfl, rfl, fun _ => rfl⟩

theorem LeadAgrees.of_withLanes {cfg : ConfigCopy} {d : Port} (neg : ∀ j, ((c.withLanes l).lane j).neg = (c.lane j).neg)
    (h : LeadAgrees cfg (c.withLanes l) d) : LeadAgrees cfg c d := by
  obtain ⟨grades, widths⟩ := Port.common_computeCaps_withLanes neg
  unfold LeadAgrees AgreementHeld IsProposing at *
  rw [Port.computeCaps_withLanes] at h
  simp only [grades, widths] at h
  exact h

theorem SelfAgrees.of_withLanes {cfg : ConfigCopy} {d : Port} (neg : ∀ j, ((c.withLanes l).lane j).neg = (c.lane j).neg)
    (h : SelfAgrees cfg (c.withLanes l) d) : SelfAgrees cfg c d := by
  obtain ⟨grades, widths⟩ := Port.common_computeCaps_withLanes neg
  unfold SelfAgrees AgreementHeld at *
  rw [Port.computeCaps_withLanes] at h
  simp only [grades, widths] at h
  exact h

end

/-! ## The event at its port -/

section
variable {s : State} {p : PortNo} {i : LaneNo}

/-- LOCK_LOST on a LOCKED lane is one event of its port. -/
theorem lockLost_event (locked : ((s.port p).lane i).st = .locked) : ∃ eff, exec (.lockLost p i) s = act s eff ∧
    eff { s with out := [] } = State.runPort { s with out := [] } p (Ctl.loseLock i) := by
  refine ⟨_, exec_lockLost p i s, ?_⟩
  have st : ((State.port { s with out := [] } p).lane i).st = .locked := locked
  simp only [st]

/-- Another set lane keeps the attempt going as it is: TRAINING in TRAIN, LOCKED in CONFIRM, running in QUALIFY. -/
def Port.WaitsForLane (c : Port) (i : LaneNo) : Prop :=
  ∃ j, j ≠ i ∧ hasLane c.laneSet j = true ∧ (c.st = .train ∧ (c.lane j).st = .training ∨
    c.st = .confirm ∧ (c.lane j).st = .locked ∨
    c.st = .qualify ∧ (c.lane j).st = .locked ∧ ∃ T e, c.Runs T j e)

/-- A lock lost on a set lane in TRAIN, QUALIFY or CONFIRM. -/
theorem State.loseLock_attempt (locked : ((s.port p).lane i).st = .locked)
    (attempt : (s.port p).st = .train ∨ (s.port p).st = .qualify ∨ (s.port p).st = .confirm)
    (set : hasLane (s.port p).laneSet i = true) :
    s.ctl p (Ctl.loseLock i) = (Ctl.lost p i (s.port p)).lockLossInAttempt (s.env p) :=
  (Ctl.loseLock_start (s.env p) locked).trans (if_pos ⟨(PortState.inAttempt_iff _).2 attempt, set⟩)

/-- A lock lost that ends no attempt leaves the port as it is, its lane aside (R102, R109, R124). -/
theorem State.loseLock_goesOn (locked : ((s.port p).lane i).st = .locked)
    (waits : ¬ ((s.port p).st = .train ∨ (s.port p).st = .qualify ∨ (s.port p).st = .confirm) ∨
      hasLane (s.port p).laneSet i = false ∨ (s.port p).WaitsForLane i) :
    s.ctl p (Ctl.loseLock i) = Ctl.lost p i (s.port p) := by
  by_cases acts : (s.port p).st.inAttempt = true ∧ hasLane (s.port p).laneSet i = true
  · obtain ⟨attempt, set⟩ := acts
    have attempting := (PortState.inAttempt_iff _).1 attempt
    rw [State.loseLock_attempt locked attempting set]
    rcases waits with other | outside | ⟨j, ne, lane, waits⟩
    · exact absurd attempting other
    · rw [set] at outside; cases outside
    have same : ((Ctl.lost p i (s.port p)).port.lane j).st = ((s.port p).lane j).st :=
      congrArg Lane.st (Port.loseLane_other ne)
    rcases waits with ⟨st, training⟩ | ⟨st, on⟩ | ⟨st, on, T, e, runs⟩
    · rw [Ctl.lockLoss_train ⟨j, lane, .inr (same.trans training)⟩ st]
      exact Ctl.checkTrain_waits _ (.inr ⟨j, lane, same.trans training⟩)
    · exact Ctl.lockLoss_confirm ⟨j, lane, .inl (same.trans on)⟩ st
    · rw [Ctl.lockLoss_qualify ⟨j, lane, .inl (same.trans on)⟩ st]
      exact if_neg fun zero => Port.runningLanes_loseLane.1 zero T j e ne runs
  · exact (Ctl.loseLock_start (s.env p) locked).trans (if_neg acts)

/-- A lead or SELF port is no follower. -/
theorem Role.ne_follow {r : Role} (h : r = .lead ∨ r = .self) : r ≠ .follow := by
  rcases h with rfl | rfl <;> decide

/-- With no set lane left the attempt has failed, unless the port's decision has closed it already (R109). -/
theorem State.loseLock_last (locked : ((s.port p).lane i).st = .locked)
    (attempt : (s.port p).st = .train ∨ (s.port p).st = .qualify ∨ (s.port p).st = .confirm)
    (set : hasLane (s.port p).laneSet i = true)
    (none : ∀ j, j ≠ i → hasLane (s.port p).laneSet j = true →
      ((s.port p).lane j).st ≠ .locked ∧ ((s.port p).lane j).st ≠ .training) :
    ((s.port p).role = .follow ∨ ¬ (s.port p).HasDecided →
      s.ctl p (Ctl.loseLock i) = (Ctl.lost p i (s.port p)).attemptFailed (s.env p)) ∧
    ((s.port p).HasDecided → (s.port p).role ≠ .follow →
      s.ctl p (Ctl.loseLock i) = (Ctl.lost p i (s.port p)).burstDone (s.env p)) := by
  have empty : ¬ (Ctl.lost p i (s.port p)).port.HasLanes := by
    rintro ⟨j, lane, on⟩
    change ((Port.loseLane i (s.port p)).lane j).st = .locked ∨ ((Port.loseLane i (s.port p)).lane j).st = .training at on
    rw [Port.loseLane_st] at on
    split_ifs at on with own
    · simp at on
    · exact on.elim (none j own lane).1 (none j own lane).2
  have ctl := State.loseLock_attempt locked attempt set
  exact ⟨fun fails => ctl.trans (Ctl.lockLoss_fails empty fails),
    fun decided role => ctl.trans (Ctl.lockLoss_decided empty decided role)⟩

/-- A follower without a set lane begins again from SIGNAL (R109). -/
theorem State.loseLock_restarts
    (ctl : s.ctl p (Ctl.loseLock i) = (Ctl.lost p i (s.port p)).attemptFailed (s.env p))
    (role : (s.port p).role = .follow) (st : (s.port p).st ≠ .active) :
    IsSignal s.we.cfg (s.port p) ((s.runPort p (Ctl.loseLock i)).port p) ∧
    (s.runPort p (Ctl.loseLock i)).rep = s.rep ∧ PortEventFrame p s (s.runPort p (Ctl.loseLock i)) := by
  have entered := Ctl.enterSignal_is (Ctl.lost p i (s.port p)) (s.env p)
  have kinds : ((Ctl.lost p i (s.port p)).enterSignal (s.env p)).kinds = 0 := by
    rw [Ctl.enterSignal_kinds, Ctl.leavingMark_of_ne st, BitVec.or_zero]
    rfl
  rw [Ctl.attemptFailed_follow role] at ctl
  obtain ⟨port, frame, silent, -⟩ := State.runPort_answer s p _ _ ctl fun h => by rw [entered.1] at h; cases h
  rw [← port] at entered
  exact ⟨entered, silent kinds, frame⟩

/-- An event that has a lead or SELF port enter AGREE, whatever became of its lanes but the records heard. -/
theorem State.runPort_agreesLead_withLanes {f : Env → Ctl → Ctl} {x : Ctl} {d : Port} {l : Vector Lane 4}
    (ctl : s.ctl p f = x.enterAgreeLead (s.env p)) (kinds : x.kinds = 0) (port : x.port = d.withLanes l)
    (neg : ∀ j, ((d.withLanes l).lane j).neg = (d.lane j).neg) (st : d.st ≠ .active) :
    (d.role ≠ .self → LeadEntersAgree p d s (s.runPort p f)) ∧
    (d.role = .self → SelfEntersAgree p d s (s.runPort p f)) := by
  obtain ⟨lead, self⟩ := State.runPort_agreesLead s p f x ctl kinds (by rw [port]; exact st)
  rw [port] at lead self
  refine ⟨fun role => ?_, fun role => ?_⟩
  · obtain ⟨agrees, handed⟩ := lead role
    exact ⟨agrees.of_withLanes neg, handed⟩
  · obtain ⟨agrees, handed⟩ := self role
    exact ⟨agrees.of_withLanes neg, handed⟩

/-- The last set lane has lost lock, and no decision stands: the attempt is closed (R97, R109). -/
theorem State.loseLock_closes
    (ctl : s.ctl p (Ctl.loseLock i) = (Ctl.lost p i (s.port p)).attemptFailed (s.env p))
    (role : (s.port p).role = .lead ∨ (s.port p).role = .self) (st : (s.port p).st ≠ .active) :
    ((s.port p).role = .lead →
      LeadEntersAgree p ((s.port p).closeFailed 0) s (s.runPort p (Ctl.loseLock i))) ∧
    ((s.port p).role = .self →
      SelfEntersAgree p ((s.port p).closeFailed 0) s (s.runPort p (Ctl.loseLock i))) := by
  have neg := (s.port p).loseLane_neg i
  obtain ⟨sameSt, sameRole, sameLane⟩ := (s.port p).closeFailed_keeps 0
  have port : ((Ctl.lost p i (s.port p)).mod fun c => c.closeFailed 0).port = ((s.port p).closeFailed 0).withLanes
      ((s.port p).loseLane i).lanes := Port.closeFailed_withLanes (c := s.port p) neg 0
  rw [Ctl.attemptFailed_lead role] at ctl
  obtain ⟨lead, self⟩ := State.runPort_agreesLead_withLanes ctl rfl port
    (fun j => by rw [sameLane]; exact neg j) (by rw [sameSt]; exact st)
  rw [sameRole] at lead self
  exact ⟨fun h => lead (by rw [h]; decide), self⟩

/-- The RETRY burst of a port without a set lane ends at once (R109, R110). -/
theorem State.loseLock_retries
    (ctl : s.ctl p (Ctl.loseLock i) = (Ctl.lost p i (s.port p)).burstDone (s.env p)) (st : (s.port p).st = .confirm)
    (phase : (s.port p).phase = .retry) :
    ((s.port p).role = .lead → LeadEntersAgree p (s.port p) s (s.runPort p (Ctl.loseLock i))) ∧
    ((s.port p).role = .self → SelfEntersAgree p (s.port p) s (s.runPort p (Ctl.loseLock i))) := by
  rw [Ctl.burstDone_retry (c := Ctl.lost p i (s.port p)) st phase] at ctl
  have port : (Ctl.lost p i (s.port p)).port = (s.port p).withLanes ((s.port p).loseLane i).lanes := rfl
  obtain ⟨lead, self⟩ := State.runPort_agreesLead_withLanes ctl rfl port ((s.port p).loseLane_neg i)
    fun h => PortState.noConfusion (st.symm.trans h)
  exact ⟨fun role => lead (by rw [role]; decide), self⟩

/-- The HELD burst of a port without a set lane ends at once (R109). -/
theorem State.loseLock_holds
    (ctl : s.ctl p (Ctl.loseLock i) = (Ctl.lost p i (s.port p)).burstDone (s.env p)) (st : (s.port p).st = .confirm)
    (phase : (s.port p).phase = .heldWord) :
    IsHeld (s.port p).phaseReason (s.port p) ((s.runPort p (Ctl.loseLock i)).port p) ∧
    Reported p 2 s (s.runPort p (Ctl.loseLock i)) ∧ PortEventFrame p s (s.runPort p (Ctl.loseLock i)) := by
  have held : s.ctl p (Ctl.loseLock i) = (Ctl.lost p i (s.port p)).enterHeld p (s.port p).phaseReason :=
    ctl.trans (Ctl.burstDone_held (c := Ctl.lost p i (s.port p)) st phase)
  obtain ⟨-, entered, rest⟩ := State.runPort_entersHeld s p _ held rfl
  exact ⟨entered, rest⟩

end

/-- What holds between a state and the state an event of a port leads to holds of the command's answer, when it does
not speak of what either has sent. -/
theorem act_runPort_answer {s : State} {p : PortNo} {f : Env → Ctl → Ctl} {eff : State → State}
    (P : State → State → Prop) (hs : s.hold = .released)
    (event : eff { s with out := [] } = State.runPort { s with out := [] } p f)
    (before : ∀ u, P { s with out := [] } u → P s u) (after : ∀ u o, P s u → P s { u with out := o })
    (holds : P { s with out := [] } (State.runPort { s with out := [] } p f)) :
    ∃ t, act s eff = .next t ∧ P s t :=
  act_effect hs event after (before _ holds)

/-- What LOCK_LOST on the last set lane answers, by the port's role and by the decision it may have taken (R109, R110). -/
theorem lockLost_last {s : State} {p : PortNo} {i : LaneNo} {eff : State → State} (hs : s.hold = .released)
    (locked : ((s.port p).lane i).st = .locked)
    (event : eff { s with out := [] } = State.runPort { s with out := [] } p (Ctl.loseLock i))
    (attempt : (s.port p).st = .train ∨ (s.port p).st = .qualify ∨ (s.port p).st = .confirm)
    (set : hasLane (s.port p).laneSet i = true)
    (none : ∀ j, j ≠ i → hasLane (s.port p).laneSet j = true →
      ((s.port p).lane j).st ≠ .locked ∧ ((s.port p).lane j).st ≠ .training) :
    ((s.port p).role = .follow → ∃ t, act s eff = .next t ∧ IsSignal s.we.cfg (s.port p) (t.port p) ∧
      t.rep = s.rep ∧ PortEventFrame p s t) ∧
    ((s.port p).role = .lead → ¬ (s.port p).HasDecided →
      ∃ t, act s eff = .next t ∧ LeadEntersAgree p ((s.port p).closeFailed 0) s t) ∧
    ((s.port p).role = .self → ¬ (s.port p).HasDecided →
      ∃ t, act s eff = .next t ∧ SelfEntersAgree p ((s.port p).closeFailed 0) s t) ∧
    ((s.port p).role = .lead → (s.port p).HasDecided → (s.port p).phase = .retry →
      ∃ t, act s eff = .next t ∧ LeadEntersAgree p (s.port p) s t) ∧
    ((s.port p).role = .self → (s.port p).HasDecided → (s.port p).phase = .retry →
      ∃ t, act s eff = .next t ∧ SelfEntersAgree p (s.port p) s t) ∧
    ((s.port p).role = .lead ∨ (s.port p).role = .self → (s.port p).HasDecided → (s.port p).phase = .heldWord →
      ∃ t, act s eff = .next t ∧ IsHeld (s.port p).phaseReason (s.port p) (t.port p) ∧ Reported p 2 s t ∧
        PortEventFrame p s t) := by
  have inactive : (s.port p).st ≠ .active := fun h => by simp [h] at attempt
  obtain ⟨fails, answers⟩ := State.loseLock_last (s := { s with out := [] }) locked attempt set none
  refine ⟨fun role => ?_, fun role undecided => ?_, fun role undecided => ?_, fun role done phase => ?_,
    fun role done phase => ?_, fun role done phase => ?_⟩
  · exact act_runPort_answer (fun s t => IsSignal s.we.cfg (s.port p) (t.port p) ∧ t.rep = s.rep ∧ PortEventFrame p s t)
      hs event (fun _ h => h) (fun _ _ h => h) (State.loseLock_restarts (fails (.inl role)) role inactive)
  · exact act_runPort_answer (fun s t => LeadEntersAgree p ((s.port p).closeFailed 0) s t) hs event (fun _ h => h)
      (fun _ _ h => h) ((State.loseLock_closes (fails (.inr undecided)) (.inl role) inactive).1 role)
  · exact act_runPort_answer (fun s t => SelfEntersAgree p ((s.port p).closeFailed 0) s t) hs event (fun _ h => h)
      (fun _ _ h => h) ((State.loseLock_closes (fails (.inr undecided)) (.inr role) inactive).2 role)
  · exact act_runPort_answer (fun s t => LeadEntersAgree p (s.port p) s t) hs event (fun _ h => h) (fun _ _ h => h)
      ((State.loseLock_retries (answers done (Role.ne_follow (.inl role))) done.1 phase).1 role)
  · exact act_runPort_answer (fun s t => SelfEntersAgree p (s.port p) s t) hs event (fun _ h => h) (fun _ _ h => h)
      ((State.loseLock_retries (answers done (Role.ne_follow (.inr role))) done.1 phase).2 role)
  · exact act_runPort_answer (fun s t => IsHeld (s.port p).phaseReason (s.port p) (t.port p) ∧ Reported p 2 s t ∧
      PortEventFrame p s t) hs event (fun _ h => h) (fun _ _ h => h)
      (State.loseLock_holds (answers done (Role.ne_follow role)) done.1 phase)

/-- Settles O15: lock lost on a LOCKED lane, by what the lane's test and the other set lanes leave the port to wait for,
and with none left by the port's role and decision. -/
theorem lockLostInAnAttemptFailsTheLane : Obligations.LockLostInAnAttemptFailsTheLane := by
  intro p i s hs locked c l
  obtain ⟨eff, command, event⟩ := lockLost_event locked
  rw [command]
  have attempt := State.loseLock_attempt (s := s) locked
  have goesOn := State.loseLock_goesOn (s := s) locked
  have other : ∀ j, j ≠ i → ((c.loseLane i).lane j).st = (c.lane j).st := fun j ne =>
    congrArg Lane.st (Port.loseLane_other ne)
  refine ⟨fun T r st test on set record given waits => ?_, fun T e st test on set lane record last some waits => ?_,
    fun idle => ⟨fun waits => ?_, fun g st lane agreed trained some => ?_⟩, fun attempting lane none => ?_⟩
  · obtain ⟨e, verdict⟩ := r
    subst given
    obtain ⟨j, e₂, ne, jset, on', jlane, jrec⟩ := waits
    have ctl := goesOn (.inr (.inr ⟨j, ne, jset, .inr (.inr ⟨st, on', T, e₂, test, on, jlane, jrec⟩)⟩))
    obtain ⟨t, answer, port, only, lines⟩ := act_runPort_alone _ _ hs event ctl rfl rfl (.inl rfl)
    exact ⟨t, answer, port.trans (Port.loseLane_running ⟨test, on, set, record⟩), only, lines⟩
  · obtain ⟨j, ne, jset, on'⟩ := some
    have ctl := attempt (.inr (.inl st)) lane
    have none : (Ctl.lost p i c).port.runningLanes = 0 := Port.runningLanes_loseLane.2 <| by
      rintro T' k e₂ ne ⟨test', -, set', rec⟩
      rw [← Option.some.inj (test.symm.trans test')] at set'
      exact last k ne set' e₂ rec
    rw [Ctl.lockLoss_qualify ⟨j, jset, .inl ((other j ne).trans on')⟩ st, if_pos none] at ctl
    obtain ⟨t, answer, confirms, tested, lanes, only, lines⟩ := act_runPort_confirms _ hs event ctl
      (waits.of_neg rfl (c.loseLane_neg i)) test (fun h => PortState.noConfusion (st.symm.trans h)) rfl rfl
    refine ⟨t, answer, confirms, tested, ?_, fun k ne => (lanes k).trans (Port.loseLane_other ne), only, lines⟩
    refine (lanes i).trans ?_
    rw [Ctl.lost, Port.loseLane_running ⟨test, on, set, record⟩, Port.lane_setLane]
  · obtain ⟨t, answer, port, only, lines⟩ := act_runPort_alone _ _ hs event (goesOn waits) rfl rfl (.inl rfl)
    refine ⟨t, answer, port.trans (Port.loseLane_idle ?_), only, lines⟩
    rintro T e ⟨test, on, set, record⟩
    exact idle T e test on set record
  · obtain ⟨j, ne, jset, on⟩ := some
    have ctl := attempt (.inl st) lane
    have untrained : ∀ k, hasLane c.laneSet k = true → ((c.loseLane i).lane k).st ≠ .training := fun k kset => by
      rw [Port.loseLane_st]
      split_ifs with own
      · decide
      · exact trained k own kset
    have lockedSet : ∃ j, hasLane c.laneSet j = true ∧ ((c.loseLane i).lane j).st = .locked :=
      ⟨j, jset, (other j ne).trans on⟩
    rw [Ctl.lockLoss_train ⟨j, jset, .inl ((other j ne).trans on)⟩ st, Ctl.checkTrain_qualifies _ st untrained lockedSet] at ctl
    obtain ⟨t, answer, qualifies, states, only, lines⟩ := act_runPort_qualifies _ hs event ctl agreed
      (fun h => PortState.noConfusion (st.symm.trans h)) rfl rfl
    have tests : (fun j => hasLane c.laneSet j && ((c.loseLane i).lane j).st = .locked) =
        fun j => hasLane c.laneSet j && j ≠ i && (c.lane j).st = .locked := by
      funext k
      rw [Port.loseLane_st]
      by_cases ne : k = i <;> simp [ne]
    refine ⟨t, answer, ?_, fun k => (states k).trans (c.loseLane_st i k), only, lines⟩
    rw [← tests]
    exact qualifies
  · exact lockLost_last hs locked event attempting lane none

end Sys2Proof.Machine


/-!
# The plan cache's entries and the report engine's records (R58, R59, R62, R173, R174, R176, R178)

What the rules promise of each table, said of the table alone, and each operation on a table shown to keep it.
-/

namespace Sys2Proof.Machine

/-! ## The plan cache (R58, R59, R62) -/

/-- R58 at the entries: at most 8, never two for one port, all valid. -/
def EntriesWellFormed (l : List CacheEntry) : Prop :=
  l.length ≤ 8 ∧ (l.map CacheEntry.port).Nodup ∧ ∀ e ∈ l, planValid e.bytes.toList = true

theorem cacheWellFormed_iff (s : State) : CacheWellFormed s ↔ EntriesWellFormed s.cache.entries := Iff.rfl

theorem EntriesWellFormed.nil : EntriesWellFormed [] := by simp [EntriesWellFormed]

theorem EntriesWellFormed.take {l : List CacheEntry} (hnodup : (l.map CacheEntry.port).Nodup)
    (hvalid : ∀ e ∈ l, planValid e.bytes.toList = true) : EntriesWellFormed (l.take 8) := by
  refine ⟨List.length_take_le 8 l, ?_, fun e he => hvalid e (List.mem_of_mem_take he)⟩
  rw [List.map_take]
  exact hnodup.sublist (List.take_sublist _ _)

/-- A valid entry put in front of the entries of the other ports: one for a port, all valid. -/
theorem EntriesWellFormed.front {l : List CacheEntry} {e : CacheEntry} (h : EntriesWellFormed l)
    (valid : planValid e.bytes.toList = true) :
    ((e :: l.filter fun d => d.port ≠ e.port).map CacheEntry.port).Nodup ∧
    ∀ d ∈ e :: l.filter (fun d => d.port ≠ e.port), planValid d.bytes.toList = true := by
  obtain ⟨-, nodup, all⟩ := h
  refine ⟨?_, fun d hd => ?_⟩
  · rw [List.map_cons, List.nodup_cons]
    exact ⟨by simp, nodup.sublist (List.filter_sublist.map _)⟩
  · rcases List.mem_cons.1 hd with rfl | hd
    · exact valid
    · exact all d (List.mem_of_mem_filter hd)

/-- A fill's entry is placed: the ninth is pushed out (R62). -/
theorem PlanCache.place_wellFormed {c : PlanCache} {e : CacheEntry} (h : EntriesWellFormed c.entries)
    (valid : planValid e.bytes.toList = true) : EntriesWellFormed (c.place e).entries :=
  .take (h.front valid).1 (h.front valid).2

/-- An entry that is found becomes the most recent: none joins and none leaves (R59). -/
theorem PlanCache.touch_wellFormed {c : PlanCache} {e : CacheEntry} (h : EntriesWellFormed c.entries)
    (found : e ∈ c.entries) : EntriesWellFormed (c.touch e).entries := by
  obtain ⟨size, -, all⟩ := id h
  refine ⟨?_, h.front (all e found)⟩
  have fewer : (c.entries.filter fun d => d.port ≠ e.port).length < c.entries.length :=
    List.length_filter_lt_length_iff_exists.2 ⟨e, found, by simp⟩
  exact (Nat.succ_le_of_lt fewer).trans size

/-! ## The records and the report queue (R173, R174, R176) -/

/-- R173 at the report engine: the queue holds each port whose record is not empty, once, and no other; an empty record has
no kinds; counts stay within 255, and a report in flight counts at least one change. -/
def ReportEngine.QueueMatches (r : ReportEngine) : Prop :=
  r.queue.Nodup ∧ (∀ p : PortNo, p ∈ r.queue ↔ r.recs[p].count ≠ 0) ∧
  (∀ p : PortNo, r.recs[p].count = 0 → r.recs[p].kinds = 0) ∧ (∀ p : PortNo, r.recs[p].count ≤ 255) ∧
  ∀ f ∈ r.inflight, 1 ≤ f.count ∧ f.count ≤ 255

theorem reportQueueMatchesRecords_iff (s : State) : ReportQueueMatchesRecords s ↔ s.rep.QueueMatches := Iff.rfl

theorem ReportEngine.initial_matches : ReportEngine.initial.QueueMatches := by
  simp [QueueMatches, initial]

/-- The record of a port after another one, or it, is replaced. -/
theorem recs_set_getElem (v : Vector ReportRec 32) (p q : PortNo) (x : ReportRec) :
    (v.set p x)[q] = if q = p then x else v[q] := by
  by_cases h : q = p
  · subst h; simp
  · have : (p : Nat) ≠ q := fun e => h (Fin.ext e.symm)
    simp [this, h]

/-- What the rules promise does not speak of the writer's phase, its flags and its cursor. -/
theorem ReportEngine.QueueMatches.of_same {r r' : ReportEngine} (h : r.QueueMatches) (recs : r'.recs = r.recs)
    (queue : r'.queue = r.queue) (inflight : ∀ f ∈ r'.inflight, f ∈ r.inflight) : r'.QueueMatches := by
  obtain ⟨nodup, mem, empty, bound, flight⟩ := h
  unfold QueueMatches
  rw [recs, queue]
  exact ⟨nodup, mem, empty, bound, fun f hf => flight f (inflight f hf)⟩

/-- Changes that join a port's record, when the queue then holds that port too (R174, R178). -/
theorem ReportEngine.QueueMatches.join {r : ReportEngine} {p : PortNo} {k : BitVec 5} {n : Nat} {queue : List PortNo}
    (h : r.QueueMatches) (hn : 1 ≤ n) (nodup : queue.Nodup) (mem : ∀ q, q ∈ queue ↔ q = p ∨ q ∈ r.queue) :
    { r with recs := r.recs.set p (r.recs[p].join k n), queue := queue }.QueueMatches := by
  obtain ⟨-, mem', empty, bound, flight⟩ := h
  have joined : (r.recs[p].join k n).count ≠ 0 ∧ (r.recs[p].join k n).count ≤ 255 := by
    simp only [ReportRec.join]; omega
  refine ⟨nodup, fun q => ?_, fun q => ?_, fun q => ?_, flight⟩
  all_goals dsimp only; rw [recs_set_getElem]; split_ifs with hq
  · exact iff_of_true ((mem q).2 (.inl hq)) joined.1
  · rw [mem, mem']; simp [hq]
  · exact fun zero => absurd zero joined.1
  · exact empty q
  · exact joined.2
  · exact bound q

/-- A port whose record is empty joins the queue at any place (R174, R178). -/
theorem ReportEngine.QueueMatches.nodup_insert {r : ReportEngine} {p : PortNo} {before after : List PortNo}
    (h : r.QueueMatches) (queue : r.queue = before ++ after) (empty : r.recs[p].count = 0) :
    (before ++ [p] ++ after).Nodup ∧ ∀ q, q ∈ before ++ [p] ++ after ↔ q = p ∨ q ∈ r.queue := by
  obtain ⟨nodup, mem, -⟩ := h
  have absent : p ∉ r.queue := fun hp => (mem p).1 hp empty
  rw [queue] at nodup absent ⊢
  have perm : (before ++ [p] ++ after).Perm (p :: (before ++ after)) := by
    rw [List.append_assoc]; exact List.perm_middle
  exact ⟨perm.nodup_iff.2 (List.nodup_cons.2 ⟨absent, nodup⟩), fun q => by rw [perm.mem_iff, List.mem_cons]⟩

/-- A port with a record waits in the queue already (R173). -/
theorem ReportEngine.QueueMatches.mem_waiting {r : ReportEngine} {p : PortNo} (h : r.QueueMatches)
    (full : r.recs[p].count ≠ 0) : ∀ q, q ∈ r.queue ↔ q = p ∨ q ∈ r.queue := by
  obtain ⟨-, mem, -⟩ := h
  exact fun q => ⟨.inr, fun hq => hq.elim (fun e => e ▸ (mem p).2 full) id⟩

/-- A change handed over (R174). -/
theorem ReportEngine.withChange_matches {r : ReportEngine} (h : r.QueueMatches) (working : Bool) (p : PortNo)
    (k : BitVec 5) : (r.withChange working p k).QueueMatches := by
  have joined : { r with
      recs := r.recs.set p (r.recs[p].join k 1)
      queue := if r.recs[p].count = 0 then r.queue ++ [p] else r.queue }.QueueMatches := by
    split_ifs with empty
    · obtain ⟨nodup, mem⟩ := h.nodup_insert (before := r.queue) (after := []) (by simp) empty
      rw [List.append_nil] at nodup mem
      exact h.join le_rfl nodup mem
    · exact h.join le_rfl h.1 (h.mem_waiting empty)
  exact joined.of_same rfl rfl fun _ hf => hf

/-- A report written: its record is emptied, its port leaves the queue, and the report is in flight (R176). -/
theorem ReportEngine.QueueMatches.write {r : ReportEngine} {p : PortNo} {rest : List PortNo} (h : r.QueueMatches)
    (queue : r.queue = p :: rest) (index : Nat) :
    { r with
      recs := r.recs.set p (⟨0, 0⟩ : ReportRec), queue := rest
      inflight := r.inflight ++ [(⟨p, r.recs[p].kinds, r.recs[p].count, index⟩ : InFlight)] }.QueueMatches := by
  obtain ⟨nodup, mem, empty, bound, flight⟩ := h
  rw [queue, List.nodup_cons] at nodup
  simp only [queue, List.mem_cons] at mem
  refine ⟨nodup.2, fun q => ?_, fun q => ?_, fun q => ?_, fun f hf => ?_⟩
  · dsimp only
    rw [recs_set_getElem]
    split_ifs with hq
    · subst hq; simpa using nodup.1
    · rw [← mem]; simp [hq]
  · dsimp only
    rw [recs_set_getElem]
    split_ifs
    · exact fun _ => rfl
    · exact empty q
  · dsimp only
    rw [recs_set_getElem]
    split_ifs
    · exact Nat.zero_le _
    · exact bound q
  · rcases List.mem_append.1 hf with hf | hf
    · exact flight f hf
    · obtain rfl := List.mem_singleton.1 hf
      exact ⟨Nat.one_le_iff_ne_zero.2 ((mem p).1 (.inl rfl)), bound p⟩

/-! ## Reports restored (R178) -/

/-- Lost reports go back to their ports, those restored so far at the head of the queue. -/
theorem restoreAll_matches (lost : List InFlight) (head : List PortNo) (r : ReportEngine)
    (h : { r with queue := head ++ r.queue }.QueueMatches) (counts : ∀ f ∈ lost, 1 ≤ f.count) :
    (restoreAll lost head r).QueueMatches := by
  induction lost generalizing head r with
  | nil => exact h
  | cons f fs ih =>
    have count := counts f List.mem_cons_self
    have later : ∀ g ∈ fs, 1 ≤ g.count := fun g hg => counts g (List.mem_cons_of_mem f hg)
    unfold restoreAll
    dsimp only
    refine ih _ _ ?_ later
    by_cases empty : r.recs[f.port].count = 0
    · rw [if_pos empty]
      obtain ⟨nodup, mem⟩ := h.nodup_insert rfl empty
      exact h.join count nodup mem
    · rw [if_neg empty]
      exact h.join count h.1 (h.mem_waiting empty)

/-- The records after lost reports are restored: kinds and counts of all the reports of a port are added (R178). -/
theorem restoreAll_recs (lost : List InFlight) (head : List PortNo) (r : ReportEngine) (p : PortNo)
    (mine : (lost.filter fun f => f.port = p) ≠ []) : (restoreAll lost head r).recs[p] =
      ⟨(lost.filter fun f => f.port = p).foldl (fun k f => k ||| f.kinds) r.recs[p].kinds,
        min (r.recs[p].count + ((lost.filter fun f => f.port = p).map InFlight.count).sum) 255⟩ := by
  induction lost generalizing head r with
  | nil => exact absurd rfl mine
  | cons f fs ih =>
    unfold restoreAll
    dsimp only
    by_cases hf : f.port = p
    · subst hf
      rw [List.filter_cons_of_pos (by simp)]
      by_cases more : (fs.filter fun g => g.port = f.port) = []
      · rw [restoreAll_recs_of_not_mem _ _ _ _ fun g hg e => List.filter_eq_nil_iff.1 more g hg (decide_eq_true e),
          more]
        simp [ReportRec.join]
      · rw [ih _ _ more]
        dsimp only
        rw [recs_set_getElem, if_pos rfl]
        simp only [ReportRec.join, List.foldl_cons, List.map_cons, List.sum_cons]
        congr 1
        omega
    · rw [List.filter_cons_of_neg (by simpa using hf)] at mine ⊢
      rw [ih _ _ mine]
      dsimp only
      rw [recs_set_getElem, if_neg fun e => hf e.symm]

/-- The queue after lost reports are restored: the ports whose records were empty, each once, in the order their reports
were written, ahead of those that waited (R178). -/
theorem restoreAll_queue (lost : List InFlight) (head : List PortNo) (r : ReportEngine)
    (counts : ∀ f ∈ lost, 1 ≤ f.count) : (restoreAll lost head r).queue =
      head ++ ((lost.map InFlight.port).filter fun p => r.recs[p].count = 0).eraseDups ++ r.queue := by
  induction lost generalizing head r with
  | nil => simp [restoreAll]
  | cons f fs ih =>
    have joined : (r.recs[f.port].join f.kinds f.count).count ≠ 0 := by
      have := counts f List.mem_cons_self
      simp only [ReportRec.join]; omega
    unfold restoreAll
    dsimp only
    rw [ih _ _ fun g hg => counts g (List.mem_cons_of_mem f hg)]
    dsimp only
    by_cases empty : r.recs[f.port].count = 0
    · have rest : ((fs.map InFlight.port).filter fun p =>
            ((r.recs.set f.port (r.recs[f.port].join f.kinds f.count))[p]).count = 0) =
          ((fs.map InFlight.port).filter fun p => r.recs[p].count = 0).filter fun p => !(p == f.port) := by
        rw [List.filter_filter]
        refine List.filter_congr fun q _ => ?_
        rw [recs_set_getElem]
        split_ifs with hq
        · subst hq; simpa using joined
        · simp [hq]
      rw [if_pos empty, rest, List.map_cons, List.filter_cons_of_pos (by simpa using empty), List.eraseDups_cons]
      simp
    · have rest : ((fs.map InFlight.port).filter fun p =>
            ((r.recs.set f.port (r.recs[f.port].join f.kinds f.count))[p]).count = 0) =
          (fs.map InFlight.port).filter fun p => r.recs[p].count = 0 := by
        refine List.filter_congr fun q _ => ?_
        rw [recs_set_getElem]
        split_ifs with hq
        · subst hq; exact decide_eq_decide.2 (iff_of_false joined empty)
        · rfl
      rw [if_neg empty, rest, List.map_cons, List.filter_cons_of_neg (by simpa using empty)]

/-- Reports restored as the statements say it (R178). -/
theorem restoreAll_restores (lost : List InFlight) (r : ReportEngine) (counts : ∀ f ∈ lost, 1 ≤ f.count) :
    ReportsRestored lost r (restoreAll lost [] r) := by
  refine ⟨fun p => ⟨fun none => ?_, restoreAll_recs lost [] r p⟩, ?_⟩
  · exact restoreAll_recs_of_not_mem lost [] r p fun f hf e =>
      List.filter_eq_nil_iff.1 none f hf (decide_eq_true e)
  · rw [restoreAll_queue lost [] r counts, List.nil_append]

end Sys2Proof.Machine


/-!
# The cache and the report queue along every command (R58, R61, R62, R173, R174, R176, R178)

What an operation does to the plan cache and to the report engine is said once, as `State.TablesKept`: it keeps each well
formed. Every command is made of such operations.
-/

namespace Sys2Proof.Machine

/-- The cache and the report engine, each by itself, hold on to what the rules promise of them. -/
def State.TablesKept (s t : State) : Prop :=
  (EntriesWellFormed s.cache.entries → EntriesWellFormed t.cache.entries) ∧
  (s.rep.QueueMatches → t.rep.QueueMatches)

namespace State.TablesKept

variable {s t u : State}

theorem trans (h : s.TablesKept t) (g : t.TablesKept u) : s.TablesKept u := ⟨g.1 ∘ h.1, g.2 ∘ h.2⟩

/-- Neither the cache's entries nor the report engine change. -/
theorem of_same (hc : t.cache.entries = s.cache.entries) (hr : t.rep = s.rep) : s.TablesKept t := by
  unfold TablesKept
  rw [hc, hr]
  exact ⟨id, id⟩

theorem refl (s : State) : s.TablesKept s := of_same rfl rfl

/-- What is done after a change that neither the cache's entries nor the report engine take part in. -/
theorem after (g : t.TablesKept u) (hc : t.cache.entries = s.cache.entries) (hr : t.rep = s.rep) : s.TablesKept u :=
  (of_same hc hr).trans g

/-- The report engine alone changes, but for its records, its queue and the reports in flight. -/
theorem of_writer (hc : t.cache.entries = s.cache.entries) (recs : t.rep.recs = s.rep.recs)
    (queue : t.rep.queue = s.rep.queue) (inflight : ∀ f ∈ t.rep.inflight, f ∈ s.rep.inflight) : s.TablesKept t :=
  ⟨fun h => hc ▸ h, fun h => h.of_same recs queue inflight⟩

/-- The cache is emptied (R66, R67, R184). -/
theorem of_flush (hc : t.cache.entries = []) (hr : t.rep = s.rep) : s.TablesKept t :=
  ⟨fun _ => hc ▸ .nil, fun h => hr ▸ h⟩

/-- Both blocks stand as after a reset. -/
theorem of_initial (hold : ResetHold) (straps : BitVec 12) (presence : BitVec 32) (pending : List Instr) :
    s.TablesKept (State.initial hold straps presence pending) :=
  ⟨fun _ => .nil, fun _ => ReportEngine.initial_matches⟩

theorem onlyIf {P : Prop} [Decidable P] (h : P → s.TablesKept t) : s.TablesKept (if P then t else s) := by
  split_ifs with hP
  · exact h hP
  · exact refl s

theorem foldl {β : Type} (f : State → β → State) (h : ∀ (s : State) (b : β), s.TablesKept (f s b)) (l : List β)
    (s : State) : s.TablesKept (l.foldl f s) := by
  induction l generalizing s with
  | nil => exact refl s
  | cons b l ih => exact (h s b).trans (ih _)

/-- A trigger of the report engine changes the writer alone (R175). -/
theorem triggerReport (s : State) : s.TablesKept s.triggerReport := by
  unfold State.triggerReport
  split_ifs
  · exact of_writer rfl rfl rfl fun _ hf => hf
  · exact of_writer rfl rfl rfl fun _ hf => hf
  · exact refl s

theorem triggerScan (s : State) : s.TablesKept s.triggerScan := of_same (by simp) (by simp)

theorem scanOn (s : State) : s.TablesKept s.scanOn := of_same (by simp) (by simp)

theorem completeReq (s : State) (r : Request) (l : List MemOp) (st : Status) (n : Nat) :
    s.TablesKept (s.completeReq r l st n) := of_same (by simp) (by simp)

/-- What an event hands over joins a record (R174). -/
theorem settle (s : State) (p : PortNo) (c : Ctl) : s.TablesKept (s.settle p c) := by
  refine ⟨fun h => by rw [State.settle_cache]; exact h, fun h => ?_⟩
  rw [State.settle_rep]
  split_ifs
  · exact h
  · exact ReportEngine.withChange_matches h _ _ _

/-- One event of one port, whatever the port does. -/
theorem runPort (s : State) (p : PortNo) (f : Env → Ctl → Ctl) : s.TablesKept (s.runPort p f) := by
  unfold State.runPort
  dsimp only
  split_ifs
  · refine (settle s p _).trans (foldl _ (fun t i => ?_) _ _)
    split_ifs
    · exact settle t p _
    · exact refl t
  · exact settle s p _

/-- Lost reports are restored, others stay in flight (R178). -/
theorem restoreReports {lost kept : List InFlight} (hl : ∀ f ∈ lost, f ∈ s.rep.inflight)
    (hk : ∀ f ∈ kept, f ∈ s.rep.inflight) : s.TablesKept (s.restoreReports lost kept) := by
  refine ⟨id, fun h => ?_⟩
  obtain ⟨-, -, -, -, flight⟩ := id h
  obtain ⟨nodup, mem, empty, bound, -⟩ := restoreAll_matches lost [] s.rep h fun f hf => (flight f (hl f hf)).1
  exact ⟨nodup, mem, empty, bound, fun f hf => flight f (hk f hf)⟩

end State.TablesKept

open State (TablesKept)

/-! ## Plans and fills (R59, R61, R62) -/

theorem State.givePlan_tablesKept (s : State) (p : PortNo) (e : List Byte) : s.TablesKept (s.givePlan p e) := by
  unfold State.givePlan
  split
  · exact .runPort s p _
  · exact .runPort s p _

/-- A lookup touches no entry but one that it finds (R59). -/
theorem State.lookup_tablesKept (s : State) (p : PortNo) : s.TablesKept (s.lookup p) := by
  unfold State.lookup
  split
  · split
    · exact .runPort s p _
    · split
      · rename_i e found
        refine TablesKept.trans (t := { s with cache := s.cache.touch e }) ⟨fun h => ?_, id⟩
          (State.givePlan_tablesKept _ p _)
        exact PlanCache.touch_wellFormed h (List.mem_of_find?_eq_some found)
      · dsimp only
        split <;> exact .of_same rfl rfl
  · exact .runPort s p _

theorem State.failFills_tablesKept (s : State) : s.TablesKept s.failFills := by
  unfold State.failFills forPorts
  refine .foldl _ (fun t p => ?_) _ _
  dsimp only
  split
  · exact .after (.runPort _ p _) rfl rfl
  · exact .refl t

theorem State.epochChanges_tablesKept (s : State) : s.TablesKept s.epochChanges := by
  unfold State.epochChanges forPorts
  exact .foldl _ (fun t p => .runPort t p _) _ _

/-- A valid entry alone is placed (R61). -/
theorem State.fillReturned_tablesKept (s : State) (p : PortNo) (g : BitVec 32) (e : Vector Byte 16) :
    s.TablesKept (s.fillReturned p g e) := by
  unfold State.fillReturned
  split
  · split
    · exact .of_same rfl rfl
    · dsimp only
      split
      · rename_i valid
        have placed : s.TablesKept ((s.setFillPending p false).placePlan p e) :=
          ⟨fun h => PlanCache.place_wellFormed h valid, id⟩
        exact placed.trans (State.givePlan_tablesKept _ _ _)
      · exact .after (.runPort _ p _) rfl rfl
  · exact .refl s

/-! ## The module bus -/

theorem State.identityOutcome_tablesKept (s : State) (p : PortNo) (o : BusOutcome) :
    s.TablesKept (s.identityOutcome p o) := by
  unfold State.identityOutcome
  split
  · split
    · split
      · exact .runPort s p _
      · exact .runPort s p _
      · exact .after (State.lookup_tablesKept _ p) rfl rfl
    · exact .runPort s p _
  · exact .refl s

theorem State.deliver_tablesKept (s : State) (r : Requester) (p : PortNo) (x : Transfer) (o : BusOutcome) :
    s.TablesKept (s.deliver r p x o) := by
  cases r with
  | port => exact s.identityOutcome_tablesKept p o
  | job tag => exact .of_same (by simp [State.deliver]) (by simp [State.deliver])

theorem State.takeGrant_tablesKept (s : State) (g : Grant) : s.TablesKept (s.takeGrant g) := by
  unfold State.takeGrant
  split <;> exact .of_same (by simp) (by simp)

theorem State.grant_tablesKept (s : State) (g : Grant) : s.TablesKept (s.grant g) := by
  have ends : ∀ (t : State) x st, t.TablesKept (t.endAtOnce x st) := fun t x st =>
    .after (State.deliver_tablesKept _ _ _ _ _) rfl rfl
  rw [State.grant_steps]
  refine (s.takeGrant_tablesKept g).trans ?_
  dsimp only
  split_ifs
  · exact ends _ _ _
  · exact ends _ _ _
  · exact .of_same rfl rfl

theorem State.grantLoop_tablesKept (n : Nat) (s : State) : s.TablesKept (State.grantLoop n s) := by
  induction n generalizing s with
  | zero => exact .refl s
  | succ n ih =>
    unfold State.grantLoop
    split
    · split
      · exact .refl s
      · exact (s.grant_tablesKept _).trans (ih _)
    · exact .refl s

theorem State.queueJob_tablesKept (s : State) (j : PassJob) : s.TablesKept (s.queueJob j) := by
  unfold State.queueJob
  exact .after (State.grantLoop_tablesKept _ _) rfl rfl

theorem State.endTxn_tablesKept (s : State) (t : Txn) (st : Status) (d : List Byte) : s.TablesKept (s.endTxn t st d) := by
  have handed : ∀ u : State, u.TablesKept (u.txnOutcome t st d) := fun u => by
    unfold State.txnOutcome
    split
    · exact .refl u
    · split
      · exact u.deliver_tablesKept _ _ _ _
      · split <;> exact u.deliver_tablesKept _ _ _ _
  unfold State.endTxn State.grants
  refine .trans ?_ (State.grantLoop_tablesKept _ _)
  exact .after (handed _) rfl rfl

/-! ## Engine states -/

theorem State.enterStopped_tablesKept (s : State) : s.TablesKept s.enterStopped := by
  unfold State.enterStopped
  exact .after (State.failFills_tablesKept _) rfl rfl

theorem State.enterHalted_tablesKept (s : State) (cause : HaltCause) : s.TablesKept (s.enterHalted cause) := by
  unfold State.enterHalted
  exact .after (State.failFills_tablesKept _) (by simp) (by simp)

theorem State.setRun_tablesKept (s : State) : s.TablesKept s.setRun := by
  unfold State.setRun
  split
  · exact .of_same rfl rfl
  · exact .of_same rfl rfl
  · exact .after ((TablesKept.triggerReport _).trans (.triggerScan _)) rfl rfl
  · exact .refl s
  · exact .refl s

theorem State.clearRun_tablesKept (s : State) : s.TablesKept s.clearRun := by
  have drains : s.TablesKept
      ({ s.stopScan with we := { s.stopScan.we with st := .draining, run := false } } : State).triggerReport :=
    .after (.triggerReport _) (by simp) (by simp)
  unfold State.clearRun
  split
  · exact .of_same rfl rfl
  · dsimp only
    split
    · exact drains.trans (.after (State.enterStopped_tablesKept _) rfl rfl)
    · exact drains
  all_goals exact .refl s

theorem State.restartReports_tablesKept (s : State) : s.TablesKept s.restartReports := by
  unfold State.restartReports
  split
  · rename_i f fs _ inflight
    exact .restoreReports (fun g hg => by rw [inflight]; exact List.mem_cons_of_mem f hg)
      fun g hg => by rw [inflight, List.mem_singleton.1 hg]; exact List.mem_cons_self
  · exact .restoreReports (fun _ hf => hf) (by simp)

/-- ENGINE_RESTART restores the reports in flight, but for one whose FILLED write is in progress, and flushes the cache
(R178, R184). -/
theorem State.restartEngine_tablesKept (s : State) : s.TablesKept s.restartEngine := by
  have restored : s.TablesKept s.abandonWork.restartReports.restartMemory :=
    .trans (t := s.abandonWork.restartReports) (.after (State.restartReports_tablesKept _) (by simp) (by simp))
      (.of_same (by simp) (by simp))
  unfold State.restartEngine
  refine restored.trans ?_
  generalize s.abandonWork.restartReports.restartMemory = t
  refine .trans ?_ (State.enterStopped_tablesKept _)
  exact .trans (t := { t with cache := t.cache.flush }) (.of_flush rfl rfl) (.of_writer rfl rfl rfl fun _ hf => hf)

/-! ## Requests -/

theorem State.reverify_tablesKept (s : State) (p : PortNo) : s.TablesKept (s.reverify p) := by
  unfold State.reverify
  split
  · exact .refl s
  · exact .after (.runPort _ p _) rfl rfl

theorem State.flushPlans_tablesKept (s : State) (n r : Bool) (e : BitVec 16) : s.TablesKept (s.flushPlans n r e) := by
  have flushed : s.TablesKept (s.flushCache n e) := .of_flush rfl rfl
  unfold State.flushPlans
  dsimp only
  split
  · exact flushed.trans (.foldl _ (fun t p => t.reverify_tablesKept p) _ _)
  · split
    · exact flushed.trans (State.epochChanges_tablesKept _)
    · exact flushed

theorem State.enablePort_tablesKept (s : State) (p : PortNo) (hold : Bool) : s.TablesKept (s.enablePort p hold).1 := by
  unfold State.enablePort
  split
  · exact .refl s
  · split
    · dsimp only
      exact .runPort s p _
    · exact .of_same rfl rfl

theorem State.disablePort_tablesKept (s : State) (p : PortNo) : s.TablesKept (s.disablePort p) := by
  unfold State.disablePort
  dsimp only
  split
  · exact .of_same rfl rfl
  · exact .after (.runPort _ p _) rfl rfl

theorem State.restartPort_tablesKept (s : State) (p : PortNo) : s.TablesKept (s.restartPort p).1 := by
  unfold State.restartPort
  split
  · exact .refl s
  · split
    · exact .refl s
    · dsimp only
      exact .after (.runPort _ p _) rfl rfl

/-- A request on a port, when its work on every port keeps the tables. -/
theorem State.onPort_tablesKept (s : State) (r : Request) (f : PortNo → State) (h : ∀ p, s.TablesKept (f p)) :
    s.TablesKept (s.onPort r f) := by
  unfold State.onPort
  split
  · exact .completeReq s _ _ _ _
  · exact h _

theorem State.startKind_tablesKept (s : State) (k : Kind) (r : Request) : s.TablesKept (s.startKind k r) := by
  cases k with
  | portEnable =>
    exact s.onPort_tablesKept r _ fun p => (s.enablePort_tablesKept p _).trans (.completeReq _ _ _ _ _)
  | portDisable =>
    exact s.onPort_tablesKept r _ fun p => (s.disablePort_tablesKept p).trans (.completeReq _ _ _ _ _)
  | portRestart =>
    exact s.onPort_tablesKept r _ fun p => (s.restartPort_tablesKept p).trans (.completeReq _ _ _ _ _)
  | laneTestStop =>
    refine s.onPort_tablesKept r _ fun p => ?_
    split
    · exact .completeReq s _ _ _ _
    · exact (TablesKept.runPort s p _).trans (.completeReq _ _ _ _ _)
  | moduleRead =>
    refine s.onPort_tablesKept r _ fun p => ?_
    split
    · exact .completeReq s _ _ _ _
    · exact s.queueJob_tablesKept _
  | planFlush => exact (s.flushPlans_tablesKept _ _ _).trans (.completeReq _ _ _ _ _)
  | portQuery => exact .of_same (by simp [State.startKind]) (by simp [State.startKind])
  | laneTest => exact .of_same (by simp [State.startKind]) (by simp [State.startKind])
  | portAwait => exact .of_same (by simp [State.startKind]) (by simp [State.startKind])
  | moduleWrite => exact .of_same (by simp [State.startKind]) (by simp [State.startKind])
  | capsLimit => exact .of_same (by simp [State.startKind]) (by simp [State.startKind])
  | setConfig => exact .of_same rfl rfl

/-! ## Takes, starts and reports -/

theorem State.descReturned_tablesKept (s : State) (d : List Byte) : s.TablesKept (s.descReturned d) := by
  have scans : ∀ t : State, t.TablesKept t.scanAfterTake := fun t => .of_same (by simp) (by simp)
  have taken : ∀ k r, s.TablesKept (s.take k r) := fun k r => by
    unfold State.take
    refine .trans ?_ (scans _)
    cases k with
    | none => exact TablesKept.after (.completeReq _ _ _ _ _) rfl rfl
    | some k => exact TablesKept.after (State.startKind_tablesKept _ k r) rfl rfl
  unfold State.descReturned
  split
  · split
    · exact .of_same (by simp) (by simp)
    · dsimp only
      split
      · exact taken _ _
      · exact .of_same (by simp) (by simp)
  · exact .refl s

/-- The cache is flushed at an entry into RUNNING (R66). -/
theorem State.enterRunning_tablesKept (s : State) (b : List Byte) : s.TablesKept (s.enterRunning b) := by
  unfold State.enterRunning
  dsimp only
  refine .trans (.trans ?_ (.triggerReport _)) (.triggerScan _)
  split
  · exact .trans (t := { s with cache := { s.cache.flush with epoch := anchorEpoch b } }) (.of_flush rfl rfl)
      (.of_writer rfl rfl rfl fun _ hf => hf)
  · refine .trans ?_ (State.epochChanges_tablesKept _)
    exact .trans (t := { s with cache := { s.cache.flush with epoch := anchorEpoch b } }) (.of_flush rfl rfl)
      (.of_writer rfl rfl rfl fun _ hf => hf)

theorem State.anchorReturned_tablesKept (s : State) (b : List Byte) : s.TablesKept (s.anchorReturned b) := by
  unfold State.anchorReturned
  split
  · split
    · exact s.enterStopped_tablesKept
    · split
      · exact s.enterRunning_tablesKept b
      · exact s.enterHalted_tablesKept _
  · exact .refl s

/-- A report read that finds an EMPTY entry writes the report of the head of the queue (R176). -/
theorem State.reportReturned_tablesKept (s : State) (owner : Byte) : s.TablesKept (s.reportReturned owner) := by
  unfold State.reportReturned
  split
  · split
    · split
      · exact .of_writer rfl rfl rfl fun _ hf => hf
      · rename_i p rest queue
        unfold State.writeReport
        dsimp only
        refine TablesKept.trans ?_ (.triggerReport _)
        refine ⟨id, fun h => ?_⟩
        exact (h.write queue s.rep.cursor).of_same rfl rfl fun _ hf => hf
    · unfold State.reportBlocked
      split_ifs
      all_goals exact .of_writer rfl rfl rfl fun _ hf => hf
  · exact .of_writer rfl rfl rfl fun _ hf => hf

theorem State.reportDelivered_tablesKept (s : State) : s.TablesKept s.reportDelivered := by
  unfold State.reportDelivered
  refine TablesKept.trans ?_ (.triggerReport _)
  exact .of_writer rfl rfl rfl fun _ hf => List.mem_of_mem_tail hf

theorem State.fault_tablesKept (s : State) : s.TablesKept s.fault := by
  unfold State.fault
  dsimp only
  refine .trans ?_ (State.enterHalted_tablesKept _ _)
  refine .trans (t := if s.reportReadPending then State.writerIdle { s with mm := ⟨[], 0⟩ } else { s with mm := ⟨[], 0⟩ })
    ?_ (.restoreReports (fun _ hf => hf) (by simp))
  split_ifs
  all_goals exact .of_writer rfl rfl rfl fun _ hf => hf

/-! ## The rows -/

/-- A command keeps the tables when its effect does, from quiet lines. -/
theorem act_tablesKept {s t : State} {f : State → State} (h : act s f = .next t) (hf : ∀ u, State.TablesKept u (f u)) :
    s.TablesKept t := by
  have quiet : ∀ u : State, ∀ o, u.TablesKept { u with out := o } := fun u o => .of_same rfl rfl
  unfold act at h
  split_ifs at h <;> obtain rfl := Host.Outcome.next.inj h
  · exact ((quiet s []).trans (hf _)).trans (quiet _ _)
  · exact quiet s []

/-- A request row keeps the tables (R158; log 7). -/
theorem takeRequest_tablesKept {s t : State} {k : Kind} {r : Request}
    (h : act s (fun s => s.takeRequest k r fun s => s.startKind k r) = .next t) : s.TablesKept t :=
  act_tablesKept h fun u => .onlyIf fun _ => u.startKind_tablesKept k r

/-- A reset leaves both blocks at their reset values (R185). -/
theorem State.resetPart_tablesKept (s : State) (hold : ResetHold) : s.TablesKept (s.resetPart hold) :=
  (TablesKept.of_initial hold s.straps 0 s.pending).trans (.of_same rfl rfl)

theorem State.deviceReset_tablesKept (s : State) : s.TablesKept s.deviceReset := by
  unfold State.deviceReset
  split
  · exact s.resetPart_tablesKept _
  · exact .of_same rfl rfl

theorem State.nudgeReports_tablesKept (s : State) : s.TablesKept s.nudgeReports := .onlyIf fun _ => .triggerReport s

theorem State.writeNudge_tablesKept (s : State) (v : Word) : s.TablesKept (s.writeNudge v) := by
  have work : ∀ t : State, t.TablesKept (if v.getLsbD 0 then t.nudgeWork else t) :=
    fun t => .onlyIf fun _ => .triggerScan t
  have reports : ∀ t : State, t.TablesKept (if v.getLsbD 1 then t.nudgeReports else t) :=
    fun t => .onlyIf fun _ => t.nudgeReports_tablesKept
  unfold State.writeNudge
  dsimp only
  split
  · exact (work s).trans (reports _)
  · exact (reports s).trans (work _)

theorem State.writeControl_tablesKept (s : State) (v : Word) : s.TablesKept (s.writeControl v) := by
  unfold State.writeControl
  split_ifs
  · exact s.restartEngine_tablesKept
  · exact s.setRun_tablesKept
  · exact s.clearRun_tablesKept

theorem State.writeRegister_tablesKept (s : State) (offset : BitVec 6) (v : Word) :
    s.TablesKept (s.writeRegister offset v) := by
  unfold State.writeRegister
  split_ifs
  · exact s.writeControl_tablesKept v
  · exact .of_same rfl rfl
  · exact s.writeNudge_tablesKept v
  · exact .of_same rfl rfl
  · exact .of_same rfl rfl
  · exact .refl s

theorem State.presenceLost_tablesKept (s : State) (p : PortNo) : s.TablesKept (s.presenceLost p) := by
  unfold State.presenceLost
  dsimp only
  split
  · exact .after (.runPort _ p _) rfl rfl
  · exact .after (.runPort _ p _) rfl rfl

theorem State.takeBeacon_tablesKept (s : State) (p : PortNo) (i : LaneNo) (b : List Byte) :
    s.TablesKept (s.takeBeacon p i b) := by
  unfold State.takeBeacon
  dsimp only
  split
  · split
    · exact .after (.runPort _ p _) rfl rfl
    · exact .of_same rfl rfl
    · exact .of_same rfl rfl
  · exact .of_same rfl rfl

theorem State.takeWord_tablesKept (s : State) (p : PortNo) (i : LaneNo) (b : List Byte) :
    s.TablesKept (s.takeWord p i b) := by
  unfold State.takeWord
  dsimp only
  split
  · split
    · exact .refl s
    · exact .onlyIf fun _ => .runPort s p _
  · exact .of_same rfl rfl

/-- Every command keeps the cache and the report queue. -/
theorem exec_tablesKept (c : Instr) (s t : State) (h : exec c s = .next t) : s.TablesKept t := by
  cases c <;> dsimp only [exec,
    execEngineRestart, execRunSet, execRunClear, execNudgeWork, execNudgeReports, execEventsClear,
    execEventMaskWrite, execRegisterWrite, execPresenceRaised, execPresenceLost, execAlertAsserted, execLockGained,
    execLockLost, execDelimiterFound, execBeaconFrame, execTrainingWord, execLineErrorIncrement, execSendInstant,
    execBurstSent, execResetPulseExpiry, execSettleExpiry, execSignalWindowExpiry, execPhaseWaitExpiry,
    execTrainTimeout, execDwellExpiry, execTestTimerExpiry, execTestSaturated, execAwaitTimeout,
    execScanTimerExpiry, execWatchdogExpiry, execRecoveryEnd, execAddressNack, execByteNack, execTryComplete,
    execAnchorReadDone, execConfigReadDone, execDescriptorReadDone, execBufferReadDone, execFillComplete,
    execReportReadDone, execReportWriteDone, execCompletionWriteDone, execMemoryFault, execDrainEnd,
    execTick, execPowerOn, execResetN, execResetEnd, execDeviceReset] at h
  case powerOn => obtain rfl := Host.Outcome.next.inj h; exact s.resetPart_tablesKept _
  case resetN => obtain rfl := Host.Outcome.next.inj h; exact s.resetPart_tablesKept _
  case resetEnd straps presence =>
    obtain rfl := Host.Outcome.next.inj h
    split
    · exact .of_initial _ _ _ _
    · exact .of_same rfl rfl
  case deviceReset => obtain rfl := Host.Outcome.next.inj h; exact s.deviceReset_tablesKept
  case engineRestart => exact act_tablesKept h State.restartEngine_tablesKept
  case runSet => exact act_tablesKept h State.setRun_tablesKept
  case runClear => exact act_tablesKept h State.clearRun_tablesKept
  case nudgeWork => exact act_tablesKept h TablesKept.triggerScan
  case nudgeReports => exact act_tablesKept h State.nudgeReports_tablesKept
  case eventsClear v => exact act_tablesKept h fun u => .of_same rfl rfl
  case eventMaskWrite v => exact act_tablesKept h fun u => .of_same rfl rfl
  case registerWrite offset v =>
    split at h
    · obtain rfl := Host.Outcome.next.inj h; exact s.deviceReset_tablesKept
    · exact act_tablesKept h fun u => u.writeRegister_tablesKept offset v
  case presenceRaised p =>
    refine act_tablesKept h fun u => ?_
    split
    · exact .refl u
    · exact .runPort u p _
  case presenceLost p => exact act_tablesKept h fun u => .onlyIf fun _ => u.presenceLost_tablesKept p
  case alertAsserted p =>
    refine act_tablesKept h fun u => ⟨fun wf => by rw [State.handOver_cache]; exact wf, fun matched => ?_⟩
    rw [State.handOver_rep]
    exact ReportEngine.withChange_matches matched _ _ _
  case lockGained p i => exact act_tablesKept h fun u => .onlyIf fun _ => .runPort u p _
  case lockLost p i =>
    refine act_tablesKept h fun u => ?_
    split
    · exact .runPort u p _
    · exact .runPort u p _
    all_goals exact .refl u
  case delimiterFound p i sense => exact act_tablesKept h fun u => .onlyIf fun _ => .of_same rfl rfl
  case beaconFrame p i bytes => exact act_tablesKept h fun u => .onlyIf fun _ => u.takeBeacon_tablesKept p i _
  case trainingWord p i bytes => exact act_tablesKept h fun u => .onlyIf fun _ => u.takeWord_tablesKept p i _
  case lineErrorIncrement p i n => exact act_tablesKept h fun u => .runPort u p _
  case sendInstant p => exact act_tablesKept h fun u => .onlyIf fun _ => .runPort u p _
  case burstSent p => exact act_tablesKept h fun u => .onlyIf fun _ => .runPort u p _
  case resetPulseExpiry p => exact act_tablesKept h fun u => .onlyIf fun _ => .of_same rfl rfl
  case settleExpiry p =>
    exact act_tablesKept h fun u => .onlyIf fun _ => .after (State.grantLoop_tablesKept _ _) rfl rfl
  case signalWindowExpiry p => exact act_tablesKept h fun u => .onlyIf fun _ => .runPort u p _
  case phaseWaitExpiry p => exact act_tablesKept h fun u => .onlyIf fun _ => .runPort u p _
  case trainTimeout p => exact act_tablesKept h fun u => .onlyIf fun _ => .runPort u p _
  case dwellExpiry p => exact act_tablesKept h fun u => .onlyIf fun _ => .runPort u p _
  case testTimerExpiry p => exact act_tablesKept h fun u => .onlyIf fun _ => .runPort u p _
  case testSaturated p => exact act_tablesKept h fun u => .onlyIf fun _ => .runPort u p _
  case awaitTimeout slot =>
    refine act_tablesKept h fun u => ?_
    split
    · exact .refl u
    · exact .onlyIf fun _ => .of_same (by simp) (by simp)
  case scanTimerExpiry =>
    refine act_tablesKept h fun u => .onlyIf fun _ => .trans ?_ (.triggerScan _)
    exact .after (.triggerReport _) rfl rfl
  case watchdogExpiry n =>
    refine act_tablesKept h fun u => ?_
    split
    · exact .refl u
    · exact .onlyIf fun _ => .of_same rfl rfl
  case recoveryEnd high =>
    refine act_tablesKept h fun u => ?_
    split
    · exact .refl u
    · split
      · exact u.endTxn_tablesKept _ _ _
      · exact .after (State.endTxn_tablesKept _ _ _ _) (by simp) (by simp)
  case addressNack =>
    refine act_tablesKept h fun u => ?_
    split
    · exact .refl u
    · split
      · exact .of_same rfl rfl
      · exact .after (State.endTxn_tablesKept _ _ _ _) rfl rfl
  case byteNack n =>
    refine act_tablesKept h fun u => ?_
    split
    · exact .refl u
    · exact .after (State.endTxn_tablesKept _ _ _ _) rfl rfl
  case tryComplete data =>
    refine act_tablesKept h fun u => ?_
    split
    · exact .refl u
    · exact .onlyIf fun _ => u.endTxn_tablesKept _ _ _
  case anchorReadDone block =>
    refine act_tablesKept h fun u => ?_
    split
    · split
      · exact .of_same rfl rfl
      · exact .after (State.anchorReturned_tablesKept _ _) rfl rfl
    · exact .refl u
  case configReadDone block =>
    refine act_tablesKept h fun u => ?_
    split
    · split
      · exact .of_same rfl rfl
      · exact .of_same (by simp) (by simp)
    · exact .refl u
  case descriptorReadDone desc =>
    refine act_tablesKept h fun u => ?_
    split
    · split
      · exact .of_same rfl rfl
      · exact .after (State.descReturned_tablesKept _ _) rfl rfl
    · exact .refl u
  case bufferReadDone data =>
    refine act_tablesKept h fun u => ?_
    split
    · refine .onlyIf fun _ => ?_
      split
      · exact .of_same rfl rfl
      · exact .after ((State.queueJob_tablesKept _ _).trans (.scanOn _)) rfl rfl
    · exact .refl u
  case fillComplete e =>
    refine act_tablesKept h fun u => ?_
    split
    · exact .after (State.fillReturned_tablesKept _ _ _ _) rfl rfl
    · exact .refl u
  case reportReadDone owner =>
    refine act_tablesKept h fun u => ?_
    split
    · split
      · exact .of_same rfl rfl
      · exact .after (State.reportReturned_tablesKept _ _) rfl rfl
    · exact .refl u
  case reportWriteDone =>
    refine act_tablesKept h fun u => ?_
    split
    · exact .of_same rfl rfl
    · exact .after (State.reportDelivered_tablesKept _) rfl rfl
    · exact .refl u
  case completionWriteDone =>
    refine act_tablesKept h fun u => ?_
    split
    · split
      · exact .of_same rfl rfl
      · exact .refl u
    · exact .refl u
  case memoryFault cause => exact act_tablesKept h fun u => .onlyIf fun _ => u.fault_tablesKept
  case drainEnd => exact act_tablesKept h fun u => .onlyIf fun _ => .after (State.enterStopped_tablesKept _) rfl rfl
  case portEnable r => exact takeRequest_tablesKept (k := .portEnable) h
  case portDisable r => exact takeRequest_tablesKept (k := .portDisable) h
  case portRestart r => exact takeRequest_tablesKept (k := .portRestart) h
  case portQuery r => exact takeRequest_tablesKept (k := .portQuery) h
  case laneTest r => exact takeRequest_tablesKept (k := .laneTest) h
  case laneTestStop r => exact takeRequest_tablesKept (k := .laneTestStop) h
  case portAwait r => exact takeRequest_tablesKept (k := .portAwait) h
  case moduleRead r => exact takeRequest_tablesKept (k := .moduleRead) h
  case moduleWrite r => exact takeRequest_tablesKept (k := .moduleWrite) h
  case planFlush r => exact takeRequest_tablesKept (k := .planFlush) h
  case capsLimit r => exact takeRequest_tablesKept (k := .capsLimit) h
  case setConfig r => exact takeRequest_tablesKept (k := .setConfig) h
  case tick =>
    split at h
    · exact act_tablesKept h fun u => .of_same rfl rfl
    · obtain rfl := Host.Outcome.next.inj h; exact .of_same rfl rfl
    · obtain rfl := Host.Outcome.next.inj h; exact .of_same rfl rfl

/-- A step keeps the cache and the report queue. -/
theorem step_tablesKept (s t : State) (h : step s = .next t) : s.TablesKept t := by
  unfold step at h
  split at h
  · obtain rfl := Host.Outcome.next.inj h
    exact .refl s
  · rename_i c rest _
    exact .after (exec_tablesKept c { s with pending := rest } t h) rfl rfl

/-- Settles O60: every command acts on the cache and on the report engine through operations that keep the entries one for
a port, valid and at most 8, and the report queue as the records give it. -/
theorem stepsKeepTheCacheAndTheReportQueue : Obligations.StepsKeepTheCacheAndTheReportQueue := by
  refine ⟨fun s t => ?_, fun s t => ?_⟩
  · rw [cacheWellFormed_iff, cacheWellFormed_iff]
    exact fun wf h => (step_tablesKept s t h).1 wf
  · rw [reportQueueMatchesRecords_iff, reportQueueMatchesRecords_iff]
    exact fun matched h => (step_tablesKept s t h).2 matched

end Sys2Proof.Machine


/-!
# The anchor block: its fields, its checks and the configuration read from it (R66, R150, R151, R152)
-/

namespace Sys2Proof.Machine

/-! ## Fields of a block -/

/-- A field of no bytes is 0, and a longer one starts with its least significant byte. -/
theorem leField_zero (b : List Byte) (i : Nat) : leField b i 0 = 0 := by simp [leField]

theorem leField_succ (b : List Byte) (i n : Nat) :
    leField b i (n + 1) = (byteAt b i).toNat + 256 * leField b (i + 1) n := by
  unfold leField byteAt
  by_cases h : i < b.length
  · rw [List.drop_eq_getElem_cons h, List.take_succ_cons, List.foldr_cons, List.getD_eq_getElem _ _ h]
  · rw [List.drop_eq_nil_of_le (by omega), List.drop_eq_nil_of_le (by omega), List.getD_eq_default _ _ (by omega)]
    simp

/-- A field holds what its bytes can. -/
theorem leField_lt (b : List Byte) (i n : Nat) : leField b i n < 256 ^ n := by
  induction n generalizing i with
  | zero => simp [leField_zero]
  | succ n ih =>
    have low := (byteAt b i).isLt
    have high := ih (i + 1)
    rw [leField_succ, Nat.pow_succ]
    omega

/-! ## The structural checks (R150) -/

/-- The plan counts that the table admits: none, or a power of two up to 32. -/
theorem planCount_iff (n : Nat) : [0, 1, 2, 4, 8, 16, 32].contains n = true ↔ n = 0 ∨ ∃ k, k ≤ 5 ∧ n = 2 ^ k := by
  simp only [List.contains_iff_mem, List.mem_cons, List.not_mem_nil, or_false]
  constructor
  · rintro (rfl | rfl | rfl | rfl | rfl | rfl | rfl)
    · exact .inl rfl
    · exact .inr ⟨0, by decide⟩
    · exact .inr ⟨1, by decide⟩
    · exact .inr ⟨2, by decide⟩
    · exact .inr ⟨3, by decide⟩
    · exact .inr ⟨4, by decide⟩
    · exact .inr ⟨5, by decide⟩
  · rintro (rfl | ⟨k, hk, rfl⟩)
    · exact .inl rfl
    · interval_cases k <;> decide

theorem anchorValid_iff (b : List Byte) : anchorValid b = true ↔
    b.take 4 = [0x4C, 0x42, 0x33, 0x32] ∧
    (1 ≤ leField b 12 1 ∧ leField b 12 1 ≤ 64) ∧ (1 ≤ leField b 13 1 ∧ leField b 13 1 ≤ 64) ∧
    (leField b 14 1 = 0 ∨ ∃ k, k ≤ 5 ∧ leField b 14 1 = 2 ^ k) ∧
    leField b 4 8 % 32 = 0 ∧ leField b 16 8 % 32 = 0 ∧
    (leField b 14 1 ≠ 0 → leField b 24 8 % (16 * leField b 14 1) = 0) := by
  simp only [anchorValid, Bool.and_eq_true, planCount_iff, decide_eq_true_eq, Bool.or_eq_true, and_assoc, ne_eq,
    or_iff_not_imp_left]
  exact Iff.rfl

/-- The anchor's plan epoch is its field whole (R66). -/
theorem anchorEpoch_toNat (b : List Byte) : (anchorEpoch b).toNat = leField b 34 2 :=
  (BitVec.toNat_ofNat _ _).trans (Nat.mod_eq_of_lt (leField_lt b 34 2))

/-! ## The configuration (R151, R152) -/

/-- A field read with a default stays within its own range, and is never 0. -/
theorem orDefault_within {v d m : Nat} (low : 1 ≤ d) (default : d ≤ m) (value : v ≤ m) :
    1 ≤ orDefault v d ∧ orDefault v d ≤ m := by
  unfold orDefault
  split_ifs <;> omega

theorem readTarget_within (v : Nat) : 6 ≤ readTarget v ∧ readTarget v ≤ 15 := by
  unfold readTarget
  split_ifs <;> omega

/-- The configuration of a block lies within the ranges of R151. -/
theorem configOf_within (b : List Byte) : let c := configOf b
    1 ≤ c.settle ∧ c.settle ≤ 65535 ∧ 1 ≤ c.signalWindow ∧ c.signalWindow ≤ 65535 ∧ 1 ≤ c.phaseWait ∧
      c.phaseWait ≤ 65535 ∧ 1 ≤ c.trainTimeout ∧ c.trainTimeout ≤ 65535 ∧ 1 ≤ c.beaconInterval ∧
      c.beaconInterval ≤ 255 ∧ 1 ≤ c.attemptBudget ∧ c.attemptBudget ≤ 8 ∧ c.dropLimit ≤ 255 ∧ 1 ≤ c.watchdog ∧
      c.watchdog ≤ 255 ∧ c.nackRetries ≤ 7 ∧ c.turnRatio ≤ 3 ∧ c.scanValue ≤ 255 ∧ 6 ≤ c.defaultTarget ∧
      c.defaultTarget ≤ 15 ∧ 1 ≤ c.defaultDwell ∧ c.defaultDwell ≤ 65535 := by
  have byte : ∀ i, leField b i 1 ≤ 255 := fun i => Nat.le_of_lt_succ (leField_lt b i 1)
  have word : ∀ i, leField b i 2 ≤ 65535 := fun i => Nat.le_of_lt_succ (leField_lt b i 2)
  obtain ⟨settle, settle'⟩ := orDefault_within (d := 200) (by decide) (by decide) (word 36)
  obtain ⟨window, window'⟩ := orDefault_within (d := 3000) (by decide) (by decide) (word 38)
  obtain ⟨wait, wait'⟩ := orDefault_within (d := 1000) (by decide) (by decide) (word 40)
  obtain ⟨train, train'⟩ := orDefault_within (d := 500) (by decide) (by decide) (word 42)
  obtain ⟨beacon, beacon'⟩ := orDefault_within (d := 10) (by decide) (by decide) (byte 44)
  obtain ⟨budget, budget'⟩ := configOf_attemptBudget b
  obtain ⟨watchdog, watchdog'⟩ := orDefault_within (d := 25) (by decide) (by decide) (byte 47)
  obtain ⟨target, target'⟩ := readTarget_within (leField b 51 1)
  obtain ⟨dwell, dwell'⟩ := orDefault_within (d := 1000) (by decide) (by decide) (word 52)
  exact ⟨settle, settle', window, window', wait, wait', train, train', beacon, beacon', budget, budget', byte 46,
    watchdog, watchdog', Nat.min_le_right _ _, Nat.min_le_right _ _, byte 50, target, target', dwell, dwell'⟩

/-- Settles O36: the fields of an anchor block byte by byte, the checks one by one, and each field of the configuration. -/
theorem anchorFieldsAreReadAndChecked : Obligations.AnchorFieldsAreReadAndChecked := by
  refine ⟨fun b i n => ⟨leField_zero b i, leField_succ b i n⟩, anchorValid_iff,
    fun b => ⟨rfl, anchorEpoch_toNat b⟩, fun b => ?_⟩
  have override : (configOf b).overrideId.toNat = leField b 32 2 :=
    (BitVec.toNat_ofNat _ _).trans (Nat.mod_eq_of_lt (leField_lt b 32 2))
  refine ⟨configOf_within b, rfl, rfl, rfl, rfl, rfl, Nat.min_comm _ _, rfl, rfl, Nat.min_comm _ _, Nat.min_comm _ _,
    rfl, fun zero => if_pos zero, fun value => ?_, rfl, rfl, rfl, rfl, override⟩
  rw [Nat.min_comm]
  exact if_neg value

end Sys2Proof.Machine


/-!
# The engine's entries into STOPPED and HALTED, and memory faults (R65, R129, R145, R153, R171, R172, R177, R178, R182)
-/

namespace Sys2Proof.Machine

/-! ## What changes handed over leave of the report engine (R174, R175) -/

/-- The cursor, the stall flag and the reports in flight stand; while the engine does no work the writer does nothing but
ask for another read, if one is in progress. -/
def State.WriterStands (s t : State) : Prop :=
  t.we.st = s.we.st ∧ t.rep.cursor = s.rep.cursor ∧ t.rep.stallFlag = s.rep.stallFlag ∧
  t.rep.inflight = s.rep.inflight ∧
  (s.we.st.working = false → t.rep.phase = s.rep.phase ∧ (s.rep.phase ≠ .reading → t.rep.reread = s.rep.reread))

namespace State.WriterStands

variable {s t u : State}

theorem of_rep (hw : t.we.st = s.we.st) (hr : t.rep = s.rep) : s.WriterStands t := by
  rw [WriterStands, hw, hr]
  exact ⟨rfl, rfl, rfl, rfl, fun _ => ⟨rfl, fun _ => rfl⟩⟩

theorem trans (h : s.WriterStands t) (g : t.WriterStands u) : s.WriterStands u := by
  obtain ⟨engine, cursor, stall, flight, idle⟩ := h
  obtain ⟨engine', cursor', stall', flight', idle'⟩ := g
  refine ⟨engine'.trans engine, cursor'.trans cursor, stall'.trans stall, flight'.trans flight, fun hw => ?_⟩
  obtain ⟨phase, reread⟩ := idle hw
  obtain ⟨phase', reread'⟩ := idle' (by rw [engine]; exact hw)
  exact ⟨phase'.trans phase, fun hr => (reread' (by rw [phase]; exact hr)).trans (reread hr)⟩

theorem settle (s : State) (p : PortNo) (c : Ctl) : s.WriterStands (s.settle p c) := by
  obtain ⟨-, -, -, -, ⟨engine, -⟩, -⟩ := SharedFrame.settle s p c
  unfold WriterStands
  rw [State.settle_rep, engine]
  split_ifs
  · exact ⟨rfl, rfl, rfl, rfl, fun _ => ⟨rfl, fun _ => rfl⟩⟩
  · refine ⟨rfl, rfl, rfl, rfl, fun hw => ⟨?_, fun hr => ?_⟩⟩
    · simp [ReportEngine.withChange, hw]
    · simp [ReportEngine.withChange, hr]

theorem foldl {β : Type} (f : State → β → State) (h : ∀ (s : State) (b : β), s.WriterStands (f s b)) (l : List β)
    (s : State) : s.WriterStands (l.foldl f s) :=
  List.foldlRecOn l f (motive := fun t => s.WriterStands t) (of_rep rfl rfl) fun _ ht b _ => ht.trans (h _ b)

theorem runPort (s : State) (p : PortNo) (f : Env → Ctl → Ctl) : s.WriterStands (s.runPort p f) := by
  unfold State.runPort
  dsimp only
  split_ifs
  · refine (settle s p _).trans (foldl _ (fun t i => ?_) _ _)
    split_ifs
    · exact settle t p _
    · exact of_rep rfl rfl
  · exact settle s p _

end State.WriterStands

/-- The holds of ports that wait on a fill reach the report engine by the changes they hand over alone (R65). -/
theorem State.failFills_writerStands (s : State) : s.WriterStands s.failFills := by
  refine State.WriterStands.foldl _ (fun t p => ?_) _ _
  dsimp only
  split_ifs
  · exact .trans (t := t.setFillPending p false) (.of_rep rfl rfl) (.runPort _ p _)
  · exact .of_rep rfl rfl

/-- No port waits on a fill, and none is held (R65). -/
theorem State.failFills_none (s : State) (noneWaits : ∀ p : PortNo, s.cache.fillPending[p] = false) :
    s.failFills = s := by
  have fold : s.failFills = allPorts.foldl State.failFill s := rfl
  rw [fold]
  refine List.foldlRecOn allPorts State.failFill (motive := fun t => t = s) rfl fun t ht p _ => ?_
  rw [ht]
  unfold State.failFill
  rw [if_neg (Bool.eq_false_iff.1 (noneWaits p))]

/-! ## Every job abandoned (R129, R145, R153, R160) -/

/-- A slot holds a LANE_TEST of the port, so that its test ends with the job (R129). -/
def State.TestAbandoned (s : State) (l : List (Fin 16)) (p : PortNo) : Prop :=
  ∃ k ∈ l, ∃ j, s.we.slots[k] = some j ∧ j.port = p ∧ j.kind = .laneTest

theorem State.testAbandoned_allSlots (s : State) (p : PortNo) : s.TestAbandoned allSlots p ↔
    ∃ k : Fin 16, ∃ j, s.we.slots[k] = some j ∧ j.port = p ∧ j.kind = .laneTest := by
  simp [State.TestAbandoned, allSlots]

@[simp] theorem Port.closeTest_closeTest (c : Port) : c.closeTest.closeTest = c.closeTest := by
  cases h : c.test <;> simp [Port.closeTest, h]

/-- A job abandoned leaves its slot (R153). -/
theorem State.abandonJob_we (s : State) (k : Fin 16) :
    (s.abandonJob k).we = { s.we with slots := s.we.slots.set k none } := by
  unfold State.abandonJob
  split
  · rename_i free
    have same : s.we.slots.set k none = s.we.slots := by
      rw [← free]
      simp
    rw [same]
  · dsimp only
    split <;> rfl

theorem slots_set_getElem (v : Vector (Option Job) 16) (k k' : Fin 16) :
    (v.set k none)[k'] = if k' = k then none else v[k'] := by
  by_cases h : k' = k
  · subst h; simp
  · have : (k : Nat) ≠ k' := fun e => h (Fin.ext e.symm)
    simp [this, h]

/-- A LANE_TEST abandoned ends its port's test (R129). -/
theorem State.abandonJob_port (s : State) (k : Fin 16) (p : PortNo) :
    (s.TestAbandoned [k] p → (s.abandonJob k).port p = (s.port p).closeTest) ∧
    (¬ s.TestAbandoned [k] p → (s.abandonJob k).port p = s.port p) := by
  simp only [State.TestAbandoned, List.mem_singleton, exists_eq_left]
  unfold State.abandonJob
  cases hk : s.we.slots[k] with
  | none => simp
  | some j =>
    dsimp only
    cases kind : j.kind with
    | await timer => simp [kind]; rfl
    | laneTest =>
      by_cases hp : j.port = p
      · subst hp
        simp [kind]; rfl
      · refine ⟨by simp [hp], fun _ => State.port_setPort_of_ne _ _ _ _ fun e => hp e.symm⟩

/-- What the jobs of several slots, abandoned, make of the engine and of a port. -/
theorem State.abandonJobs_spec (l : List (Fin 16)) (s : State) (p : PortNo) :
    (∃ slots, (l.foldl State.abandonJob s).we = { s.we with slots := slots } ∧
      ∀ k : Fin 16, slots[k] = if k ∈ l then none else s.we.slots[k]) ∧
    (s.TestAbandoned l p → (l.foldl State.abandonJob s).port p = (s.port p).closeTest) ∧
    (¬ s.TestAbandoned l p → (l.foldl State.abandonJob s).port p = s.port p) := by
  induction l generalizing s with
  | nil => exact ⟨⟨_, rfl, by simp⟩, by simp [State.TestAbandoned], fun _ => rfl⟩
  | cons k l ih =>
    obtain ⟨⟨slots, engine, freed⟩, closes, stands⟩ := ih (s.abandonJob k)
    obtain ⟨closed, stood⟩ := s.abandonJob_port k p
    have we := s.abandonJob_we k
    have first : s.TestAbandoned (k :: l) p ↔ s.TestAbandoned [k] p ∨ (s.abandonJob k).TestAbandoned l p := by
      simp only [State.TestAbandoned, List.mem_cons, List.not_mem_nil, or_false, exists_eq_or_imp, exists_eq_left, we,
        slots_set_getElem]
      constructor
      · rintro (here | ⟨k', mem, j, hj, port, kind⟩)
        · exact .inl here
        · by_cases e : k' = k
          · subst e; exact .inl ⟨j, hj, port, kind⟩
          · exact .inr ⟨k', mem, j, by rw [if_neg e]; exact hj, port, kind⟩
      · rintro (here | ⟨k', mem, j, hj, port, kind⟩)
        · exact .inl here
        · split_ifs at hj
          exact .inr ⟨k', mem, j, hj, port, kind⟩
    rw [List.foldl_cons]
    refine ⟨⟨slots, by rw [engine, we], fun k' => ?_⟩, fun h => ?_, fun h => ?_⟩
    · rw [freed, we, slots_set_getElem]
      simp only [List.mem_cons]
      split_ifs <;> simp_all
    · by_cases later : (s.abandonJob k).TestAbandoned l p
      · rw [closes later]
        by_cases now : s.TestAbandoned [k] p
        · rw [closed now, Port.closeTest_closeTest]
        · rw [stood now]
      · rw [stands later, closed ((first.1 h).resolve_right later)]
    · rw [first, not_or] at h
      rw [stands h.2, stood h.1]

/-- Every job abandoned: at the engine, the bus, the arbiter, the memory master's list and the ports. -/
theorem State.abandonWork_spec (s : State) :
    (∃ slots, s.abandonWork.we =
      { s.we with slots := slots, scan := .noScan, scanPending := false, scanTimer := none } ∧
      ∀ k : Fin 16, slots[k] = none) ∧
    s.abandonWork.arb = { s.arb with queue := [] } ∧
    s.abandonWork.bus = { s.bus with current := s.bus.current.map fun x =>
      if x.requester = .port then x else { x with cut := true } } ∧
    s.abandonWork.mm = (s.abandonReads MemOp.isWorkRead).mm ∧
    ∀ p, (s.TestAbandoned allSlots p → s.abandonWork.port p = (s.port p).closeTest) ∧
      (¬ s.TestAbandoned allSlots p → s.abandonWork.port p = s.port p) := by
  have bus : (allSlots.foldl State.abandonJob s).bus = s.bus := foldl_field State.bus _ State.abandonJob_bus _ _
  have arb : (allSlots.foldl State.abandonJob s).arb = s.arb := foldl_field State.arb _ State.abandonJob_arb _ _
  have mm : (allSlots.foldl State.abandonJob s).mm = s.mm := foldl_field State.mm _ State.abandonJob_mm _ _
  have ports := fun p => (State.abandonJobs_spec allSlots s p).2
  obtain ⟨⟨slots, engine, freed⟩, -⟩ := State.abandonJobs_spec allSlots s 0
  unfold State.abandonWork
  dsimp only
  generalize allSlots.foldl State.abandonJob s = t at bus arb mm ports engine
  refine ⟨⟨slots, ?_, fun k => ?_⟩, ?_, ?_, ?_, ports⟩
  · rw [State.abandonReads_we, engine]
  · rw [freed, if_pos (show k ∈ allSlots from List.mem_finRange k)]
  · rw [State.abandonReads_arb, arb]
  · rw [State.abandonReads_bus, bus]
  · unfold State.abandonReads
    rw [mm]

/-! ## The entry into HALTED (R172, R182) -/

/-- An ended test plays no part in the entry into HELD. -/
theorem IsHeld.of_closeTest {why : HoldReason} {c d : Port} (h : IsHeld why c.closeTest d) : IsHeld why c d := h

/-- HALT set and RUN cleared, before the ports that wait on a fill are held. -/
def State.halts (s : State) (cause : HaltCause) : State :=
  { s with we := { s.we with st := .halted, run := false, haltCause := cause } }.raise evHalt

section
variable (s : State) (cause : HaltCause)

theorem State.enterHalted_eq : s.enterHalted cause = (s.abandonWork.halts cause).failFills := by
  unfold State.enterHalted State.halts
  rfl

theorem State.halts_we : (s.halts cause).we = { s.we with st := .halted, run := false, haltCause := cause } := rfl

theorem State.halts_regs : (s.halts cause).regs = { s.regs with events := s.regs.events ||| evHalt } := rfl

theorem State.halts_mm : (s.halts cause).mm = s.mm := rfl

theorem State.halts_cache : (s.halts cause).cache = s.cache := rfl

theorem State.halts_rep : (s.halts cause).rep = s.rep := rfl

theorem State.halts_arb : (s.halts cause).arb = s.arb := rfl

theorem State.halts_bus : (s.halts cause).bus = s.bus := rfl

theorem State.halts_base : SameBase s (s.halts cause) := ⟨rfl, rfl, rfl, rfl⟩

theorem State.halts_port (p : PortNo) : (s.halts cause).port p = s.port p := rfl

end

/-- The entry into HALTED: every job is abandoned, HALT is set, RUN is cleared, waiting ports are held. -/
theorem State.enterHalted_spec (s : State) (cause : HaltCause) :
    let t := s.enterHalted cause
    (t.we.st = .halted ∧ t.we.run = false ∧ t.we.haltCause = cause ∧ t.we.anchor = s.we.anchor ∧ t.we.cfg = s.we.cfg ∧
      t.we.chassis = s.we.chassis ∧ t.we.cursor = s.we.cursor) ∧ WorkAbandoned s t ∧
    t.mm = (s.abandonReads MemOp.isWorkRead).mm ∧ t.regs = { s.regs with events := s.regs.events ||| evHalt } ∧
    (FillsFailed s t fun p c =>
      if ∃ k : Fin 16, ∃ j, s.we.slots[k] = some j ∧ j.port = p ∧ j.kind = .laneTest then c.closeTest else c) ∧
    (t.cache.entries = s.cache.entries ∧ t.cache.gen = s.cache.gen ∧ t.cache.epoch = s.cache.epoch) ∧ SameBase s t := by
  obtain ⟨⟨slots, engine, freed⟩, arb, bus, mm, ports⟩ := s.abandonWork_spec
  have halted : (s.abandonWork.halts cause).we = { s.we with
      slots := slots, scan := .noScan, scanPending := false, scanTimer := none, st := .halted, run := false,
      haltCause := cause } := by
    rw [State.halts_we, engine]
  have free : (s.abandonWork.halts cause).SlotsFree := fun k => by rw [halted]; exact freed k
  obtain ⟨we', mm', regs', bus', arb', ⟨hold, straps, ms, pending⟩, entries', gen', epoch', ⟨noneWaits, held⟩⟩ :=
    State.failFills_spec _ free (by rw [halted]; rfl)
  rw [State.halts_mm] at mm'
  rw [State.halts_regs, State.abandonWork_regs] at regs'
  rw [State.halts_bus] at bus'
  rw [State.halts_arb] at arb'
  rw [State.halts_cache, State.abandonWork_cache] at entries' gen' epoch' held
  obtain ⟨hold', straps', ms', pending'⟩ := s.abandonWork.halts_base cause
  dsimp only
  rw [State.enterHalted_eq]
  refine ⟨?_, ?_, mm'.trans mm, regs', ⟨noneWaits, fun p => ?_⟩, ⟨entries', gen', epoch'⟩,
    ⟨(hold.trans hold').trans s.abandonWork_hold, (straps.trans straps').trans s.abandonWork_straps,
      (ms.trans ms').trans s.abandonWork_ms, (pending.trans pending').trans s.abandonWork_pending⟩⟩
  · rw [we', halted]
    exact ⟨rfl, rfl, rfl, rfl, rfl, rfl, rfl⟩
  · unfold WorkAbandoned
    rw [we', halted]
    exact ⟨freed, arb'.trans arb, bus'.trans bus, rfl, rfl, rfl⟩
  · have port := held p
    rw [State.halts_port] at port
    obtain ⟨closed, stood⟩ := ports p
    rw [s.testAbandoned_allSlots] at closed stood
    dsimp only
    by_cases abandoned : ∃ k : Fin 16, ∃ j, s.we.slots[k] = some j ∧ j.port = p ∧ j.kind = .laneTest
    · rw [closed abandoned] at port
      rw [if_pos abandoned]
      split_ifs at port ⊢ <;> exact port
    · rw [stood abandoned] at port
      rw [if_neg abandoned]
      exact port

/-- The report engine at the entry into HALTED: changes that the holds hand over reach it. -/
theorem State.enterHalted_writerStands (s : State) (cause : HaltCause) :
    (s.enterHalted cause).rep.cursor = s.rep.cursor ∧ (s.enterHalted cause).rep.stallFlag = s.rep.stallFlag ∧
    (s.enterHalted cause).rep.inflight = s.rep.inflight ∧ (s.enterHalted cause).rep.phase = s.rep.phase ∧
    (s.rep.phase ≠ .reading → (s.enterHalted cause).rep.reread = s.rep.reread) ∧
    ((∀ p : PortNo, s.cache.fillPending[p] = false) → (s.enterHalted cause).rep = s.rep) := by
  have rep : (s.abandonWork.halts cause).rep = s.rep := by rw [State.halts_rep, State.abandonWork_rep]
  have cache : (s.abandonWork.halts cause).cache = s.cache := by rw [State.halts_cache, State.abandonWork_cache]
  obtain ⟨-, cursor, stall, flight, idle⟩ := (s.abandonWork.halts cause).failFills_writerStands
  obtain ⟨phase, reread⟩ := idle (by rw [State.halts_we]; rfl)
  rw [State.enterHalted_eq]
  rw [rep] at cursor stall flight phase reread
  refine ⟨cursor, stall, flight, phase, reread, fun noneWaits => ?_⟩
  rw [State.failFills_none _ (by rw [cache]; exact noneWaits), rep]

/-! ## Memory faults (R171, R172, R177, R178) -/

theorem exec_memoryFault (cause : MemFaultCause) (s : State) :
    exec (.memoryFault cause) s = act s fun s => if s.canFault cause then s.fault else s := rfl

/-- The operations that a fault of each cause can end (R171; log 26). -/
theorem State.canFault_iff (s : State) (cause : MemFaultCause) : s.canFault cause = true ↔
    ∃ e, s.mm.ops.head? = some e ∧ (cause = .busMasterOff ∨ (cause = .errorStatus ∧ e.op.isRead = true) ∨
      (cause = .noData ∧ e.op.isRead = true ∧ 50 ≤ s.mm.age)) := by
  unfold State.canFault State.memHead
  cases s.mm.ops.head? with
  | none => simp
  | some e =>
    cases cause with
    | busMasterOff => simp
    | errorStatus => simp
    | noData =>
      have late : decide (Config.readLimit ≤ s.mm.age) = true ↔ 50 ≤ s.mm.age := decide_eq_true_iff
      simp [late]

theorem State.reportReadPending_iff (s : State) :
    s.reportReadPending = true ↔ ∃ a, (⟨.reportRead a, false⟩ : MemEntry) ∈ s.mm.ops := by
  unfold State.reportReadPending
  rw [List.any_eq_true]
  constructor
  · rintro ⟨⟨op, abandoned⟩, mem, h⟩
    cases op <;> cases abandoned <;> simp at h
    exact ⟨_, mem⟩
  · rintro ⟨a, mem⟩
    exact ⟨_, mem, rfl⟩

/-- A fault with its list emptied, its report read discarded and its reports in flight restored, before the engine
halts. -/
def State.faulted (s : State) : State :=
  let t := { s with mm := ⟨[], 0⟩ }
  let t := if s.reportReadPending then t.writerIdle else t
  t.restoreReports t.rep.inflight []

theorem State.fault_eq (s : State) : s.fault = s.faulted.enterHalted .memoryFault := rfl

/-- What a fault does before the engine halts: the memory master and the report engine alone (R172, R177, R178). -/
theorem State.faulted_spec (s : State) : ∃ r, s.faulted = { s with mm := ⟨[], 0⟩, rep := r } ∧
    r.inflight = [] ∧ r.cursor = s.rep.cursor ∧ r.stallFlag = s.rep.stallFlag ∧
    (s.reportReadPending = true → r.phase = .idle ∧ r.reread = false) ∧
    (s.reportReadPending = false → r.phase = s.rep.phase) ∧
    ((∀ f ∈ s.rep.inflight, 1 ≤ f.count) → ReportsRestored s.rep.inflight s.rep r) := by
  unfold State.faulted
  cases s.reportReadPending with
  | true =>
    refine ⟨_, rfl, rfl, ?_, ?_, fun _ => ?_, by simp,
      restoreAll_restores s.rep.inflight { s.rep with phase := .idle, reread := false }⟩
    all_goals simp only [if_pos, State.writerIdle]; rw [restoreAll_frame]
    exact ⟨rfl, rfl⟩
  | false =>
    refine ⟨_, rfl, rfl, ?_, ?_, by simp, fun _ => ?_, restoreAll_restores s.rep.inflight s.rep⟩
    all_goals simp only [Bool.false_eq_true, if_false]; rw [restoreAll_frame]

/-- Settles O43: a fault that can end the operation in progress empties the list, restores the reports in flight and halts
the engine; any other changes nothing. -/
theorem memoryFaultsHaltTheEngine : Obligations.MemoryFaultsHaltTheEngine := by
  intro cause s hs
  dsimp only
  rw [exec_memoryFault, ← State.canFault_iff]
  refine ⟨fun cannot => act_idle hs (if_neg cannot), fun can => act_answer hs fun o => ?_⟩
  rw [if_pos (show State.canFault { s with out := [] } cause = true from can), State.fault_eq]
  obtain ⟨r, faulted, flight, cursor, stall, pending, quiet, restored⟩ := State.faulted_spec { s with out := [] }
  rw [faulted]
  have entry := State.enterHalted_spec { s with mm := ⟨[], 0⟩, rep := r, out := [] } .memoryFault
  have writer := State.enterHalted_writerStands { s with mm := ⟨[], 0⟩, rep := r, out := [] } .memoryFault
  dsimp only at entry
  generalize State.enterHalted _ _ = t at entry writer ⊢
  obtain ⟨⟨st, run, haltCause, anchor, cfg, chassis, workCursor⟩, work, mm, regs, fills, ⟨entries, gen, epoch⟩, base⟩ :=
    entry
  obtain ⟨cursor', stall', flight', phase', reread', same⟩ := writer
  refine ⟨st, run, haltCause, anchor, cfg, chassis, workCursor, work, mm, flight'.trans flight, cursor'.trans cursor,
    stall'.trans stall, fun inList => ?_, fun noRead => ?_, regs, fills, entries, gen, epoch, base,
    fun noneWaits counts => ?_⟩
  · obtain ⟨phase, reread⟩ := pending ((State.reportReadPending_iff s).2 inList)
    exact ⟨phase'.trans phase, (reread' (by rw [phase]; decide)).trans reread⟩
  · refine phase'.trans (quiet (show s.reportReadPending = false from Bool.eq_false_iff.2 fun h => ?_))
    obtain ⟨a, mem⟩ := (State.reportReadPending_iff s).1 h
    exact noRead a mem
  · rw [same noneWaits]
    exact restored counts

end Sys2Proof.Machine


/-!
# Epoch changes and PLAN_FLUSH (R66 to R69, R128, R162, R169)
-/

namespace Sys2Proof.Machine

/-! ## One event of every port, seen from one of them (log 8) -/

/-- What the events of the other ports keep stands between the part before and the port's own event, and between that
event and the part after. -/
theorem forPorts_at {R : State → State → Prop} (refl : ∀ s, R s s) (trans : ∀ {s t u}, R s t → R t u → R s u)
    (f : PortNo → State → State) (p : PortNo) (others : ∀ s q, q ≠ p → R s (f q s)) (s : State) :
    ∃ u, R s u ∧ R (f p u) (forPorts f s) := by
  obtain ⟨before, after, split⟩ := List.append_of_mem (List.mem_finRange p)
  have distinct := List.nodup_finRange 32
  rw [split, List.nodup_middle, List.nodup_cons, List.mem_append, not_or] at distinct
  obtain ⟨⟨first, last⟩, -⟩ := distinct
  have steps (l : List PortNo) (out : p ∉ l) (s : State) : R s (l.foldl (fun s q => f q s) s) :=
    List.foldlRecOn l _ (motive := fun t => R s t) (refl s) fun t ht q hq =>
      trans ht (others t q fun e => out (e ▸ hq))
  refine ⟨before.foldl (fun s q => f q s) s, steps _ first _, ?_⟩
  unfold forPorts allPorts
  rw [split, List.foldl_append, List.foldl_cons]
  exact steps _ last _

theorem SharedFrame.env {s t : State} (h : SharedFrame s t) (p : PortNo) : t.env p = s.env p := by
  obtain ⟨-, cache, -, -, ⟨-, -, -, -, -, cfg, chassis, -⟩, -⟩ := h
  unfold State.env
  rw [cache, cfg, chassis]

/-! ## Epoch changes (R68) -/

/-- What a new epoch does to a port (R68). -/
def EpochTaken (env : Env) (c d : Port) : Prop :=
  (c.st ≠ .signal → c.st ≠ .dark → c.st ≠ .agree → d = c) ∧
  ((c.st = .dark ∨ c.st = .agree ∨ (c.st = .signal ∧ c.verdict ≠ .epochWait)) → IsIdentify false c d) ∧
  ∀ far, c.st = .signal → c.verdict = .epochWait → c.farIdentity c.identifiedSet = some far →
    VerdictActed env c c.identifiedSet far d

section
variable {env : Env} {c : Port}

theorem Ctl.epochChange_stands (signal : c.st ≠ .signal) (dark : c.st ≠ .dark) (agree : c.st ≠ .agree) :
    (Ctl.start c).epochChange env = Ctl.start c := by
  unfold Ctl.epochChange
  split <;> try contradiction
  all_goals rfl

theorem Ctl.epochChange_identifies
    (h : c.st = .dark ∨ c.st = .agree ∨ (c.st = .signal ∧ c.verdict ≠ .epochWait)) :
    (Ctl.start c).epochChange env = (Ctl.start c).enterIdentify env.self false := by
  unfold Ctl.epochChange
  rw [Ctl.start_port]
  rcases h with dark | agree | ⟨signal, verdict⟩
  · rw [dark]
  · rw [agree]
  · rw [signal]
    exact if_neg fun wait => verdict (c.inWait_iff.1 wait).2

theorem Ctl.epochChange_verifies (signal : c.st = .signal) (wait : c.verdict = .epochWait) :
    (Ctl.start c).epochChange env = (Ctl.start c).verify env c.identifiedSet := by
  unfold Ctl.epochChange
  rw [Ctl.start_port, signal]
  exact if_pos (c.inWait_iff.2 ⟨signal, wait⟩)

end

/-- An epoch change at one port (R68). -/
theorem State.runPort_epochChange (s : State) (p : PortNo) :
    EpochTaken (s.env p) (s.port p) ((s.runPort p Ctl.epochChange).port p) := by
  refine ⟨fun signal dark agree => ?_, fun leaves => ?_, fun far signal wait found => ?_⟩
  · exact congrArg (State.port · p) (State.runPort_start s p Ctl.epochChange (Ctl.epochChange_stands signal dark agree))
  · have ctl : s.ctl p Ctl.epochChange = (Ctl.start (s.port p)).enterIdentify p false := Ctl.epochChange_identifies leaves
    have entered := (Ctl.start (s.port p)).enterIdentify_is p false
    rw [(State.runPort_answer s p _ _ ctl (by rw [entered.1]; simp)).port]
    exact entered
  · have ctl : s.ctl p Ctl.epochChange = (Ctl.start (s.port p)).verify (s.env p) (s.port p).identifiedSet :=
      Ctl.epochChange_verifies signal wait
    exact (State.runPort_verifies s p _ (y := s.port p) ctl rfl signal rfl found).2.1

/-- An epoch change at every port (R68). -/
theorem State.epochChanges_spec (s : State) :
    SharedFrame s s.epochChanges ∧ ∀ p, EpochTaken (s.env p) (s.port p) (s.epochChanges.port p) := by
  have frame (s : State) (q : PortNo) := State.runPort_frame s q Ctl.epochChange
  refine ⟨SharedFrame.foldl _ (fun s q => (frame s q).2) _ _, fun p => ?_⟩
  obtain ⟨u, ⟨before, shared⟩, ⟨after, -⟩⟩ :=
    forPorts_at (R := fun s t => t.port p = s.port p ∧ SharedFrame s t) (fun s => ⟨rfl, .refl s⟩)
      (fun h g => ⟨g.1.trans h.1, h.2.trans g.2⟩) (fun p s => s.runPort p Ctl.epochChange) p
      (fun s q hq => ⟨(frame s q).1 p hq.symm, (frame s q).2⟩) s
  have taken := u.runPort_epochChange p
  rw [before, shared.env, ← after] at taken
  exact taken

/-! ## Reverify (R69, R128) -/

/-- A reverify at a port with a module: its LANE_TEST ends, and it enters IDENTIFY. -/
def Ctl.reverified (env : Env) (c : Ctl) : Ctl := (c.endLaneTest .portRestarted asStop).enterIdentify env.self false

theorem Ctl.reverified_is (env : Env) (c : Port) : IsIdentify false c ((Ctl.start c).reverified env).port := by
  have entered := Ctl.enterIdentify_is ((Ctl.start c).endLaneTest .portRestarted asStop) env.self false
  obtain ⟨lanes, tests, dwell, timer, ended⟩ := Ctl.endLaneTest_port .portRestarted asStop (Ctl.start c)
  rw [ended] at entered
  exact entered

theorem State.reverify_stands {s : State} {p : PortNo} (h : (s.port p).st = .off ∨ (s.port p).st = .empty) :
    s.reverify p = s := if_pos h

theorem State.reverify_leaves {s : State} {p : PortNo} (off : (s.port p).st ≠ .off) (empty : (s.port p).st ≠ .empty) :
    s.reverify p = (s.leaveBus p Txn.cutRead).runPort p Ctl.reverified := if_neg (not_or.2 ⟨off, empty⟩)

/-- What a port's event that also leaves the bus and the plan cache's fills leaves alone. -/
def GoesOn (s t : State) : Prop :=
  SameBase s t ∧ (t.cache.entries = s.cache.entries ∧ t.cache.gen = s.cache.gen ∧ t.cache.epoch = s.cache.epoch) ∧
  SameWindow s t ∧ SameEngine s t ∧ ListGrows s t

theorem GoesOn.refl (s : State) : GoesOn s s := by
  obtain ⟨base, -, -, window, engine, list⟩ := SharedFrame.refl s
  exact ⟨base, ⟨rfl, rfl, rfl⟩, window, engine, list⟩

theorem GoesOn.trans {s t u : State} (h : GoesOn s t) (g : GoesOn t u) : GoesOn s u := by
  obtain ⟨⟨hold, straps, ms, pending⟩, ⟨entries, gen, epoch⟩, window, engine, ⟨list, age⟩⟩ := h
  obtain ⟨⟨hold', straps', ms', pending'⟩, ⟨entries', gen', epoch'⟩, window', engine', ⟨list', age'⟩⟩ := g
  exact ⟨⟨hold'.trans hold, straps'.trans straps, ms'.trans ms, pending'.trans pending⟩,
    ⟨entries'.trans entries, gen'.trans gen, epoch'.trans epoch⟩, window.trans window', engine.trans engine',
    ⟨list.trans list', age'.trans age⟩⟩

/-- Seen without the blocks that a port leaves, the part goes on as at any other event of a port. -/
theorem GoesOn.shared {s t : State} (h : GoesOn s t) :
    SharedFrame s { t with cache := s.cache, bus := s.bus, arb := s.arb } := by
  obtain ⟨base, -, window, engine, list⟩ := h
  exact ⟨base, rfl, ⟨rfl, rfl⟩, window, engine, list⟩

theorem GoesOn.of_shared {s t : State} (h : SharedFrame s t) : GoesOn s t := by
  obtain ⟨base, cache, -, window, engine, list⟩ := h
  exact ⟨base, by rw [cache]; exact ⟨rfl, rfl, rfl⟩, window, engine, list⟩

theorem State.leaveBus_goesOn (s : State) (p : PortNo) (f : Txn → Txn) : GoesOn s (s.leaveBus p f) := GoesOn.refl s

theorem State.reverify_goesOn (s : State) (p : PortNo) : GoesOn s (s.reverify p) := by
  by_cases h : (s.port p).st = .off ∨ (s.port p).st = .empty
  · rw [State.reverify_stands h]
    exact .refl s
  · rw [not_or] at h
    rw [State.reverify_leaves h.1 h.2]
    exact (s.leaveBus_goesOn p _).trans (.of_shared (State.runPort_frame _ p _).2)

/-- The slot of a port's LANE_TEST holds a LANE_TEST of the port. -/
theorem State.laneTestSlot_holds {s : State} {p : PortNo} {k : Fin 16} {j : Job} (h : s.laneTestSlot p = some (k, j)) :
    s.we.slots[k] = some j ∧ j.port = p := by
  obtain ⟨k', -, holds⟩ := List.exists_of_findSome?_eq_some h
  split at holds
  · split_ifs at holds with mine
    cases holds
    exact ⟨by assumption, mine.1⟩
  · cases holds

/-- An event that enters no awaited state completes no job of another port. -/
theorem State.settle_keepsJob {s : State} {q : PortNo} {c : Ctl} {k : Fin 16} {j : Job}
    (unsettled : c.port.st.settled = false) (slot : s.we.slots[k] = some j) (other : j.port ≠ q) :
    (s.settle q c).we.slots[k] = some j := by
  unfold State.settle
  dsimp only
  rw [if_neg (fun h => by rw [unsettled] at h; exact absurd h.1 (by decide))]
  have ended : ∀ e : TestEnd, (((s.setPort q c.port).emit c.out).finishLaneTest q e).we.slots[k] = some j := by
    intro e
    unfold State.finishLaneTest
    split
    · exact slot
    · rename_i k' j' found
      obtain ⟨held, mine⟩ := State.laneTestSlot_holds found
      rw [State.completeSlot_slots, slots_set_getElem, if_neg]
      · exact slot
      · rintro rfl
        exact other (by rw [← mine, Option.some_inj.1 (slot.symm.trans held)])
  cases c.ended <;> simp only [] <;> split_ifs <;> simp [*]

/-- What a reverify of other ports keeps of a port: its context, its jobs, and its part of the bus, the arbiter and the
plan cache. -/
structure ReverifiedElsewhere (p : PortNo) (s t : State) : Prop where
  goesOn : GoesOn s t
  port : t.port p = s.port p
  jobs : ∀ (k : Fin 16) (j : Job), s.we.slots[k] = some j → j.port = p → t.we.slots[k] = some j
  request : t.arb.requests[p] = s.arb.requests[p]
  fill : t.cache.fillPending[p] = s.cache.fillPending[p]
  read : ∀ x, s.bus.current = some x → x.port = p → t.bus.current = some x

namespace ReverifiedElsewhere

variable {p : PortNo} {s t u : State}

theorem refl (p : PortNo) (s : State) : ReverifiedElsewhere p s s :=
  ⟨.refl s, rfl, fun _ _ h _ => h, rfl, rfl, fun _ h _ => h⟩

theorem trans (h : ReverifiedElsewhere p s t) (g : ReverifiedElsewhere p t u) : ReverifiedElsewhere p s u where
  goesOn := h.goesOn.trans g.goesOn
  port := g.port.trans h.port
  jobs k j slot mine := g.jobs k j (h.jobs k j slot mine) mine
  request := g.request.trans h.request
  fill := g.fill.trans h.fill
  read x now mine := g.read x (h.read x now mine) mine

theorem reverify (s : State) {q : PortNo} (hq : q ≠ p) : ReverifiedElsewhere p s (s.reverify q) := by
  by_cases h : (s.port q).st = .off ∨ (s.port q).st = .empty
  · rw [State.reverify_stands h]
    exact .refl p s
  have goesOn := s.reverify_goesOn q
  rw [not_or] at h
  rw [State.reverify_leaves h.1 h.2] at goesOn ⊢
  obtain ⟨others, -, cache, ⟨bus, arb⟩, -⟩ := State.runPort_frame (s.leaveBus q Txn.cutRead) q Ctl.reverified
  have apart : (q : Nat) ≠ p := fun e => hq (Fin.ext e)
  have entered : ((s.leaveBus q Txn.cutRead).ctl q Ctl.reverified).port.st = .identify :=
    (Ctl.reverified_is (s.env q) (s.port q)).1
  refine ⟨goesOn, others p hq.symm, fun k j slot mine => ?_, ?_, ?_, fun x now mine => ?_⟩
  · rw [State.runPort_of_not_active _ _ _ (by rw [entered]; decide)]
    exact State.settle_keepsJob (by rw [entered]; rfl) slot (by rw [mine]; exact hq.symm)
  · rw [arb]
    simp [State.leaveBus, State.dropRequest, State.setFillPending, State.markTxn, apart]
  · rw [cache]
    simp [State.leaveBus, State.dropRequest, State.setFillPending, State.markTxn, apart]
  · rw [bus]
    have marked : (s.leaveBus q Txn.cutRead).bus.current = some (if x.port = q then x.cutRead else x) :=
      congrArg (Option.map _) now
    rw [marked, if_neg (by rw [mine]; exact hq.symm)]

/-- A LANE_TEST that runs goes on while other ports are reverified. -/
theorem testRuns (h : ReverifiedElsewhere p s t) {T : PortTest} {k : Fin 16} {tag : JobTag} (runs : TestRuns s p T k tag) :
    TestRuns t p T k tag := by
  obtain ⟨test, kind, running, slot, first⟩ := runs
  obtain ⟨-, -, -, ⟨-, -, -, -, -, -, -, -, -, slots⟩, -⟩ := h.goesOn
  refine ⟨by rw [h.port]; exact test, kind, running, h.jobs k _ slot rfl, fun k' lt j hj => ?_⟩
  rcases slots k' with same | free
  · exact first k' lt j (same ▸ hj)
  · rw [free] at hj
    cases hj

end ReverifiedElsewhere

/-- A reverify at its own port, one with a module. -/
theorem State.reverify_identifies (s : State) (p : PortNo) (off : (s.port p).st ≠ .off) (empty : (s.port p).st ≠ .empty) :
    IsIdentify false (s.port p) ((s.reverify p).port p) ∧
    LaneTestEnded p (s.port p) stopGives .portRestarted s.mm.ops s (s.reverify p) ∧
    (s.reverify p).arb.requests[p] = false ∧ (s.reverify p).cache.fillPending[p] = false ∧
    ∀ x, s.bus.current = some x → x.port = p → x.requester = .port →
      (s.reverify p).bus.current = some { x with cut := true } := by
  rw [State.reverify_leaves off empty]
  have entered := Ctl.reverified_is (s.env p) (s.port p)
  have st : ((s.leaveBus p Txn.cutRead).ctl p Ctl.reverified).port.st = .identify := entered.1
  obtain ⟨⟨port, ⟨-, -, cache, ⟨bus, arb⟩, -⟩, -, -⟩, test⟩ := State.leaves_answer (s.leaveBus p Txn.cutRead) p Ctl.reverified
    (c := Ctl.start (s.port p)) (g := asStop) (v := stopGives) rfl rfl (Ctl.enterIdentify_ended _ _ _)
    (fun T i e => T.stopVerdict_eq i e) (by rw [st]; decide) (by rw [st]; decide)
  refine ⟨by rw [port]; exact entered, test.of_same rfl rfl, ?_, ?_, fun x now mine requester => ?_⟩
  · rw [arb]
    simp [State.leaveBus, State.dropRequest, State.setFillPending, State.markTxn]
  · rw [cache]
    simp [State.leaveBus, State.dropRequest, State.setFillPending, State.markTxn]
  · rw [bus]
    have marked : (s.leaveBus p Txn.cutRead).bus.current = some (if x.port = p then x.cutRead else x) :=
      congrArg (Option.map _) now
    rw [marked, if_pos mine, Txn.cutRead, if_pos requester]

/-- A reverify of every port leaves a port in OFF or EMPTY as it is. -/
theorem State.reverifies_stands {s : State} {p : PortNo} (h : (s.port p).st = .off ∨ (s.port p).st = .empty) :
    (forPorts (fun p s => s.reverify p) s).port p = s.port p := by
  obtain ⟨u, before, after⟩ := forPorts_at (ReverifiedElsewhere.refl p) .trans (fun p s => s.reverify p) p
    (fun s _ hq => .reverify s hq) s
  rw [State.reverify_stands (by rw [before.port]; exact h)] at after
  exact after.port.trans before.port

/-- What a completion says is not changed by the part's going on. -/
theorem JobCompleted.of_engine {s u t : State} {before : List MemEntry} {tag : JobTag} {bufs : List MemOp} {st : Status}
    {n : Nat} (engine : SameEngine s u) (h : JobCompleted u t before tag bufs st n) :
    JobCompleted s t before tag bufs st n := by
  obtain ⟨-, -, -, -, anchor, -⟩ := engine
  unfold JobCompleted completionOps at *
  rw [anchor] at h
  exact h

/-- The end of a LANE_TEST, seen from before and from after the reverifies of other ports. -/
theorem LaneTestEnded.elsewhere {p : PortNo} {s u w t : State} {c : Port} {v : PortTest → LaneNo → Nat → LaneVerdict}
    {st : Status} {l : List MemEntry} (before : ReverifiedElsewhere p s u) (h : LaneTestEnded p c v st l u w)
    (after : ReverifiedElsewhere p w t) : LaneTestEnded p c v st l s t := by
  intro T k tag runs
  obtain ⟨c', closed, free, done, held⟩ := h T k tag (before.testRuns runs)
  obtain ⟨-, -, -, engine, -⟩ := before.goesOn
  have freed := slot_free_later free after.goesOn.shared
  have completed := (JobCompleted.later done after.goesOn.shared).of_engine engine
  refine ⟨c', closed, freed, completed, fun hheld => ?_⟩
  rw [after.port] at hheld ⊢
  exact held hheld

/-- A reverify of every port at a port with a module (R69, R128, R144, R147). -/
theorem State.reverifies_identifies {s : State} {p : PortNo} (off : (s.port p).st ≠ .off) (empty : (s.port p).st ≠ .empty) :
    let t := forPorts (fun p s => s.reverify p) s
    IsIdentify false (s.port p) (t.port p) ∧
    (∃ before, s.mm.ops <+: before ∧ LaneTestEnded p (s.port p) stopGives .portRestarted before s t) ∧
    t.arb.requests[p] = false ∧ t.cache.fillPending[p] = false ∧
    ∀ x, s.bus.current = some x → x.port = p → x.requester = .port → ∃ y, t.bus.current = some y ∧
      y = { x with cut := true } := by
  obtain ⟨u, before, after⟩ := forPorts_at (ReverifiedElsewhere.refl p) .trans (fun p s => s.reverify p) p
    (fun s _ hq => .reverify s hq) s
  obtain ⟨-, -, -, -, ⟨list, -⟩⟩ := before.goesOn
  have same := before.port
  obtain ⟨entered, ended, request, fill, read⟩ :=
    u.reverify_identifies p (by rw [same]; exact off) (by rw [same]; exact empty)
  rw [same] at entered ended
  refine ⟨by rw [after.port]; exact entered, ⟨u.mm.ops, list, .elsewhere before ended after⟩, after.request.trans request,
    after.fill.trans fill, fun x now mine requester => ?_⟩
  exact ⟨_, after.read _ (read x (before.read x now mine) mine requester) mine, rfl⟩

/-! ## PLAN_FLUSH (R67, R169) -/

theorem exec_planFlush (r : Request) (s : State) :
    exec (.planFlush r) s = act s fun s => s.takeRequest .planFlush r fun s => s.startFlush r := rfl

section
variable {s : State} {newEpoch : Bool} {epoch : BitVec 16}

theorem State.flushPlans_reverify :
    s.flushPlans newEpoch true epoch = forPorts (fun p s => s.reverify p) (s.flushCache newEpoch epoch) := by
  unfold State.flushPlans
  dsimp only
  rw [if_pos rfl]

theorem State.flushPlans_newEpoch (h : epoch ≠ s.cache.epoch) :
    s.flushPlans true false epoch = (s.flushCache true epoch).epochChanges := by
  unfold State.flushPlans
  dsimp only
  rw [if_neg Bool.false_ne_true, if_pos ⟨rfl, h⟩]

theorem State.flushPlans_sameEpoch (h : newEpoch = false ∨ epoch = s.cache.epoch) :
    s.flushPlans newEpoch false epoch = s.flushCache newEpoch epoch := by
  unfold State.flushPlans
  dsimp only
  rw [if_neg Bool.false_ne_true, if_neg]
  rintro ⟨on, new⟩
  rcases h with off | same
  · rw [on] at off; cases off
  · exact new same

/-- A flush without reverify leaves the blocks outside the ports to what events of ports do there. -/
theorem State.flushPlans_shared : SharedFrame (s.flushCache newEpoch epoch) (s.flushPlans newEpoch false epoch) := by
  by_cases h : newEpoch = false ∨ epoch = s.cache.epoch
  · rw [State.flushPlans_sameEpoch h]
    exact .refl _
  · rw [not_or, Bool.not_eq_false] at h
    obtain ⟨on, new⟩ := h
    rw [on, State.flushPlans_newEpoch new]
    exact (State.epochChanges_spec _).1

theorem State.flushPlans_goesOn (reverify : Bool) :
    GoesOn (s.flushCache newEpoch epoch) (s.flushPlans newEpoch reverify epoch) := by
  cases reverify with
  | true =>
    rw [State.flushPlans_reverify]
    exact List.foldlRecOn allPorts _ (motive := fun t => GoesOn (s.flushCache newEpoch epoch) t) (.refl _)
      fun t ht q _ => ht.trans (t.reverify_goesOn q)
  | false => exact .of_shared State.flushPlans_shared

end

/-- A command's answer; when its effect leaves the lines quiet, they carry the interrupt message alone. -/
theorem act_answer_message {s : State} {eff : State → State} {P : State → Prop} (hs : s.hold = .released)
    (hP : ∀ o, ((eff { s with out := [] }).out = [] → OnlyInterrupt s { eff { s with out := [] } with out := o }) →
      P { eff { s with out := [] } with out := o }) : ∃ t, act s eff = .next t ∧ P t := by
  refine ⟨_, act_released s eff hs, hP _ fun lines => OnlyInterrupt.of_message s _ ?_⟩
  show (eff { s with out := [] }).out ++ _ = _
  rw [lines]
  rfl

/-- Settles O52: the flush at the cache, then an epoch change or a reverify of every port, then the completion. -/
theorem planFlushEmptiesTheCache : Obligations.PlanFlushEmptiesTheCache := by
  intro r s hs take
  dsimp only
  rw [exec_planFlush, act_takeRequest take]
  refine act_answer_message hs fun o message => ?_
  unfold State.startFlush at message ⊢
  dsimp only at message ⊢
  generalize r.argA.getLsbD 0 = newEpoch, r.argA.getLsbD 1 = reverify, r.argB.extractLsb' 0 16 = epoch at message ⊢
  have goesOn := State.flushPlans_goesOn (s := { s with out := [] }) (newEpoch := newEpoch) (epoch := epoch) reverify
  obtain ⟨-, ⟨entries, gen, epoch'⟩, -, engine, list⟩ := id goesOn
  have number : (State.flushPlans { s with out := [] } newEpoch reverify epoch).cache.gen = s.cache.gen + 1 := gen
  rw [number] at message ⊢
  have completion := SharedFrame.completeReq (State.flushPlans { s with out := [] } newEpoch reverify epoch) r [] .ok
    (s.cache.gen + 1).toNat
  have ports := State.completeReq_ports (State.flushPlans { s with out := [] } newEpoch reverify epoch) r [] .ok
    (s.cache.gen + 1).toNat
  have last := State.completeReq_last list engine r .ok (s.cache.gen + 1).toNat
  obtain ⟨base, ⟨entries, gen, epoch'⟩, window, engine, -⟩ := goesOn.trans (.of_shared completion)
  refine ⟨entries, gen, epoch', last, base, window, engine, ?_, ?_, ?_, ?_⟩
  · rintro rfl same
    rw [State.flushPlans_sameEpoch (s := { s with out := [] }) same] at message ports ⊢
    obtain ⟨-, -, -, we, rep, -⟩ := State.completeReq_frame (State.flushCache { s with out := [] } newEpoch epoch) r [] .ok
      (s.cache.gen + 1).toNat
    exact ⟨ports, State.completeReq_completed (State.flushCache { s with out := [] } newEpoch epoch) r [] .ok _, we, rep,
      message (State.completeReq_out _ _ _ _ _)⟩
  · rintro rfl
    obtain ⟨-, cache, bus, -⟩ := State.flushPlans_shared.trans completion
    have fills := congrArg PlanCache.fillPending cache
    exact ⟨bus, fills⟩
  · rintro rfl rfl new p
    have env := (State.flushPlans_shared.trans completion).env p
    rw [State.flushPlans_newEpoch (s := { s with out := [] }) new] at ports env ⊢
    have taken := (State.epochChanges_spec (State.flushCache { s with out := [] } true epoch)).2 p
    rw [← env, ← State.port_congr ports p] at taken
    exact taken
  · rintro rfl p
    rw [State.flushPlans_reverify] at ports completion ⊢
    obtain ⟨-, cache, ⟨bus, arb⟩, -⟩ := id completion
    refine ⟨fun h => (State.port_congr ports p).trans (State.reverifies_stands h), fun ⟨off, empty⟩ => ?_⟩
    obtain ⟨entered, ⟨before, grown, ended⟩, request, fill, read⟩ :=
      State.reverifies_identifies (s := State.flushCache { s with out := [] } newEpoch epoch) off empty
    refine ⟨?_, ⟨before, grown, (ended.later completion ports).of_same rfl rfl⟩, ?_, ?_, ?_⟩
    · rw [← State.port_congr ports p] at entered
      exact entered
    · exact (congrArg (fun a : Arbiter => a.requests[p]) arb).trans request
    · exact (congrArg (fun c : PlanCache => c.fillPending[p]) cache).trans fill
    · rw [← bus] at read
      exact read

end Sys2Proof.Machine


/-!
# The return of the anchor read (R66, R68, R150 to R152, R155, R182)
-/

namespace Sys2Proof.Machine

/-! ## The entry into STOPPED (R14, R65, R182) -/

theorem State.failFill_waits {s : State} {p : PortNo} (h : s.cache.fillPending[p] = true) : s.failFill p =
    (s.setFillPending p false).runPort p fun env c => c.enterHeld env.self .planUnavailable := if_pos h

theorem State.failFill_stands {s : State} {p : PortNo} (h : s.cache.fillPending[p] = false) : s.failFill p = s :=
  if_neg (Bool.eq_false_iff.1 h)

theorem State.setFillPending_fill (s : State) (p q : PortNo) :
    (s.setFillPending p false).cache.fillPending[q] = if q = p then false else s.cache.fillPending[q] := by
  unfold State.setFillPending
  by_cases same : q = p
  · subst same; simp
  · have apart : (p : Nat) ≠ q := fun e => same (Fin.ext e.symm)
    simp [apart, same]

/-- The hold of a port that waits on a fill goes no further than a port's event. -/
theorem State.failFill_goesOn (s : State) (p : PortNo) : GoesOn s (s.failFill p) := by
  cases h : s.cache.fillPending[p] with
  | true =>
    rw [State.failFill_waits h]
    exact .trans (t := s.setFillPending p false) (.refl s) (.of_shared (State.runPort_frame _ p _).2)
  | false =>
    rw [State.failFill_stands h]
    exact .refl s

/-- The hold of a port that waits on a fill, at that port. -/
theorem State.failFill_own (s : State) (p : PortNo) : (s.failFill p).cache.fillPending[p] = false ∧
    if s.cache.fillPending[p] then IsHeld .planUnavailable (s.port p) ((s.failFill p).port p)
      else (s.failFill p).port p = s.port p := by
  cases h : s.cache.fillPending[p] with
  | true =>
    have held := (Ctl.start (s.port p)).enterHeld_is p .planUnavailable
    have answer := State.runPort_answer (s.setFillPending p false) p (fun env c => c.enterHeld env.self .planUnavailable)
      ((Ctl.start (s.port p)).enterHeld p .planUnavailable) rfl (by rw [held.1]; simp)
    rw [State.failFill_waits h, if_pos rfl]
    generalize State.runPort _ p _ = t at answer ⊢
    obtain ⟨port, ⟨-, -, cache, -⟩, -, -⟩ := answer
    rw [cache, port, State.setFillPending_fill, if_pos rfl]
    exact ⟨rfl, held⟩
  | false =>
    rw [State.failFill_stands h, if_neg (by decide)]
    exact ⟨h, rfl⟩

/-- The hold of another port leaves a port and its fill-pending flag. -/
theorem State.failFill_other (s : State) {p q : PortNo} (hq : q ≠ p) :
    (s.failFill q).port p = s.port p ∧ (s.failFill q).cache.fillPending[p] = s.cache.fillPending[p] := by
  cases h : s.cache.fillPending[q] with
  | true =>
    have frame := State.runPort_frame (s.setFillPending q false) q fun env c => c.enterHeld env.self .planUnavailable
    rw [State.failFill_waits h]
    generalize State.runPort _ q _ = t at frame ⊢
    obtain ⟨others, -, cache, -⟩ := frame
    rw [cache, State.setFillPending_fill, if_neg hq.symm]
    exact ⟨others p hq.symm, rfl⟩
  | false =>
    rw [State.failFill_stands h]
    exact ⟨rfl, rfl⟩

/-- The holds of the ports that wait on a fill, whatever jobs are in the slots (R65). -/
theorem State.failFills_holds (s : State) : GoesOn s s.failFills ∧ FillsFailed s s.failFills fun _ c => c := by
  have fold : s.failFills = forPorts (fun p s => s.failFill p) s := rfl
  rw [fold]
  have at_port (p : PortNo) : (forPorts (fun p s => s.failFill p) s).cache.fillPending[p] = false ∧
      if s.cache.fillPending[p] then IsHeld .planUnavailable (s.port p) ((forPorts (fun p s => s.failFill p) s).port p)
        else (forPorts (fun p s => s.failFill p) s).port p = s.port p := by
    obtain ⟨u, ⟨port, waits⟩, ⟨port', waits'⟩⟩ :=
      forPorts_at (R := fun s t => t.port p = s.port p ∧ t.cache.fillPending[p] = s.cache.fillPending[p])
        (fun _ => ⟨rfl, rfl⟩) (fun h g => ⟨g.1.trans h.1, g.2.trans h.2⟩) (fun p s => s.failFill p) p
        (fun s _ hq => s.failFill_other hq) s
    have own := u.failFill_own p
    rw [← port', ← waits', port, waits] at own
    exact own
  exact ⟨List.foldlRecOn allPorts _ (motive := fun t => GoesOn s t) (.refl s)
      fun t ht q _ => ht.trans (t.failFill_goesOn q),
    fun p => (at_port p).1, fun p => (at_port p).2⟩

/-! ## Events of ports while no stall is recorded (R159, R161) -/

/-- While no stall is recorded, the end of a job triggers no scan. -/
def State.ScanStands (s t : State) : Prop := s.we.stall = .noStall → t.we.scan = s.we.scan ∧ t.we.stall = .noStall

namespace State.ScanStands

variable {s t u : State}

theorem of_we (h : t.we = s.we) : s.ScanStands t := fun noStall => by rw [h]; exact ⟨rfl, noStall⟩

theorem trans (h : s.ScanStands t) (g : t.ScanStands u) : s.ScanStands u := fun noStall => by
  obtain ⟨scan, stall⟩ := h noStall
  obtain ⟨scan', stall'⟩ := g stall
  exact ⟨scan'.trans scan, stall'⟩

theorem foldl {β : Type} (f : State → β → State) (h : ∀ (s : State) (b : β), s.ScanStands (f s b)) (l : List β)
    (s : State) : s.ScanStands (l.foldl f s) :=
  List.foldlRecOn l f (motive := fun t => s.ScanStands t) (of_we rfl) fun _ ht b _ => ht.trans (h _ b)

theorem completeSlot (s : State) (k : Fin 16) (j : Job) (bufs : List MemOp) (st : Status) (n : Nat) :
    s.ScanStands (s.completeSlot k j bufs st n) := fun noStall => by
  unfold State.completeSlot State.meetStall
  rw [if_neg (by simp [noStall, meetsSlot])]
  simp [noStall]

theorem finishAwaits (s : State) (p : PortNo) : s.ScanStands (s.finishAwaits p) := by
  refine foldl _ (fun t k => ?_) _ _
  split
  · split
    · split
      · exact completeSlot _ _ _ _ _ _
      · exact of_we rfl
    · exact of_we rfl
  · exact of_we rfl

theorem finishLaneTest (s : State) (p : PortNo) (e : TestEnd) : s.ScanStands (s.finishLaneTest p e) := by
  unfold State.finishLaneTest
  split
  · exact of_we rfl
  · exact completeSlot _ _ _ _ _ _

theorem settle (s : State) (p : PortNo) (c : Ctl) : s.ScanStands (s.settle p c) := by
  have finished : s.ScanStands (match c.ended with
      | none => (s.setPort p c.port).emit c.out
      | some e => ((s.setPort p c.port).emit c.out).finishLaneTest p e) := by
    cases c.ended with
    | none => exact of_we rfl
    | some e => exact .trans (t := (s.setPort p c.port).emit c.out) (of_we rfl) (finishLaneTest _ _ _)
  have handed (t : State) : t.ScanStands (if c.kinds = 0 then t else t.handOver p c.kinds) := by
    split_ifs
    · exact of_we rfl
    · exact of_we (State.handOver_we _ _ _)
  have awaited (t : State) :
      t.ScanStands (if c.port.st.settled ∧ c.port.st ≠ (s.port p).st then t.finishAwaits p else t) := by
    split_ifs
    · exact finishAwaits _ _
    · exact of_we rfl
  exact (finished.trans (handed _)).trans (awaited _)

theorem runPort (s : State) (p : PortNo) (f : Env → Ctl → Ctl) : s.ScanStands (s.runPort p f) := by
  unfold State.runPort
  dsimp only
  split_ifs
  · refine (settle s p _).trans (foldl _ (fun t i => ?_) _ _)
    split_ifs
    · exact settle t p _
    · exact of_we rfl
  · exact settle s p _

end State.ScanStands

/-- A new epoch at every port, while no stall is recorded (R68). -/
theorem State.epochChanges_scanStands (s : State) : s.ScanStands s.epochChanges :=
  .foldl _ (fun t p => .runPort t p Ctl.epochChange) _ _

/-- A new epoch at every port reaches the report engine by the changes handed over alone (R68, R174). -/
theorem State.epochChanges_writerStands (s : State) : s.WriterStands s.epochChanges :=
  .foldl _ (fun t p => .runPort t p Ctl.epochChange) _ _

/-! ## ANCHOR_READ_DONE (R150, R182) -/

/-- The end of the anchor read, when it is the operation in progress. -/
def State.anchorDone (s : State) (b : Vector Byte 64) : State :=
  match s.memHead with
  | some ⟨.anchorRead _, abandoned⟩ => if abandoned then s.popMem else s.popMem.anchorReturned b.toList
  | _ => s

theorem exec_anchorReadDone (b : Vector Byte 64) (s : State) :
    exec (.anchorReadDone b) s = act s fun s => s.anchorDone b := rfl

section
variable {s : State} {b : Vector Byte 64} {a : Nat}

theorem State.anchorDone_idle (h : ∀ x y, ¬ InProgress s (.anchorRead x) y) : s.anchorDone b = s := by
  unfold State.anchorDone
  split
  · rename_i head
    exact absurd head (h _ _)
  · rfl

theorem State.anchorDone_abandoned (h : InProgress s (.anchorRead a) true) : s.anchorDone b = s.popMem := by
  unfold State.anchorDone
  rw [show s.memHead = _ from h]
  rfl

theorem State.anchorDone_returns (h : InProgress s (.anchorRead a) false) :
    s.anchorDone b = s.popMem.anchorReturned b.toList := by
  unfold State.anchorDone
  rw [show s.memHead = _ from h]
  rfl

end

section
variable {s : State} {b : List Byte} (starting : s.we.st = .starting)
include starting

theorem State.anchorReturned_stops (run : s.we.run = false) : s.anchorReturned b = s.enterStopped := by
  unfold State.anchorReturned
  rw [if_pos starting, run]
  rfl

theorem State.anchorReturned_halts (run : s.we.run = true) (invalid : anchorValid b = false) :
    s.anchorReturned b = s.enterHalted .anchorInvalid := by
  unfold State.anchorReturned
  rw [if_pos starting, run, invalid]
  rfl

theorem State.anchorReturned_runs (run : s.we.run = true) (valid : anchorValid b = true) :
    s.anchorReturned b = s.enterRunning b := by
  unfold State.anchorReturned
  rw [if_pos starting, run, valid]
  rfl

end

/-- The entry into STOPPED with the anchor read returned (R65, R182). -/
theorem State.enterStopped_holds (s : State) :
    let t := s.enterStopped
    (t.we.st = .stopped ∧ t.we.run = false ∧ t.we.scanTimer = none ∧ t.we.anchor = s.we.anchor ∧ t.we.cfg = s.we.cfg ∧
      t.we.chassis = s.we.chassis) ∧
    (FillsFailed s t fun _ c => c) ∧ (t.cache.entries = s.cache.entries ∧ t.cache.gen = s.cache.gen ∧
      t.cache.epoch = s.cache.epoch) ∧ SameBase s t ∧ SameBus s t := by
  have stopped := State.failFills_holds { s with we := { s.we with st := .stopped, run := false, scanTimer := none } }
  have bus := State.failFills_bus { s with we := { s.we with st := .stopped, run := false, scanTimer := none } }
  have arb := State.failFills_arb { s with we := { s.we with st := .stopped, run := false, scanTimer := none } }
  unfold State.enterStopped
  dsimp only
  generalize State.failFills _ = t at stopped bus arb ⊢
  obtain ⟨⟨base, cache, -, ⟨st, run, -, -, anchor, cfg, chassis, -, timer, -⟩, -⟩, held⟩ := stopped
  exact ⟨⟨st, run, timer, anchor, cfg, chassis⟩, held, cache, base, bus, arb⟩

/-! ## The entry into RUNNING (R66, R150 to R152, R155, R182; logs 17, 43, 44) -/

/-- The entry into RUNNING before a new epoch reaches the ports and before its triggers. -/
def State.started (s : State) (b : List Byte) : State :=
  { s with
    we := { s.we with
      st := .running, anchor := anchorOf b, cfg := configOf b
      chassis := if s.admissible (s.newChassis (configOf b)) then s.newChassis (configOf b) else s.we.chassis
      cursor := 0, scanPending := false, stall := .noStall, scanTimer := (configOf b).scanStart }
    rep := { s.rep with cursor := 0 }
    cache := { s.cache.flush with epoch := anchorEpoch b } }.lowerBudget

/-- The entry into RUNNING with a new epoch at the ports, before its triggers. -/
def State.startedPorts (s : State) (b : List Byte) : State :=
  if anchorEpoch b = s.cache.epoch then s.started b else (s.started b).epochChanges

theorem State.enterRunning_eq (s : State) (b : List Byte) :
    s.enterRunning b = (s.startedPorts b).triggerReport.triggerScan := by
  unfold State.enterRunning State.startedPorts State.started
  rfl

section
variable (s : State) (b : List Byte)

theorem State.started_port (p : PortNo) :
    (s.started b).port p = { s.port p with left := min (s.port p).left (configOf b).attemptBudget } :=
  State.port_lowerBudget _ p

theorem State.startedPorts_shared : SharedFrame (s.started b) (s.startedPorts b) :=
  .ite (.refl _) (State.epochChanges_spec _).1

theorem State.startedPorts_scanStands : (s.started b).ScanStands (s.startedPorts b) := by
  unfold State.startedPorts
  split_ifs
  · exact .of_we rfl
  · exact State.epochChanges_scanStands _

theorem State.startedPorts_cursor : (s.startedPorts b).rep.cursor = 0 := by
  unfold State.startedPorts
  split_ifs
  · rfl
  · obtain ⟨-, cursor, -⟩ := (s.started b).epochChanges_writerStands
    exact cursor

end

theorem State.triggerReport_cursor (s : State) : s.triggerReport.rep.cursor = s.rep.cursor := by
  unfold State.triggerReport
  split_ifs <;> rfl

theorem State.triggerScan_starts {s : State} (running : s.we.st = .running) (idle : s.we.scan = .noScan) :
    s.triggerScan.we.scan = .reading ∧ s.triggerScan.we.stall = .noStall ∧
    s.triggerScan.mm.ops.getLast? = some (descReadAt s s.we.cursor) := by
  unfold State.triggerScan
  rw [if_pos running, if_pos idle]
  exact ⟨rfl, rfl, List.getLast?_concat⟩

section
variable (s : State) (b : List Byte)

/-- The shared blocks at the entry into RUNNING: as started, but for what events of ports and the two triggers do. -/
theorem State.enterRunning_shared : SharedFrame (s.started b) (s.enterRunning b) := by
  rw [State.enterRunning_eq]
  exact ((s.startedPorts_shared b).trans (.triggerReport _)).trans (.triggerScan _)

theorem State.enterRunning_cursor : (s.enterRunning b).rep.cursor = 0 := by
  rw [State.enterRunning_eq, State.triggerScan_rep, State.triggerReport_cursor, State.startedPorts_cursor]

/-- The scan that the entry into RUNNING starts (R155). -/
theorem State.enterRunning_scan (idle : s.we.scan = .noScan) :
    (s.enterRunning b).we.scan = .reading ∧ (s.enterRunning b).we.stall = .noStall ∧
    (s.enterRunning b).mm.ops.getLast? = some ⟨.descRead (leField b 4 8), false⟩ := by
  obtain ⟨-, -, -, -, ⟨running, -, -, -, anchor, -, -, cursor, -⟩, -⟩ := s.startedPorts_shared b
  obtain ⟨scan, -⟩ := s.startedPorts_scanStands b rfl
  have started := State.triggerScan_starts (s := (s.startedPorts b).triggerReport)
    (by rw [State.triggerReport_we]; exact running) (by rw [State.triggerReport_we]; exact scan.trans idle)
  have address : descReadAt (s.startedPorts b).triggerReport (s.startedPorts b).triggerReport.we.cursor =
      ⟨.descRead (leField b 4 8), false⟩ := by
    unfold descReadAt
    rw [State.triggerReport_we, anchor, cursor]
    rfl
  rw [address] at started
  rw [State.enterRunning_eq]
  exact started

/-- A port at the entry into RUNNING: its attempts left are lowered, then it takes a new epoch (R66, R68; log 17). -/
theorem State.enterRunning_port (p : PortNo) :
    (anchorEpoch b = s.cache.epoch → (s.enterRunning b).port p = (s.started b).port p) ∧
    (anchorEpoch b ≠ s.cache.epoch →
      EpochTaken ((s.enterRunning b).env p) ((s.started b).port p) ((s.enterRunning b).port p)) := by
  have ports : (s.enterRunning b).ports = (s.startedPorts b).ports := by
    rw [State.enterRunning_eq, State.triggerScan_ports, State.triggerReport_ports]
  rw [(s.enterRunning_shared b).env, State.port_congr ports]
  refine ⟨fun same => ?_, fun new => ?_⟩
  · exact congrArg (State.port · p) (if_pos same)
  · have taken := (s.started b).epochChanges_spec.2 p
    rw [show s.startedPorts b = (s.started b).epochChanges from if_neg new]
    exact taken

end

/-- Settles O35: the end of the anchor read, by what is in progress, RUN and the checks of the anchor. -/
theorem theAnchorReadDecidesTheStart : Obligations.TheAnchorReadDecidesTheStart := by
  intro b a s hs
  rw [exec_anchorReadDone]
  refine ⟨fun idle => act_idle hs (State.anchorDone_idle (s := { s with out := [] }) idle), fun head => ?_,
    fun head starting run => ?_, fun head starting run invalid => ?_, fun head starting run valid => ?_⟩
  · have effect := State.anchorDone_abandoned (s := { s with out := [] }) (b := b) head
    rw [act_same_regs hs (by rw [effect]; rfl), effect]
    rfl
  all_goals
    refine act_answer hs fun o => ?_
    rw [State.anchorDone_returns (s := { s with out := [] }) head]
  · rw [State.anchorReturned_stops (s := State.popMem { s with out := [] }) starting run]
    have entry := State.enterStopped_holds (State.popMem { s with out := [] })
    dsimp only at entry
    generalize State.enterStopped _ = t at entry ⊢
    obtain ⟨⟨st, run, timer, anchor, cfg, chassis⟩, held, ⟨entries, gen, epoch⟩, base, bus⟩ := entry
    exact ⟨st, run, timer, anchor, cfg, chassis, held, entries, gen, epoch, base, bus⟩
  · rw [State.anchorReturned_halts (s := State.popMem { s with out := [] }) starting run invalid]
    have entry := State.enterHalted_spec (State.popMem { s with out := [] }) .anchorInvalid
    have writer := State.enterHalted_writerStands (State.popMem { s with out := [] }) .anchorInvalid
    dsimp only at entry
    generalize State.enterHalted _ _ = t at entry writer ⊢
    obtain ⟨⟨st, run, cause, anchor, cfg, chassis, cursor⟩, work, -, regs, fills, ⟨entries, gen, epoch⟩, base⟩ := entry
    exact ⟨st, run, cause, anchor, cfg, chassis, cursor, writer.1, regs, work, fills, entries, gen, epoch, base⟩
  · rw [State.anchorReturned_runs (s := State.popMem { s with out := [] }) starting run valid]
    have shared := State.enterRunning_shared (State.popMem { s with out := [] }) b.toList
    have cursor := State.enterRunning_cursor (State.popMem { s with out := [] }) b.toList
    have scan := State.enterRunning_scan (State.popMem { s with out := [] }) b.toList
    have ports := State.enterRunning_port (State.popMem { s with out := [] }) b.toList
    dsimp only
    generalize State.enterRunning _ _ = t at shared cursor scan ports ⊢
    obtain ⟨base, cache, bus, ⟨anchorReg, mask, -⟩, ⟨st, run', -, -, anchor, cfg, chassis, take, timer, -⟩, -⟩ := shared
    have entries := congrArg PlanCache.entries cache
    have gen := congrArg PlanCache.gen cache
    have epoch := congrArg PlanCache.epoch cache
    refine ⟨st, run'.trans run, anchor, cfg, chassis, take, cursor, timer, scan, entries, gen, epoch, base, bus, anchorReg,
      mask, fun p => ?_⟩
    obtain ⟨same, new⟩ := ports p
    rw [State.started_port] at same new
    by_cases epoch : anchorEpoch b.toList = s.cache.epoch
    · exact ⟨fun _ => same epoch, fun _ _ _ => same epoch, fun h => absurd epoch h, fun _ h => absurd epoch h⟩
    · obtain ⟨stands, identifies, verifies⟩ := new epoch
      exact ⟨fun h => absurd h epoch, stands, fun _ => identifies, fun far _ => verifies far⟩

end Sys2Proof.Machine

/-!
# The ordered checks of verification (R73 to R82, R89)

Each test that `Port.verdictOf` and its plan and loopback paths make is tied to the condition of its rule; the verdict is
then one equation per check, in the order of R75.
-/

namespace Sys2Proof.Machine

/-! ## The conditions of the checks (R76 to R81) -/

/-- R77: some lane of the verified set hears another cable end than the port's far identity. -/
def Port.HearsOther (c : Port) (vs : LaneSet) (far : CableEnd) : Prop :=
  ∃ i f, hasLane vs i = true ∧ (c.lane i).far = some f ∧ (⟨f.chassis, f.port⟩ : CableEnd) ≠ far

/-- R78: the far end says that it hears another port. -/
def Port.SeenAsOther (env : Env) (c : Port) (vs : LaneSet) : Prop :=
  ∃ b, SeenIdentity c vs b ∧ ¬ (b.seenChassis = env.chassis ∧ b.seenPort.toNat = env.self.val)

/-- R79: some lane of the verified set hears another epoch. -/
def Port.HearsOtherEpoch (env : Env) (c : Port) (vs : LaneSet) : Prop :=
  ∃ i f, hasLane vs i = true ∧ (c.lane i).far = some f ∧ f.epoch ≠ env.epoch

/-- R76, R81: two lanes of the verified set hear one far lane. -/
def Port.HearsOneLaneTwice (c : Port) (vs : LaneSet) : Prop :=
  ∃ i j f h, i < j ∧ hasLane vs i = true ∧ hasLane vs j = true ∧ (c.lane i).far = some f ∧ (c.lane j).far = some h ∧
    f.lane = h.lane

/-- R81: every lane of the verified set hears the far lane of the plan. -/
def Port.HearsPlannedLanes (c : Port) (vs : LaneSet) (pc : PlanCopy) : Prop :=
  ∀ i, hasLane vs i = true → ∃ f, (c.lane i).far = some f ∧ f.lane = pc.laneMap.extractLsb' (2 * i.val) 2

/-- R80: the far end is the planned one, under the plan's mask and any-port flag. -/
def PlanCopy.NamesEnd (pc : PlanCopy) (far : CableEnd) : Prop :=
  (far.chassis ^^^ pc.farChassis) &&& pc.mask = 0 ∧ (pc.anyPort = true ∨ far.port = pc.farPort)

theorem Port.anyFar_iff (c : Port) (vs : LaneSet) (test : Ident → Bool) :
    c.anyFar vs test = true ↔ ∃ i f, hasLane vs i = true ∧ (c.lane i).far = some f ∧ test f = true := by
  unfold Port.anyFar
  rw [List.any_eq_true]
  constructor
  · rintro ⟨i, -, h⟩
    obtain ⟨lane, holds⟩ := Bool.and_eq_true_iff.1 h
    cases heard : (c.lane i).far with
    | none => simp [heard] at holds
    | some f => exact ⟨i, f, lane, heard, by simpa [heard] using holds⟩
  · rintro ⟨i, f, lane, heard, holds⟩
    exact ⟨i, mem_allLanes i, by simpa [lane, heard] using holds⟩

theorem Port.anyFar_other_iff (c : Port) (vs : LaneSet) (far : CableEnd) :
    c.anyFar vs (fun f => f.chassis ≠ far.chassis || f.port ≠ far.port) = true ↔ c.HearsOther vs far := by
  rw [Port.anyFar_iff]
  refine exists_congr fun i => exists_congr fun f => and_congr_right fun _ => and_congr_right fun _ => ?_
  obtain ⟨chassis, port⟩ := far
  simp [imp_iff_not_or]

theorem Port.anyFar_epoch_iff (env : Env) (c : Port) (vs : LaneSet) :
    c.anyFar vs (fun f => f.epoch ≠ env.epoch) = true ↔ c.HearsOtherEpoch env vs := by
  simp only [Port.anyFar_iff, decide_eq_true_eq, Port.HearsOtherEpoch]

theorem BeaconPart.seesUs_iff (env : Env) (b : BeaconPart) :
    b.seesUs env = true ↔ b.seenChassis = env.chassis ∧ b.seenPort.toNat = env.self.val := by
  have range := env.self.isLt
  unfold BeaconPart.seesUs
  rw [Bool.and_eq_true, decide_eq_true_eq, decide_eq_true_eq, ← BitVec.toNat_inj (x := b.seenPort), BitVec.toNat_ofNat,
    Nat.mod_eq_of_lt (by omega)]

/-- The test of check 3 in `Port.verdictOf`, made on the seen identity. -/
def Port.halfCrossed (env : Env) (c : Port) (vs : LaneSet) : Bool :=
  match c.seenIdentity vs with
  | some b => !b.seesUs env
  | none => false

theorem Port.halfCrossed_iff (env : Env) (c : Port) (vs : LaneSet) :
    c.halfCrossed env vs = true ↔ c.SeenAsOther env vs := by
  unfold Port.halfCrossed Port.SeenAsOther
  simp only [← Port.seenIdentity_iff, ← BeaconPart.seesUs_iff]
  cases c.seenIdentity vs <;> simp

theorem Port.repeatsFarLane_iff (c : Port) (vs : LaneSet) : c.repeatsFarLane vs = true ↔ c.HearsOneLaneTwice vs := by
  unfold Port.repeatsFarLane Port.HearsOneLaneTwice
  simp only [List.any_eq_true, Bool.and_eq_true, decide_eq_true_eq, mem_allLanes, true_and]
  refine exists_congr fun i => exists_congr fun j => ?_
  cases (c.lane i).far <;> cases (c.lane j).far <;> simp [and_assoc]

theorem Port.mapMatches_iff (c : Port) (pc : PlanCopy) (vs : LaneSet) :
    c.mapMatches pc vs = true ↔ c.HearsPlannedLanes vs pc := by
  unfold Port.mapMatches Port.HearsPlannedLanes
  simp only [List.all_eq_true, mem_allLanes, true_imp_iff]
  refine forall_congr' fun i => ?_
  rw [Bool.or_eq_true, Bool.not_eq_true', ← Bool.not_eq_true, ← imp_iff_not_or]
  refine imp_congr_right fun _ => ?_
  cases (c.lane i).far with
  | none => simp
  | some f => exact decide_eq_true_iff.trans (by simp [PlanCopy.farLane])

theorem PlanCopy.matchesEnd_iff (pc : PlanCopy) (far : CableEnd) : pc.matchesEnd far = true ↔ pc.NamesEnd far := by
  simp [PlanCopy.matchesEnd, PlanCopy.NamesEnd]

/-! ## The loopback path (R76) -/

section
variable {env : Env} {c : Port} {vs : LaneSet} {far : CableEnd} {pc : PlanCopy}

theorem Port.verdictOf_own (own : far = ⟨env.chassis, portBits env.self⟩) :
    c.verdictOf env vs far = c.loopbackVerdict env vs := if_pos own

theorem Port.loopbackVerdict_unplanned (unplanned : ∀ pc, c.plan = .planned pc → pc.loopback = false) :
    c.loopbackVerdict env vs = .loopback := by
  unfold Port.loopbackVerdict
  cases plan : c.plan with
  | planned pc => exact if_neg (Bool.eq_false_iff.1 (unplanned pc plan))
  | notLookedUp => rfl
  | unplanned => rfl

theorem Port.loopbackVerdict_planned (plan : c.plan = .planned pc) (loopback : pc.loopback = true) :
    (c.HearsOther vs ⟨env.chassis, portBits env.self⟩ → c.loopbackVerdict env vs = .split) ∧
    (¬ c.HearsOther vs ⟨env.chassis, portBits env.self⟩ → c.HearsOneLaneTwice vs →
      c.loopbackVerdict env vs = .lanesCrossed) ∧
    (¬ c.HearsOther vs ⟨env.chassis, portBits env.self⟩ → ¬ c.HearsOneLaneTwice vs →
      c.loopbackVerdict env vs = .loopbackOk) := by
  rw [← Port.anyFar_other_iff, ← Port.repeatsFarLane_iff]
  unfold Port.loopbackVerdict
  rw [plan]
  dsimp only
  rw [if_pos loopback]
  exact ⟨fun other => if_pos other, fun one twice => (if_neg one).trans (if_pos twice),
    fun one once => (if_neg one).trans (if_neg once)⟩

/-! ## The checks of another far end (R75, R77 to R79) -/

section
variable (foreign : far ≠ ⟨env.chassis, portBits env.self⟩)
include foreign

theorem Port.verdictOf_split (other : c.HearsOther vs far) : c.verdictOf env vs far = .split :=
  (if_neg foreign).trans (if_pos ((c.anyFar_other_iff vs far).2 other))

variable (one : ¬ c.HearsOther vs far)
include one

theorem Port.verdictOf_unsplit : c.verdictOf env vs far =
    if c.halfCrossed env vs then .halfCrossed
    else if c.anyFar vs (fun f => f.epoch ≠ env.epoch) then .epochWait
    else c.planVerdict vs far :=
  (if_neg foreign).trans (if_neg (mt (c.anyFar_other_iff vs far).1 one))

theorem Port.verdictOf_halfCrossed (unseen : c.SeenAsOther env vs) : c.verdictOf env vs far = .halfCrossed :=
  (Port.verdictOf_unsplit foreign one).trans (if_pos ((c.halfCrossed_iff env vs).2 unseen))

variable (seen : ¬ c.SeenAsOther env vs)
include seen

theorem Port.verdictOf_uncrossed : c.verdictOf env vs far =
    if c.anyFar vs (fun f => f.epoch ≠ env.epoch) then .epochWait else c.planVerdict vs far :=
  (Port.verdictOf_unsplit foreign one).trans (if_neg (mt (c.halfCrossed_iff env vs).1 seen))

theorem Port.verdictOf_epochWait (stale : c.HearsOtherEpoch env vs) : c.verdictOf env vs far = .epochWait :=
  (Port.verdictOf_uncrossed foreign one seen).trans (if_pos ((c.anyFar_epoch_iff env vs).2 stale))

theorem Port.verdictOf_plan (fresh : ¬ c.HearsOtherEpoch env vs) : c.verdictOf env vs far = c.planVerdict vs far :=
  (Port.verdictOf_uncrossed foreign one seen).trans (if_neg (mt (c.anyFar_epoch_iff env vs).1 fresh))

end

/-! ## The plan comparison (R80 to R82) -/

theorem Port.planVerdict_unplanned (plan : c.plan = .unplanned ∨ c.plan = .notLookedUp) :
    (c.HearsOneLaneTwice vs → c.planVerdict vs far = .lanesCrossed) ∧
    (¬ c.HearsOneLaneTwice vs → c.planVerdict vs far = .unplanned) := by
  have only : c.planVerdict vs far = if c.repeatsFarLane vs then .lanesCrossed else .unplanned := by
    unfold Port.planVerdict
    rcases plan with plan | plan <;> rw [plan]
  rw [only, ← Port.repeatsFarLane_iff]
  exact ⟨fun twice => if_pos twice, fun once => if_neg once⟩

section
variable (plan : c.plan = .planned pc)
include plan

theorem Port.planVerdict_miswired (other : pc.loopback = true ∨ ¬ pc.NamesEnd far) :
    c.planVerdict vs far = .miswired := by
  unfold Port.planVerdict
  rw [plan]
  exact if_pos (by simpa [← PlanCopy.matchesEnd_iff] using other)

variable (straight : pc.loopback = false) (named : pc.NamesEnd far)
include straight named

theorem Port.planVerdict_named : c.planVerdict vs far =
    if c.repeatsFarLane vs then .lanesCrossed
    else if c.mapMatches pc vs then .matched
    else if pc.remap then .remapped
    else .lanesCrossed := by
  unfold Port.planVerdict
  rw [plan]
  exact if_neg (by simp [straight, (pc.matchesEnd_iff far).2 named])

theorem Port.planVerdict_crossed (twice : c.HearsOneLaneTwice vs) : c.planVerdict vs far = .lanesCrossed :=
  (Port.planVerdict_named plan straight named).trans (if_pos ((c.repeatsFarLane_iff vs).2 twice))

variable (once : ¬ c.HearsOneLaneTwice vs)
include once

theorem Port.planVerdict_matched (mapped : c.HearsPlannedLanes vs pc) : c.planVerdict vs far = .matched :=
  (Port.planVerdict_named plan straight named).trans
    ((if_neg (mt (c.repeatsFarLane_iff vs).1 once)).trans (if_pos ((c.mapMatches_iff pc vs).2 mapped)))

theorem Port.planVerdict_remapped (moved : ¬ c.HearsPlannedLanes vs pc) :
    c.planVerdict vs far = if pc.remap then .remapped else .lanesCrossed :=
  (Port.planVerdict_named plan straight named).trans
    ((if_neg (mt (c.repeatsFarLane_iff vs).1 once)).trans (if_neg (mt (c.mapMatches_iff pc vs).1 moved)))

end

end

/-! ## The far identity, the observed map and the role (R73, R81, R89) -/

theorem Port.farIdentity_lowest {c : Port} {vs : LaneSet} {i : LaneNo} {f : Ident} (lane : hasLane vs i = true)
    (lowest : ∀ j, j < i → hasLane vs j = false) (heard : (c.lane i).far = some f) :
    c.farIdentity vs = some ⟨f.chassis, f.port⟩ := by
  unfold Port.farIdentity
  rw [(lowestLane_eq_some vs i).2 ⟨lane, lowest⟩]
  exact congrArg (Option.map _) heard

theorem Port.isPresent_iff (c : Port) (i : LaneNo) :
    c.isPresent i = true ↔ ∃ m, c.ident = some m ∧ i.val < m.lanes := by
  unfold Port.isPresent
  cases c.ident <;> simp

theorem Port.observe_getElem (c : Port) (vs : LaneSet) (i : LaneNo) :
    (c.observe vs)[i] = if hasLane vs i = true then (c.lane i).far.map Ident.lane else none :=
  Vector.getElem_ofFn i.isLt

theorem Verdict.passes_iff (v : Verdict) :
    v.passes = true ↔ v = .matched ∨ v = .remapped ∨ v = .loopbackOk ∨ v = .unplanned := by
  cases v <;> decide

/-- R89: chassis first, then port, is the order of the numbers that the two fields make up. -/
theorem lowerEnd_iff (a b : BitVec 16) (p q : BitVec 5) :
    a < b ∨ a = b ∧ p < q ↔ a.toNat * 32 + p.toNat < b.toNat * 32 + q.toNat := by
  have hp := p.isLt
  have hq := q.isLt
  rw [BitVec.lt_def, BitVec.lt_def, ← BitVec.toNat_inj]
  omega

theorem portBits_toNat (p : PortNo) : (portBits p).toNat = p.val := by
  rw [portBits, BitVec.toNat_ofNat, Nat.mod_eq_of_lt p.isLt]

theorem electRole_eq (env : Env) (v : Verdict) (far : CableEnd) : electRole env v far =
    if v = .loopbackOk then .self
    else if v = .matched ∨ v = .remapped ∨ v = .unplanned then
      if env.chassis.toNat * 32 + env.self.val < far.chassis.toNat * 32 + far.port.toNat then .lead else .follow
    else .noRole := by
  unfold electRole
  simp only [lowerEnd_iff, portBits_toNat]
  cases v <;> rfl

/-- Settles O57: one clause per check in the order of R75, from the condition of each check and the equation it gives. -/
theorem theVerdictIsTheFirstCheckThatFails : Obligations.TheVerdictIsTheFirstCheckThatFails := by
  intro env c vs far
  refine ⟨fun i f lane lowest heard => Port.farIdentity_lowest lane lowest heard,
    fun i => ⟨?identified, ?present, ?heard, c.observe_getElem vs i⟩,
    fun own unplanned => (Port.verdictOf_own own).trans (Port.loopbackVerdict_unplanned unplanned),
    fun pc own plan loopback => ?loopback, Port.verdictOf_split, Port.verdictOf_halfCrossed, Port.verdictOf_epochWait,
    fun foreign one seen fresh => ?plan, Verdict.passes_iff _, electRole_eq env _ far⟩
  case identified => rw [Port.hasLane_identifiedSet, Option.isSome_iff_ne_none]
  case present => rw [Port.hasLane_presentSet, Port.isPresent_iff]
  case heard => rw [Port.heardSet, hasLane_and, Bool.and_eq_true]
  case loopback =>
    subst own
    rw [Port.verdictOf_own rfl]
    exact Port.loopbackVerdict_planned plan loopback
  case plan =>
    rw [Port.verdictOf_plan foreign one seen fresh]
    exact ⟨Port.planVerdict_unplanned, fun pc plan => ⟨Port.planVerdict_miswired plan, Port.planVerdict_crossed plan,
      Port.planVerdict_matched plan, Port.planVerdict_remapped plan⟩⟩

end Sys2Proof.Machine


/-!
# Caps, the lane-set rule, the grade rule and the close of a failed attempt (R15, R93 to R96)
-/

namespace Sys2Proof.Machine

/-! ## Sets of grades and of widths -/

theorem hasGrade_gradesWhere (f : Grade → Bool) (g : Grade) : hasGrade (gradesWhere f) g = f g := by
  unfold gradesWhere Grade.all hasGrade
  simp only [List.foldl]
  cases h1 : f .g1 <;> cases h2 : f .g2 <;> cases h3 : f .g3 <;> cases h4 : f .g4 <;> cases g <;>
    simp [Grade.num, h1, h2, h3, h4]

theorem hasWidth_iff (m : BitVec 3) (w : Nat) : hasWidth m w = true ↔
    w = 1 ∧ m.getLsbD 0 = true ∨ w = 2 ∧ m.getLsbD 1 = true ∨ w = 4 ∧ m.getLsbD 2 = true := by
  by_cases width : w = 1 ∨ w = 2 ∨ w = 4
  · rcases width with rfl | rfl | rfl <;> simp [hasWidth, widthBit]
  · obtain ⟨one, two, four⟩ := by simpa only [not_or] using width
    have none : widthBit w = none := by
      unfold widthBit
      split
      · exact absurd rfl one
      · exact absurd rfl two
      · exact absurd rfl four
      · rfl
    simp [hasWidth, none, one, two, four]

theorem hasWidth_widthsWhere (f : Nat → Bool) (w : Nat) :
    hasWidth (widthsWhere f) w = true ↔ (w = 1 ∨ w = 2 ∨ w = 4) ∧ f w = true := by
  have bits : (widthsWhere f).getLsbD 0 = f 1 ∧ (widthsWhere f).getLsbD 1 = f 2 ∧ (widthsWhere f).getLsbD 2 = f 4 := by
    unfold widthsWhere
    cases f 1 <;> cases f 2 <;> cases f 4 <;> decide
  obtain ⟨one, two, four⟩ := bits
  rw [hasWidth_iff, one, two, four]
  constructor
  · rintro (⟨rfl, on⟩ | ⟨rfl, on⟩ | ⟨rfl, on⟩) <;> simp [on]
  · rintro ⟨rfl | rfl | rfl, on⟩ <;> simp [on]

/-! ## The own caps (R15) -/

theorem PlanStatus.hasGrade_grades (plan : PlanStatus) (g : Grade) : hasGrade plan.grades g = true ↔
    ∀ pc, plan = .planned pc → pc.grades = 0 ∨ hasGrade pc.grades g = true := by
  have all : hasGrade 0xF g = true := by cases g <;> decide
  cases plan with
  | notLookedUp => simpa [PlanStatus.grades] using all
  | unplanned => simpa [PlanStatus.grades] using all
  | planned pc =>
    by_cases none : pc.grades = 0#4
    · simpa [PlanStatus.grades, none] using all
    · simp [PlanStatus.grades, none]

/-- A minimum that is no width reads as 1 (R56). -/
theorem PlanStatus.minWidth_le (plan : PlanStatus) {w : Nat} (width : 1 ≤ w) : plan.minWidth ≤ w ↔
    ∀ pc, plan = .planned pc → (pc.minWidth = 1 ∨ pc.minWidth = 2 ∨ pc.minWidth = 4) → pc.minWidth.toNat ≤ w := by
  have isWidth : ∀ m : Byte, (widthBit m.toNat).isSome = true ↔ m = 1#8 ∨ m = 2#8 ∨ m = 4#8 := by decide
  cases plan with
  | notLookedUp => simpa [PlanStatus.minWidth] using width
  | unplanned => simpa [PlanStatus.minWidth] using width
  | planned pc =>
    unfold PlanStatus.minWidth
    dsimp only
    split_ifs with given
    · have listed := (isWidth _).1 given
      simp [listed]
    · have unlisted := mt (isWidth _).2 given
      simp [width, unlisted]

theorem underCeiling_iff (v ceil : Nat) : underCeiling v ceil = true ↔ ceil = 0 ∨ v ≤ ceil := by
  simp [underCeiling]

/-- The effective maximum of a module bounds a grade as the module's own maximum and its reach do (R15). -/
theorem ModuleId.le_maxGrade (m : ModuleId) (g : Grade) : g.num ≤ m.maxGrade ↔ g.num ≤ max 1 (min m.grade.toNat 4) ∧
    g.num ≤ if m.kind ≠ .passiveCopper ∨ m.length.toNat ≤ 20 then 4 else if m.length.toNat ≤ 30 then 3
      else if m.length.toNat ≤ 50 then 2 else 1 := by
  have four : g.num ≤ 4 := by cases g <;> decide
  unfold ModuleId.maxGrade reachCap
  by_cases copper : m.kind = .passiveCopper
  · simp [copper]
  · simp [copper, four]

theorem Port.computeCaps_grades {c : Port} {m : ModuleId} (ident : c.ident = some m) (g : Grade) :
    hasGrade c.computeCaps.capGrades g = true ↔ g.num ≤ m.maxGrade ∧ hasGrade c.plan.grades g = true ∧
      (c.gradeCeil = 0 ∨ g.num ≤ c.gradeCeil) := by
  unfold Port.computeCaps
  rw [ident]
  dsimp only
  rw [hasGrade_gradesWhere, Bool.and_eq_true, Bool.and_eq_true, decide_eq_true_iff, underCeiling_iff, and_assoc]

theorem Port.computeCaps_widths {c : Port} {m : ModuleId} (ident : c.ident = some m) (w : Nat) :
    hasWidth c.computeCaps.capWidths w = true ↔ (w = 1 ∨ w = 2 ∨ w = 4) ∧ w ≤ m.lanes ∧ c.plan.minWidth ≤ w ∧
      (c.widthCeil = 0 ∨ w ≤ c.widthCeil) := by
  unfold Port.computeCaps
  rw [ident]
  dsimp only
  rw [hasWidth_widthsWhere, Bool.and_eq_true, Bool.and_eq_true, decide_eq_true_iff, decide_eq_true_iff,
    underCeiling_iff, and_assoc]

theorem Port.computeCaps_empty {c : Port} (ident : c.ident = none) :
    c.computeCaps.capGrades = 0 ∧ c.computeCaps.capWidths = 0 := by
  unfold Port.computeCaps
  rw [ident]
  exact ⟨rfl, rfl⟩

/-! ## The common sets (R93, R110) -/

/-- A lane of the usable set whose record the far end sent. -/
def Port.HeardFromFar (c : Port) (i : LaneNo) (b : BeaconPart) : Prop :=
  hasLane c.usable i = true ∧ (c.lane i).beaconPart = some b ∧ c.far = some ⟨b.sender.chassis, b.sender.port⟩

/-- The caps that a lane's record gives, when the far end sent it. -/
def Port.capsOn (c : Port) (i : LaneNo) : Option (BitVec 4 × BitVec 3) :=
  ((c.lane i).beaconPart.filter fun b => c.fromFar b).map fun b => (b.grades, b.widths)

theorem Port.capsOn_eq_some (c : Port) (i : LaneNo) (x : BitVec 4 × BitVec 3) :
    (hasLane c.usable i = true ∧ c.capsOn i = some x) ↔ ∃ b, c.HeardFromFar i b ∧ x = (b.grades, b.widths) := by
  unfold Port.capsOn Port.HeardFromFar Port.fromFar
  simp only [Option.map_eq_some_iff, Option.filter_eq_some_iff, decide_eq_true_iff, and_assoc, exists_and_left,
    eq_comm (a := x)]

/-- The far end's caps are those of the first such record. -/
theorem Port.farCaps_eq {c : Port} (role : c.role ≠ .self) :
    c.farCaps = ((allLanes.filter (hasLane c.usable)).findSome? c.capsOn).getD (0, 0) := by
  refine (if_neg role).trans ?_
  congr 2
  funext i
  unfold Port.capsOn Lane.beaconPart
  cases (c.lane i).neg with
  | none => rfl
  | some r =>
    cases beacon : r.beacon with
    | none => simp [beacon]
    | some b => cases far : c.fromFar b <;> simp [beacon, far]

theorem Port.farCaps_first {c : Port} {i : LaneNo} {b : BeaconPart} (role : c.role ≠ .self) (heard : c.HeardFromFar i b)
    (before : ∀ j b', j < i → ¬ c.HeardFromFar j b') : c.farCaps = (b.grades, b.widths) := by
  obtain ⟨usable, caps⟩ := (c.capsOn_eq_some i _).2 ⟨b, heard, rfl⟩
  have found : (allLanes.filter (hasLane c.usable)).findSome? c.capsOn = some (b.grades, b.widths) :=
    (allLanes_findSome_iff _ _ _).2 ⟨i, usable, caps, fun j less on =>
      Option.eq_none_iff_forall_ne_some.2 fun x other => by
        obtain ⟨b', heard', -⟩ := (c.capsOn_eq_some j x).1 ⟨on, other⟩
        exact before j b' less heard'⟩
  rw [Port.farCaps_eq role, found]
  rfl

theorem Port.farCaps_unheard {c : Port} (role : c.role ≠ .self) (unheard : ∀ i b, ¬ c.HeardFromFar i b) :
    c.farCaps = (0, 0) := by
  have nothing : (allLanes.filter (hasLane c.usable)).findSome? c.capsOn = none :=
    Option.eq_none_iff_forall_ne_some.2 fun x found => by
      obtain ⟨i, usable, caps, -⟩ := (allLanes_findSome_iff _ _ _).1 found
      obtain ⟨b, heard, -⟩ := (c.capsOn_eq_some i x).1 ⟨usable, caps⟩
      exact unheard i b heard
  rw [Port.farCaps_eq role, nothing]
  rfl

/-! ## The lane-set rule (R94) -/

/-- All four lanes, else a pair, the lower one first, else the lowest lane. -/
theorem laneSetRule_eq_some (W : BitVec 3) (U S : LaneSet) : laneSetRule W U = some S ↔
    (hasWidth W 4 = true ∧ U = 0b1111 ∧ S = 0b1111) ∨
    (¬ (hasWidth W 4 = true ∧ U = 0b1111) ∧ hasWidth W 2 = true ∧ U &&& 0b0011 = 0b0011 ∧ S = 0b0011) ∨
    (¬ (hasWidth W 4 = true ∧ U = 0b1111) ∧ hasWidth W 2 = true ∧ U &&& 0b0011 ≠ 0b0011 ∧ U &&& 0b1100 = 0b1100 ∧
      S = 0b1100) ∨
    (¬ (hasWidth W 4 = true ∧ U = 0b1111) ∧
      ¬ (hasWidth W 2 = true ∧ (U &&& 0b0011 = 0b0011 ∨ U &&& 0b1100 = 0b1100)) ∧ hasWidth W 1 = true ∧
      ∃ i : LaneNo, hasLane U i = true ∧ (∀ j, hasLane U j = true → i ≤ j) ∧ S = 1#4 <<< i.val) := by
  have all : subset 0b1111 U = true ↔ U = 0b1111 := by revert U; decide
  have lower : subset 0b0011 U = true ↔ U &&& 0b0011 = 0b0011 := by revert U; decide
  have upper : subset 0b1100 U = true ↔ U &&& 0b1100 = 0b1100 := by revert U; decide
  have single : (lowestLane U).map (fun i => lanesWhere (· = i)) = some S ↔
      ∃ i : LaneNo, hasLane U i = true ∧ (∀ j, hasLane U j = true → i ≤ j) ∧ S = 1#4 <<< i.val := by
    have bit : ∀ i : LaneNo, lanesWhere (· = i) = 1#4 <<< i.val := by decide
    simp only [Option.map_eq_some_iff, lowestLane_eq_some, bit, and_assoc]
    refine exists_congr fun i => and_congr_right fun _ => and_congr (forall_congr' fun j => ?_) eq_comm
    rw [← Bool.not_eq_true, ← not_lt, imp_not_comm]
  have chosen : ∀ a : LaneSet, some a = some S ↔ S = a := fun a => by rw [Option.some.injEq, eq_comm]
  unfold laneSetRule
  simp only [all, lower, upper]
  split_ifs with wide low high one
  · rw [chosen]; grind
  · rw [chosen]; grind
  · rw [chosen]; grind
  · rw [single]; grind
  · grind

/-! ## The grade rule (R95) -/

/-- What a search of a sorted list finds comes before all else that passes the test. -/
theorem find_before {α : Type} {R : α → α → Prop} {l : List α} (sorted : l.Pairwise R) {P : α → Bool} {a : α}
    (found : l.find? P = some a) : P a = true ∧ ∀ b ∈ l, P b = true → b = a ∨ R a b := by
  induction l with
  | nil => cases found
  | cons x l ih =>
    obtain ⟨first, sorted⟩ := List.pairwise_cons.1 sorted
    rw [List.find?_cons] at found
    cases test : P x with
    | true =>
      rw [test] at found
      obtain rfl : x = a := Option.some.inj found
      exact ⟨test, fun b mem _ => (List.mem_cons.1 mem).imp id (first b)⟩
    | false =>
      rw [test] at found
      obtain ⟨passes, before⟩ := ih sorted found
      refine ⟨passes, fun b mem on => ?_⟩
      rcases List.mem_cons.1 mem with rfl | mem
      · rw [test] at on; cases on
      · exact before b mem on

theorem Grade.mem_all (g : Grade) : g ∈ Grade.all := by cases g <;> decide

theorem Grade.num_injective {g h : Grade} (same : g.num = h.num) : g = h := by
  revert same; cases g <;> cases h <;> decide

theorem Grade.one_le_num (g : Grade) : 1 ≤ g.num := by cases g <;> decide

theorem highestUpTo_some {m : BitVec 4} {n : Nat} {g : Grade} (found : highestUpTo m n = some g) :
    (hasGrade m g = true ∧ g.num ≤ n) ∧ ∀ h, hasGrade m h = true → h.num ≤ n → h.num ≤ g.num := by
  have sorted : Grade.all.reverse.Pairwise fun a b => b.num < a.num := by decide
  obtain ⟨passes, before⟩ := find_before sorted found
  refine ⟨by simpa using passes, fun h on below => ?_⟩
  rcases before h (List.mem_reverse.2 h.mem_all) (by simp [on, below]) with rfl | less
  · exact le_rfl
  · exact less.le

theorem highestUpTo_none {m : BitVec 4} {n : Nat} : highestUpTo m n = none ↔ ∀ h, hasGrade m h = true → n < h.num := by
  unfold highestUpTo
  simp only [List.find?_eq_none, List.mem_reverse, Grade.mem_all, true_implies, Bool.and_eq_true, decide_eq_true_iff,
    not_and, not_le]

theorem highestUpTo_eq_some {m : BitVec 4} {n : Nat} {g : Grade} (on : hasGrade m g = true) (below : g.num ≤ n)
    (highest : ∀ h, hasGrade m h = true → h.num ≤ n → h.num ≤ g.num) : highestUpTo m n = some g := by
  cases found : highestUpTo m n with
  | none => exact absurd (highestUpTo_none.1 found g on) (not_lt.2 below)
  | some g' =>
    obtain ⟨⟨on', below'⟩, highest'⟩ := highestUpTo_some found
    rw [Grade.num_injective (le_antisymm (highest g' on' below') (highest' g on below))]

theorem lowestGrade_some {m : BitVec 4} {g : Grade} (found : lowestGrade m = some g) :
    hasGrade m g = true ∧ ∀ h, hasGrade m h = true → g.num ≤ h.num := by
  have sorted : Grade.all.Pairwise fun a b => a.num < b.num := by decide
  obtain ⟨passes, before⟩ := find_before sorted found
  refine ⟨passes, fun h on => ?_⟩
  rcases before h h.mem_all on with rfl | less
  · exact le_rfl
  · exact less.le

/-- With no next grade the rule gives the highest common grade. -/
theorem gradeRule_highest {m : BitVec 4} {g : Grade} (chosen : gradeRule m none = some g) :
    hasGrade m g = true ∧ ∀ h, hasGrade m h = true → h.num ≤ g.num := by
  obtain ⟨⟨on, -⟩, highest⟩ := highestUpTo_some (n := 4) chosen
  exact ⟨on, fun h on => highest h on (by cases h <;> decide)⟩

/-- With a next grade it gives the highest one at or below it, and without one there the lowest of all. -/
theorem gradeRule_next {m : BitVec 4} {n g : Grade} (chosen : gradeRule m (some n) = some g) : hasGrade m g = true ∧
    ((∃ h, hasGrade m h = true ∧ h.num ≤ n.num) →
      g.num ≤ n.num ∧ ∀ h, hasGrade m h = true → h.num ≤ n.num → h.num ≤ g.num) ∧
    ((∀ h, hasGrade m h = true → n.num < h.num) → ∀ h, hasGrade m h = true → g.num ≤ h.num) := by
  unfold gradeRule at chosen
  dsimp only at chosen
  cases found : highestUpTo m n.num with
  | some g' =>
    rw [found] at chosen
    obtain rfl : g' = g := Option.some.inj chosen
    obtain ⟨⟨on, below⟩, highest⟩ := highestUpTo_some found
    exact ⟨on, fun _ => ⟨below, highest⟩, fun above => absurd (above g' on) (not_lt.2 below)⟩
  | none =>
    rw [found] at chosen
    obtain ⟨on, lowest⟩ := lowestGrade_some chosen
    exact ⟨on, fun ⟨h, on', below⟩ => absurd (highestUpTo_none.1 found h on') (not_lt.2 below), fun _ => lowest⟩

/-! ## The close of a failed attempt (R96) -/

/-- A common grade below the agreed one is the next grade to try, the highest first. -/
theorem Port.closeFailed_lower {c : Port} {g h : Grade} (G : LaneSet) (agreed : c.agreed = some g)
    (common : hasGrade c.commonGrades h = true) (below : h.num < g.num)
    (highest : ∀ h', hasGrade c.commonGrades h' = true ∧ h'.num < g.num → h'.num ≤ h.num) :
    c.closeFailed G = { c with nextGrade := some h } := by
  have found : highestUpTo c.commonGrades ((c.agreed.map Grade.num).getD 0 - 1) = some h := by
    rw [agreed]
    exact highestUpTo_eq_some common (Nat.le_sub_one_of_lt below) fun h' on le =>
      highest h' ⟨on, Nat.lt_of_le_pred g.one_le_num le⟩
  unfold Port.closeFailed
  rw [found]

/-- Without one the set lanes outside G leave the usable set. -/
theorem Port.closeFailed_lowest {c : Port} {g : Grade} (G : LaneSet) (agreed : c.agreed = some g)
    (lowest : ∀ h, ¬ (hasGrade c.commonGrades h = true ∧ h.num < g.num)) :
    c.closeFailed G = { c with nextGrade := none, usable := c.usable &&& ~~~(c.laneSet &&& ~~~G) } := by
  have found : highestUpTo c.commonGrades ((c.agreed.map Grade.num).getD 0 - 1) = none := by
    rw [agreed]
    exact highestUpTo_none.2 fun h on => lt_of_lt_of_le (Nat.sub_lt g.one_le_num Nat.one_pos)
      (not_lt.1 fun below => lowest h ⟨on, below⟩)
  unfold Port.closeFailed
  rw [found]

/-- Settles O55: the lane-set rule and the grade rule by what they choose, the own caps bit by bit, the common sets by
the first record heard, and the two ways a failed attempt is closed. -/
theorem capsLaneSetGradeAndCloseRules : Obligations.CapsLaneSetGradeAndCloseRules := by
  refine ⟨⟨laneSetRule_eq_some, by decide, by decide, by decide⟩, fun m next nonempty => ?grade, fun c => ?caps,
    fun c => ?common, fun c G g agreed => ?close⟩
  case grade =>
    obtain ⟨g, chosen⟩ := gradeRule_isSome m next nonempty
    cases next with
    | none =>
      obtain ⟨on, highest⟩ := gradeRule_highest chosen
      exact ⟨g, chosen, on, fun _ => highest, nofun, nofun⟩
    | some n =>
      obtain ⟨on, atOrBelow, lowest⟩ := gradeRule_next chosen
      refine ⟨g, chosen, on, nofun, ?_, ?_⟩
      · rintro _ ⟨⟩
        exact atOrBelow
      · rintro _ ⟨⟩
        exact lowest
  case caps =>
    refine ⟨c.computeCaps_eq, Port.computeCaps_empty, fun m ident => ⟨fun g => ?_, fun w => ?_⟩⟩
    · rw [Port.computeCaps_grades ident, ModuleId.le_maxGrade, PlanStatus.hasGrade_grades, and_assoc]
    · rw [Port.computeCaps_widths ident]
      refine and_congr_right fun width => and_congr_right fun _ => and_congr_left fun _ => ?_
      exact c.plan.minWidth_le (by omega)
  case common =>
    refine ⟨fun role => ?_, fun i b role heard before => ?_, fun role unheard => ?_⟩
    · have own : c.farCaps = (c.capGrades, c.capWidths) := if_pos role
      simp [Port.commonGrades, Port.commonWidths, own]
    · rw [Port.commonGrades, Port.commonWidths, Port.farCaps_first role heard before]
      exact ⟨rfl, rfl⟩
    · rw [Port.commonGrades, Port.commonWidths, Port.farCaps_unheard role unheard]
      exact ⟨BitVec.and_zero, BitVec.and_zero⟩
  case close =>
    refine ⟨?_, Port.closeFailed_lowest G agreed⟩
    rintro h ⟨common, below⟩ highest
    exact Port.closeFailed_lower G agreed common below highest

end Sys2Proof.Machine


/-!
# The lead's decision (R92, R96, R105, R106)
-/

namespace Sys2Proof.Machine

/-- What a decision leaves of the event: it changes the port alone, in the same state. -/
def Ctl.OnlyDecides (c d : Ctl) : Prop :=
  d.port.st = c.port.st ∧ d.kinds = c.kinds ∧ d.ended = c.ended ∧ d.out = c.out

/-- A decision on fewer lanes than the lane set closes the attempt, and HELD or RETRY is sent (R96, R106). -/
theorem Ctl.decideFailed_closes (env : Env) (G : LaneSet) (c : Ctl) :
    AttemptClosed env.cfg c.port G (c.decideFailed env G).port ∧ c.OnlyDecides (c.decideFailed env G) := by
  obtain ⟨same, -⟩ := Port.closeFailed_keeps { c.port with good := G } G
  refine ⟨⟨fun spent => if_pos spent, fun left none => (if_neg left).trans (if_pos none),
    fun left found => (if_neg left).trans (if_neg found)⟩, ?_, rfl, rfl, rfl⟩
  refine Eq.trans ?_ same
  unfold Ctl.decideFailed
  dsimp only [Ctl.mod_port]
  split_ifs <;> rfl

/-- The decision on the far mask (R106). -/
theorem Ctl.decide_decides (env : Env) (F : LaneSet) (c : Ctl) :
    Decided env.cfg c.port F (c.decide env F).port ∧ c.OnlyDecides (c.decide env F) := by
  obtain ⟨closed, only⟩ := c.decideFailed_closes env (c.port.mappedInto (c.port.good &&& c.port.setIn .locked) F)
  have both : ∀ j, hasLane (c.port.mappedInto (c.port.good &&& c.port.setIn .locked) F) j = true ↔
      hasLane c.port.good j = true ∧ hasLane c.port.laneSet j = true ∧ (c.port.lane j).st = .locked ∧
        ∃ f, c.port.laneMap[j] = some f ∧ F.getLsbD f.toNat = true := fun j => by
    rw [Port.hasLane_mappedInto, hasLane_and, Port.hasLane_setIn]
    simp only [Bool.and_eq_true, decide_eq_true_iff, and_assoc]
  by_cases all : c.port.mappedInto (c.port.good &&& c.port.setIn .locked) F = c.port.laneSet
  · have commits : c.decide env F = c.mod fun p => { p with
        good := p.mappedInto (p.good &&& p.setIn .locked) F }.setBurst env .commit .noReason := if_pos all
    rw [commits]
    exact ⟨⟨_, both, fun _ => rfl, fun part => absurd all part⟩, rfl, rfl, rfl, rfl⟩
  · have fails : c.decide env F = c.decideFailed env _ := if_neg all
    rw [fails]
    exact ⟨⟨_, both, fun h => absurd h all, fun _ => closed⟩, only⟩

/-- A command whose event is a decision of its port changes the port alone. -/
theorem act_runPort_decides {s : State} {eff : State → State} {p : PortNo} {f : Env → Ctl → Ctl} {c d : Ctl}
    (hs : s.hold = .released) (he : eff { s with out := [] } = State.runPort { s with out := [] } p f)
    (hc : s.ctl p f = d) (only : c.OnlyDecides d) (kinds : c.kinds = 0) (ended : c.ended = none)
    (st : c.port.st = (s.port p).st ∨ c.port.st.settled = false) :
    ∃ t, act s eff = .next t ∧ t.port p = d.port ∧ OnlyPort p s t ∧ t.out = c.out := by
  obtain ⟨same, marks, ends, lines⟩ := only
  rw [← lines]
  exact act_runPort_alone f d hs he hc (marks.trans kinds) (ends.trans ended) (by rwa [same])

/-- The far end's RESULT at a lead in CONFIRM that has not decided (R105, R106). -/
theorem Ctl.wordHears_result {env : Env} {c : Ctl} {r : NegRecord} (h : c.port.ActsOnWord r)
    (role : c.port.role = .lead) (phase : r.phase = .result) (st : c.port.st = .confirm) (sends : c.port.phase = .result) :
    c.wordHears env r = c.decide env r.good := by
  obtain ⟨st', rest⟩ := h
  refine (if_pos ⟨(PortState.hearsWords_iff _).2 st', rest⟩).trans ?_
  rw [role, phase]
  exact if_pos (by simp [Port.awaitsFar, st, sends])

/-- Settles O22: the word is the far end's RESULT of the attempt, and its mask is what the lead decides on. -/
theorem theLeadDecidesOnTheResult : Obligations.TheLeadDecidesOnTheResult := by
  intro p i bytes s b hs l w F c locked check phase lane beacon far attempt st role sends
  rw [exec_trainingWord]
  have word : Phase.ofWord (byteAt w 0) = some .result := by rw [phase]; rfl
  have record : l.wordRecord .result w = ⟨.result, byteAt w 1, F, byteAt w 3, some b⟩ := by
    rw [← beacon]; rfl
  have arrives : (fun s : State => if ((s.port p).lane i).st = .locked then s.takeWord p i bytes.toList else s)
      { s with out := [] } = State.takeWord { s with out := [] } p i w := if_pos locked
  have taken := arrives.trans (State.takeWord_taken (s := { s with out := [] }) check word
    ((l.fromFarLane_iff w).2 lane))
  change _ = State.runPort { s with out := [] } p (Ctl.hearWord i (l.wordRecord .result w)) at taken
  rw [record] at taken
  have acts : c.ActsOnWord ⟨.result, byteAt w 1, F, byteAt w 3, some b⟩ :=
    ⟨.inr (.inr st), (c.hears_iff _).2 ⟨b, rfl, far⟩, attempt⟩
  obtain ⟨decided, only⟩ := (Ctl.start c).decide_decides (s.env p) F
  obtain ⟨t, answer, port, alone, lines⟩ := act_runPort_decides hs taken
    (Ctl.wordHears_result (c := Ctl.start c) acts role rfl st sends) only rfl rfl (.inl rfl)
  rw [← port] at decided
  exact ⟨t, answer, alone, lines, decided⟩

end Sys2Proof.Machine


/-!
# The end of the phase wait (R96, R98 to R101, R107, R110)
-/

namespace Sys2Proof.Machine

/-- The phase timer stopped. -/
def Port.stopTimer (c : Port) : Port := { c with phaseTimer := none }

/-- The event of a phase wait that is over. -/
def Ctl.phaseWaitEnds (env : Env) (c : Ctl) : Ctl := c.stopPhase.phaseWaitOver env

theorem exec_phaseWaitExpiry (p : PortNo) (s : State) : exec (.phaseWaitExpiry p) s =
    act s fun s => if ((s.port p).st = .agree ∨ (s.port p).st = .confirm) ∧ due (s.port p).phaseTimer then
      s.runPort p Ctl.phaseWaitEnds else s := rfl

/-! ## By state and role -/

section
variable {env : Env} {c : Ctl}

theorem Ctl.phaseWaitOver_restarts (st : c.port.st = .agree) (role : c.port.role = .follow)
    (phase : c.port.phase ≠ .reject) : c.phaseWaitOver env = c.enterSignal env := by
  unfold Ctl.phaseWaitOver
  rw [st, role]
  exact if_neg phase

theorem Ctl.phaseWaitOver_rejected (st : c.port.st = .agree) (role : c.port.role = .follow)
    (phase : c.port.phase = .reject) : c.phaseWaitOver env = c.enterHeld env.self .agreeConflict := by
  unfold Ctl.phaseWaitOver
  rw [st, role]
  exact if_pos phase

theorem Ctl.phaseWaitOver_attempts (st : c.port.st = .agree ∨ (c.port.st = .confirm ∧ c.port.phase = .retry))
    (role : c.port.role = .lead ∨ c.port.role = .self) : c.phaseWaitOver env = c.enterAgreeLead env := by
  unfold Ctl.phaseWaitOver
  rcases st with st | ⟨st, phase⟩
  · rcases role with role | role <;> rw [st, role]
  · rcases role with role | role <;> rw [st, role, phase]

theorem Ctl.phaseWaitOver_returns (st : c.port.st = .confirm) (role : c.port.role = .follow) :
    c.phaseWaitOver env = c.enterAgreeFollow env := by
  unfold Ctl.phaseWaitOver
  rw [st, role]

theorem Ctl.phaseWaitOver_held (st : c.port.st = .confirm) (role : c.port.role = .lead ∨ c.port.role = .self)
    (phase : c.port.phase = .heldWord) : c.phaseWaitOver env = c.enterHeld env.self c.port.phaseReason := by
  unfold Ctl.phaseWaitOver
  rcases role with role | role <;> rw [st, role, phase]

theorem Ctl.phaseWaitOver_fails (st : c.port.st = .confirm) (role : c.port.role = .lead ∨ c.port.role = .self)
    (phase : c.port.phase = .result ∨ c.port.phase = .commit) : c.phaseWaitOver env = c.decideFailed env 0 := by
  unfold Ctl.phaseWaitOver
  rcases role with role | role <;> rcases phase with phase | phase <;> rw [st, role, phase]

end

/-- A command whose event has its port begin again from SIGNAL changes the port and the lines alone (R17). -/
theorem act_runPort_restarts {s : State} {eff : State → State} {p : PortNo} {f : Env → Ctl → Ctl} {x : Ctl}
    (hs : s.hold = .released) (he : eff { s with out := [] } = State.runPort { s with out := [] } p f)
    (hc : s.ctl p f = x.enterSignal (s.env p)) (st : x.port.st ≠ .active) (kinds : x.kinds = 0)
    (ended : x.ended = none) :
    ∃ t, act s eff = .next t ∧ IsSignal s.we.cfg x.port (t.port p) ∧ OnlyPort p s t := by
  have signal := Ctl.enterSignal_is x (s.env p)
  have marks : (x.enterSignal (s.env p)).kinds = 0 := by
    rw [Ctl.enterSignal_kinds, Ctl.leavingMark_of_ne st, kinds]
    exact BitVec.or_zero
  obtain ⟨t, answer, port, only, -⟩ := act_runPort_alone f _ hs he hc marks ((Ctl.enterSignal_ended _ _).trans ended)
    (.inr (by rw [signal.1]; rfl))
  exact ⟨t, answer, by rw [port]; exact signal, only⟩

/-! ## What the timer does not touch -/

theorem Port.closeFailed_stopTimer (c : Port) (G : LaneSet) :
    c.stopTimer.closeFailed G = (c.closeFailed G).stopTimer := by
  have common : c.stopTimer.commonGrades = c.commonGrades := rfl
  have agreed : c.stopTimer.agreed = c.agreed := rfl
  unfold Port.closeFailed
  rw [common, agreed]
  cases highestUpTo c.commonGrades ((c.agreed.map Grade.num).getD 0 - 1) <;> rfl

theorem AttemptClosed.of_stopTimer {cfg : ConfigCopy} {c d : Port} {G : LaneSet}
    (h : AttemptClosed cfg c.stopTimer G d) : AttemptClosed cfg c G d := by
  have same := Port.closeFailed_stopTimer { c with good := G } G
  change Port.closeFailed { c.stopTimer with good := G } G = _ at same
  unfold AttemptClosed at h
  rw [same] at h
  exact h

/-- The next attempt of a lead or SELF port (R98, R107, R110). -/
theorem State.phaseWaitEnds_attempts {s : State} {p : PortNo}
    (st : (s.port p).st = .agree ∨ ((s.port p).st = .confirm ∧ (s.port p).phase = .retry)) :
    ((s.port p).role = .lead → LeadEntersAgree p (s.port p) s (s.runPort p Ctl.phaseWaitEnds)) ∧
    ((s.port p).role = .self → SelfEntersAgree p (s.port p) s (s.runPort p Ctl.phaseWaitEnds)) := by
  have inactive : (s.port p).st ≠ .active := by
    rcases st with st | ⟨st, -⟩ <;> rw [st] <;> decide
  have ctl : (s.port p).role = .lead ∨ (s.port p).role = .self →
      s.ctl p Ctl.phaseWaitEnds = (Ctl.start (s.port p).stopTimer).enterAgreeLead (s.env p) :=
    Ctl.phaseWaitOver_attempts (c := Ctl.start (s.port p).stopTimer) st
  refine ⟨fun role => ?_, fun role => ?_⟩
  · obtain ⟨lead, -⟩ := State.runPort_agreesLead s p _ _ (ctl (.inl role)) rfl inactive
    obtain ⟨agrees, handed⟩ := lead (show (s.port p).role ≠ .self by rw [role]; decide)
    exact ⟨LeadAgrees.of_aside (x := (s.port p).stopTimer) agrees, handed⟩
  · obtain ⟨-, self⟩ := State.runPort_agreesLead s p _ _ (ctl (.inr role)) rfl inactive
    obtain ⟨agrees, handed⟩ := self role
    exact ⟨SelfAgrees.of_aside (x := (s.port p).stopTimer) agrees, handed⟩

/-- Settles O27: the end of the phase wait is one event of its port, by state, role and phase. -/
theorem phaseWaitsExpire : Obligations.PhaseWaitsExpire := by
  intro p s hs c
  rw [exec_phaseWaitExpiry]
  have event : c.phaseTimer = some 0 → (c.st = .agree ∨ c.st = .confirm) →
      (fun s : State => if ((s.port p).st = .agree ∨ (s.port p).st = .confirm) ∧ due (s.port p).phaseTimer then
        s.runPort p Ctl.phaseWaitEnds else s) { s with out := [] } =
      State.runPort { s with out := [] } p Ctl.phaseWaitEnds := fun timer st => if_pos ⟨st, decide_eq_true timer⟩
  have leadSt : (c.st = .agree ∨ (c.st = .confirm ∧ c.phase = .retry)) → c.st = .agree ∨ c.st = .confirm :=
    Or.imp_right And.left
  have inactive : (c.st = .agree ∨ c.st = .confirm) → c.st ≠ .active := by
    rintro (st | st) <;> rw [st] <;> decide
  refine ⟨fun idle => act_idle hs (if_neg ?_), fun timer st role phase => ?_, fun timer st role phase => ?_,
    fun timer st role => ?_, fun timer st role => ?_, fun timer st role => ?_, fun timer st role phase => ?_,
    fun timer st role phase => ?_⟩
  · rintro ⟨st, timer⟩
    rcases idle with running | ⟨notAgree, notConfirm⟩
    · exact running (of_decide_eq_true timer)
    · exact st.elim notAgree notConfirm
  · have ctl : s.ctl p Ctl.phaseWaitEnds = (Ctl.start c.stopTimer).enterSignal (s.env p) :=
      Ctl.phaseWaitOver_restarts (c := Ctl.start c.stopTimer) st role phase
    exact act_runPort_restarts hs (event timer (.inl st)) ctl (inactive (.inl st)) rfl rfl
  · exact act_runPort_holds _ c.stopTimer _ hs (event timer (.inl st))
      (Ctl.phaseWaitOver_rejected (c := Ctl.start c.stopTimer) st role phase)
  · exact act_effect hs (event timer (leadSt st)) (fun _ _ h => h)
      ((State.phaseWaitEnds_attempts (s := { s with out := [] }) st).1 role)
  · exact act_effect hs (event timer (leadSt st)) (fun _ _ h => h)
      ((State.phaseWaitEnds_attempts (s := { s with out := [] }) st).2 role)
  · have ctl : s.ctl p Ctl.phaseWaitEnds = (Ctl.start c.stopTimer).enterAgreeFollow (s.env p) :=
      Ctl.phaseWaitOver_returns (c := Ctl.start c.stopTimer) st role
    have agrees := Ctl.enterAgreeFollow_is (s.env p) (Ctl.start c.stopTimer)
    obtain ⟨agree, -, good, -⟩ := Ctl.enterAgreeFollow_keeps (s.env p) (Ctl.start c.stopTimer)
    obtain ⟨ended, kinds⟩ := Ctl.enterAgreeFollow_marks (s.env p) (Ctl.start c.stopTimer) (inactive (.inr st))
    obtain ⟨t, answer, port, only, -⟩ := act_runPort_alone _ _ hs (event timer (.inr st)) ctl kinds ended
      (.inr (by rw [agree]; rfl))
    rw [← port] at agrees good
    exact ⟨t, answer, FollowerAgrees.of_aside (x := c.stopTimer) agrees, good, only⟩
  · exact act_runPort_holds _ c.stopTimer _ hs (event timer (.inr st))
      (Ctl.phaseWaitOver_held (c := Ctl.start c.stopTimer) st role phase)
  · obtain ⟨closed, only⟩ := (Ctl.start c.stopTimer).decideFailed_closes (s.env p) 0
    obtain ⟨t, answer, port, alone, lines⟩ := act_runPort_decides hs (event timer (.inr st))
      (Ctl.phaseWaitOver_fails (c := Ctl.start c.stopTimer) st role phase) only rfl rfl (.inl rfl)
    rw [← port] at closed
    exact ⟨t, answer, alone, lines, closed.of_stopTimer⟩

end Sys2Proof.Machine


/-!
# The train timeout (R96, R102 to R104, R110, R114)
-/

namespace Sys2Proof.Machine

/-- The event of a train timeout. -/
def Ctl.trainEnds (env : Env) (c : Ctl) : Ctl := c.stopPhase.trainOver env

theorem exec_trainTimeout (p : PortNo) (s : State) : exec (.trainTimeout p) s =
    act s fun s => if (s.port p).st = .train ∧ due (s.port p).phaseTimer then s.runPort p Ctl.trainEnds else s := rfl

/-! ## The lanes that fail (R103) -/

/-- The lanes of a set have been FAILED, and nothing else has come about. -/
structure Ctl.LanesFailed (failed : LaneNo → Prop) (x y : Ctl) : Prop where
  port : ∃ lanes, y.port = x.port.withLanes lanes
  fails : ∀ j, failed j → (y.port.lane j).st = .failed
  stands : ∀ j, ¬ failed j → (y.port.lane j).st = (x.port.lane j).st
  neg : ∀ j, (y.port.lane j).neg = (x.port.lane j).neg
  kinds : y.kinds = x.kinds
  ended : y.ended = x.ended

/-- A lane of a set is commanded to FAILED. -/
def Ctl.failLane (self : PortNo) (m : LaneSet) (x : Ctl) (i : LaneNo) : Ctl :=
  if hasLane m i then x.command self i .failed else x

theorem Ctl.failLane_fails (self : PortNo) (m : LaneSet) (x : Ctl) (i : LaneNo) :
    x.LanesFailed (fun j => j = i ∧ hasLane m j = true) (x.failLane self m i) := by
  unfold Ctl.failLane
  split_ifs with set
  · have port := Ctl.command_port self i .failed x
    have lane : ∀ j, (x.command self i .failed).port.lane j =
        if j = i then (x.port.lane i).after .failed else x.port.lane j := fun j => by
      rw [port, Port.lane_setLane_ite]
    refine ⟨⟨_, port⟩, ?_, fun j other => ?_, fun j => ?_, Ctl.command_kinds _ _ _ _, Ctl.command_ended _ _ _ _⟩
    · rintro j ⟨rfl, -⟩
      rw [lane, if_pos rfl]
      exact Lane.after_st _ _
    · rw [lane, if_neg fun own => other ⟨own, by rw [own]; exact set⟩]
    · obtain ⟨-, -, -, -, neg, -⟩ := Lane.after_keeps (x.port.lane i) .failed
      rw [lane]
      split_ifs with own
      · rw [neg, own]
      · rfl
  · refine ⟨⟨_, rfl⟩, ?_, fun _ _ => rfl, fun _ => rfl, rfl, rfl⟩
    rintro j ⟨rfl, on⟩
    exact absurd on set

theorem Ctl.failLanes_fail (self : PortNo) (m : LaneSet) (l : List LaneNo) (x : Ctl) :
    x.LanesFailed (fun j => j ∈ l ∧ hasLane m j = true) (l.foldl (Ctl.failLane self m) x) := by
  induction l generalizing x with
  | nil => exact ⟨⟨_, rfl⟩, fun j on => absurd on.1 List.not_mem_nil, fun _ _ => rfl, fun _ => rfl, rfl, rfl⟩
  | cons i l ih =>
    obtain ⟨⟨lanes, port⟩, fails, stands, neg, kinds, ended⟩ := ih (x.failLane self m i)
    obtain ⟨⟨lanes', port'⟩, fails', stands', neg', kinds', ended'⟩ := x.failLane_fails self m i
    rw [List.foldl_cons]
    refine ⟨⟨lanes, by rw [port, port']; rfl⟩, ?_, fun j other => ?_, fun j => (neg j).trans (neg' j),
      kinds.trans kinds', ended.trans ended'⟩
    · rintro j ⟨mem, set⟩
      by_cases later : j ∈ l
      · exact fails j ⟨later, set⟩
      · rw [stands j fun on => later on.1]
        exact fails' j ⟨(List.mem_cons.1 mem).resolve_right later, set⟩
    · rw [stands j fun on => other ⟨List.mem_cons_of_mem i on.1, on.2⟩]
      exact stands' j fun on => other ⟨by rw [on.1]; exact List.mem_cons_self, on.2⟩

/-- The set lanes still TRAINING fail. -/
def Ctl.failTraining (self : PortNo) (x : Ctl) : Ctl := allLanes.foldl (Ctl.failLane self (x.port.setIn .training)) x

/-- A set lane still TRAINING. -/
def Port.Trains (c : Port) (j : LaneNo) : Prop := hasLane c.laneSet j = true ∧ (c.lane j).st = .training

theorem Ctl.failTraining_fails (self : PortNo) (x : Ctl) : x.LanesFailed x.port.Trains (x.failTraining self) := by
  have training : (fun j => j ∈ allLanes ∧ hasLane (x.port.setIn .training) j = true) = x.port.Trains := by
    funext j
    simp [mem_allLanes, Port.hasLane_setIn, Port.Trains]
  rw [← training]
  exact Ctl.failLanes_fail self _ allLanes x

/-- The lanes that are LOCKED are those that were. -/
theorem Ctl.LanesFailed.locked {x y : Ctl} (h : x.LanesFailed x.port.Trains y) (j : LaneNo) :
    (y.port.lane j).st = .locked ↔ (x.port.lane j).st = .locked := by
  by_cases trains : x.port.Trains j
  · obtain ⟨-, training⟩ := id trains
    simp [h.fails j trains, training]
  · rw [h.stands j trains]

/-! ## What the port makes of it -/

theorem Ctl.failTraining_laneSet (self : PortNo) (x : Ctl) : (x.failTraining self).port.laneSet = x.port.laneSet := by
  obtain ⟨lanes, port⟩ := (x.failTraining_fails self).port
  rw [port]
  rfl

theorem Ctl.trainOver_qualifies (env : Env) {x : Ctl} {j : LaneNo} (set : hasLane x.port.laneSet j = true)
    (locked : (x.port.lane j).st = .locked) : x.trainOver env = (x.failTraining env.self).enterQualify env := by
  refine if_pos fun zero => (Port.setIn_eq_zero (x.failTraining env.self).port _).1 zero j ?_
    (((x.failTraining_fails env.self).locked j).2 locked)
  rw [Ctl.failTraining_laneSet]
  exact set

theorem Ctl.trainOver_fails (env : Env) {x : Ctl}
    (none : ∀ j, hasLane x.port.laneSet j = true → (x.port.lane j).st ≠ .locked) :
    x.trainOver env = (x.failTraining env.self).attemptFailed env := by
  refine if_neg (not_not.2 ((Port.setIn_eq_zero (x.failTraining env.self).port _).2 fun j set locked => ?_))
  rw [Ctl.failTraining_laneSet] at set
  exact none j set (((x.failTraining_fails env.self).locked j).1 locked)

/-- The bring-up test is planned from the requested target and dwell (R114). -/
theorem Ctl.enterQualify_test (env : Env) {c : Ctl} {g : Grade} (agreed : c.port.agreed = some g) :
    (c.enterQualify env).port.test = some (timedTest .bringUp (c.port.setIn .locked) g (c.port.bringUpRequest env).1
      (c.port.bringUpRequest env).2 false) := by
  unfold Ctl.enterQualify
  rw [Ctl.mod_port, Ctl.goTo_port]
  dsimp only [Port.closeTest]
  rw [agreed]
  rfl

theorem orDefault_toNat {n : Nat} (b : BitVec n) (d : Nat) : orDefault b.toNat d = if b = 0 then d else b.toNat := by
  have zero : b.toNat = 0 ↔ b = 0 := by rw [← BitVec.toNat_inj]; rfl
  exact if_congr zero rfl rfl

theorem Port.bringUpRequest_unplanned {c : Port} (env : Env) (plan : c.plan = .unplanned) :
    c.bringUpRequest env = (env.cfg.defaultTarget, env.cfg.defaultDwell) := by
  unfold Port.bringUpRequest
  rw [plan]

theorem Port.bringUpRequest_planned {c : Port} {pc : PlanCopy} (env : Env) (plan : c.plan = .planned pc) :
    c.bringUpRequest env = (if pc.target = 0 then env.cfg.defaultTarget else pc.target.toNat,
      if pc.dwell = 0 then env.cfg.defaultDwell else pc.dwell.toNat) := by
  unfold Port.bringUpRequest
  rw [plan]
  exact Prod.ext (orDefault_toNat _ _) (orDefault_toNat _ _)

/-! ## The event at its port -/

/-- The set lanes that are LOCKED. -/
def Port.locks (c : Port) (j : LaneNo) : Bool := hasLane c.laneSet j && (c.lane j).st = .locked

/-- The port in the middle of the event: its timer is stopped, and its TRAINING set lanes have failed. -/
def Ctl.trained (self : PortNo) (c : Port) : Ctl := (Ctl.start c.stopTimer).failTraining self

section
variable {c : Port} (self : PortNo)

theorem Ctl.trained_fails (c : Port) : (Ctl.start c.stopTimer).LanesFailed c.Trains (Ctl.trained self c) :=
  (Ctl.start c.stopTimer).failTraining_fails self

theorem Ctl.trained_locks : (Ctl.trained self c).port.locks = c.locks := by
  have failed := Ctl.trained_fails self c
  obtain ⟨lanes, port⟩ := failed.port
  have set : (Ctl.trained self c).port.laneSet = c.laneSet := by rw [port]; rfl
  funext j
  unfold Port.locks
  rw [set, decide_eq_decide.2 (Ctl.LanesFailed.locked (x := Ctl.start c.stopTimer) failed j)]
  rfl

/-- With a set lane LOCKED the bring-up test starts on the LOCKED ones (R104, R114). -/
theorem Ctl.trained_qualifies (env : Env) {g : Grade} (agreed : c.agreed = some g) (st : c.st ≠ .active) :
    IsQualify g c ((Ctl.trained self c).enterQualify env).port c.locks ∧
    (∀ j, (((Ctl.trained self c).enterQualify env).port.lane j).st =
      if hasLane c.laneSet j = true ∧ (c.lane j).st = .training then .failed else (c.lane j).st) ∧
    ((Ctl.trained self c).enterQualify env).port.test = some (timedTest .bringUp (lanesWhere c.locks) g
      (c.bringUpRequest env).1 (c.bringUpRequest env).2 false) ∧
    ((Ctl.trained self c).enterQualify env).kinds = 0 ∧ ((Ctl.trained self c).enterQualify env).ended = none := by
  have failed := Ctl.trained_fails self c
  have locks := Ctl.trained_locks (c := c) self
  obtain ⟨lanes, port⟩ := failed.port
  have agreed' : (Ctl.trained self c).port.agreed = some g := by rw [port]; exact agreed
  have request : (Ctl.trained self c).port.bringUpRequest env = c.bringUpRequest env := by rw [port]; rfl
  have test := Ctl.enterQualify_test env agreed'
  obtain ⟨qualifies, states, kinds, ended, -⟩ := Ctl.enterQualify_starts env agreed' (by rw [port]; exact st)
  change IsQualify g _ _ (Ctl.trained self c).port.locks at qualifies
  change _ = some (timedTest .bringUp (lanesWhere (Ctl.trained self c).port.locks) g _ _ false) at test
  rw [locks, port] at qualifies
  rw [locks, request] at test
  refine ⟨qualifies, fun j => ?_, test, kinds.trans failed.kinds, ended.trans failed.ended⟩
  rw [states]
  split_ifs with trains
  · exact failed.fails j trains
  · exact failed.stands j trains

end

/-- A lead or SELF port whose training has failed makes its next attempt (R103, R110). -/
theorem State.trainEnds_closes {s : State} {p : PortNo} (st : (s.port p).st = .train)
    (ctl : s.ctl p Ctl.trainEnds = (Ctl.trained p (s.port p)).attemptFailed (s.env p)) :
    ((s.port p).role = .lead → LeadEntersAgree p ((s.port p).closeFailed 0) s (s.runPort p Ctl.trainEnds)) ∧
    ((s.port p).role = .self → SelfEntersAgree p ((s.port p).closeFailed 0) s (s.runPort p Ctl.trainEnds)) := by
  generalize s.port p = c at *
  obtain ⟨⟨lanes, port⟩, -, -, neg, kinds, -⟩ := Ctl.trained_fails p c
  obtain ⟨sameSt, sameRole, sameLane⟩ := c.closeFailed_keeps 0
  have heard : ∀ j, ((c.stopTimer.withLanes lanes).lane j).neg = (c.stopTimer.lane j).neg := fun j => by
    have heard := neg j
    rwa [port] at heard
  have closed : ((Ctl.trained p c).mod fun q => q.closeFailed 0).port =
      (c.closeFailed 0).stopTimer.withLanes lanes := by
    rw [Ctl.mod_port, port, Ctl.start_port, Port.closeFailed_withLanes heard, Port.closeFailed_stopTimer]
  have attempts := fun role => State.runPort_agreesLead_withLanes (ctl.trans (Ctl.attemptFailed_lead role)) kinds closed
    (fun j => (heard j).trans (congrArg Lane.neg (sameLane j)).symm)
    (show (c.closeFailed 0).st ≠ .active by rw [sameSt, st]; decide)
  have role : (Ctl.trained p c).port.role = c.role := by rw [port]; rfl
  refine ⟨fun lead => ?_, fun self => ?_⟩
  · obtain ⟨agrees, handed⟩ := (attempts (.inl (role.trans lead))).1
      (show (c.closeFailed 0).role ≠ .self by rw [sameRole, lead]; decide)
    exact ⟨LeadAgrees.of_aside (x := (c.closeFailed 0).stopTimer) agrees, handed⟩
  · obtain ⟨agrees, handed⟩ := (attempts (.inr (role.trans self))).2 (sameRole.trans self)
    exact ⟨SelfAgrees.of_aside (x := (c.closeFailed 0).stopTimer) agrees, handed⟩

/-- Settles O28: the TRAINING set lanes fail, and the port enters QUALIFY on the LOCKED ones, or its attempt
has failed. -/
theorem theTrainTimeoutFailsTrainingLanes : Obligations.TheTrainTimeoutFailsTrainingLanes := by
  intro p s hs c locked
  rw [exec_trainTimeout]
  have event : c.st = .train → c.phaseTimer = some 0 →
      (fun s : State => if (s.port p).st = .train ∧ due (s.port p).phaseTimer then s.runPort p Ctl.trainEnds else s)
        { s with out := [] } = State.runPort { s with out := [] } p Ctl.trainEnds :=
    fun st timer => if_pos ⟨st, decide_eq_true timer⟩
  have inactive : c.st = .train → c.st ≠ .active := fun st h => PortState.noConfusion (st.symm.trans h)
  have failed := Ctl.trained_fails p c
  obtain ⟨lanes, port⟩ := failed.port
  have attemptFails : (∀ j, locked j = false) →
      s.ctl p Ctl.trainEnds = (Ctl.trained p c).attemptFailed (s.env p) := fun none =>
    Ctl.trainOver_fails (s.env p) (x := Ctl.start c.stopTimer) fun j set on =>
      Bool.eq_false_iff.1 (none j) ((Bool.and_eq_true _ _).mpr ⟨set, decide_eq_true on⟩)
  refine ⟨fun idle => act_idle hs (if_neg ?_), fun g st timer agreed some => ?_, fun st timer none role => ?_,
    fun st timer none role => ?_, fun st timer none role => ?_⟩
  · rintro ⟨st, timer⟩
    exact idle.elim (fun h => h st) fun h => h (of_decide_eq_true timer)
  · obtain ⟨j, on⟩ := some
    obtain ⟨set, on⟩ := (Bool.and_eq_true _ _).mp on
    have ctl : s.ctl p Ctl.trainEnds = (Ctl.trained p c).enterQualify (s.env p) :=
      Ctl.trainOver_qualifies (s.env p) (x := Ctl.start c.stopTimer) set (of_decide_eq_true on)
    obtain ⟨qualifies, states, test, kinds, ended⟩ := Ctl.trained_qualifies p (s.env p) agreed (inactive st)
    obtain ⟨t, answer, entered, only, -⟩ := act_runPort_alone _ _ hs (event st timer) ctl kinds ended
      (.inr (by rw [qualifies.1]; rfl))
    rw [← entered] at qualifies states test
    refine ⟨t, answer, qualifies, states, fun plan => ?_, fun pc plan => ?_, only⟩
    · rw [test, Port.bringUpRequest_unplanned (s.env p) plan]
      rfl
    · rw [test, Port.bringUpRequest_planned (s.env p) plan]
      rfl
  · have ctl := (attemptFails none).trans (Ctl.attemptFailed_follow (by rw [port]; exact role))
    obtain ⟨t, answer, signal, only⟩ := act_runPort_restarts hs (event st timer) ctl (by rw [port]; exact inactive st)
      failed.kinds failed.ended
    rw [port] at signal
    exact ⟨t, answer, signal, only⟩
  · exact act_effect hs (event st timer) (fun _ _ h => h)
      ((State.trainEnds_closes (s := { s with out := [] }) st (attemptFails none)).1 role)
  · exact act_effect hs (event st timer) (fun _ _ h => h)
      ((State.trainEnds_closes (s := { s with out := [] }) st (attemptFails none)).2 role)

end Sys2Proof.Machine


/-!
# The end of the dwell (R105, R106, R110, R113, R122, R123)
-/

namespace Sys2Proof.Machine

/-- The event of a dwell that is over. -/
def Ctl.dwellEnds (env : Env) (c : Ctl) : Ctl := (c.mod Port.passRunning).bringUpOver env

theorem exec_dwellExpiry (p : PortNo) (s : State) : exec (.dwellExpiry p) s =
    act s fun s => if (s.port p).st = .qualify ∧ due (s.port p).dwellTimer then s.runPort p Ctl.dwellEnds else s := rfl

/-! ## The lanes that pass (R122, R123) -/

section
variable {c : Port} {T : PortTest}

theorem Port.passRunning_eq (test : c.test = some T) (running : T.ended = false) :
    c.passRunning = c.giveRunning T fun _ _ => .pass := by
  unfold Port.passRunning
  rw [Port.runningTest_eq test running]

theorem Port.giveRunning_running {i : LaneNo} {e : Nat} (f : LaneNo → TestRecord → LaneVerdict) (runs : c.Runs T i e) :
    (c.giveRunning T f).lane i = { c.lane i with test := some ⟨e, some ⟨f i ⟨e, none⟩, T.grade.bitsPerMs * T.elapsed,
      demonstrated e (T.grade.bitsPerMs * T.elapsed), false⟩⟩ } := by
  unfold Port.giveRunning
  rw [Port.lane_mapLanes, Port.runningRecord_eq_some.2 ⟨T, e, rfl, runs⟩]
  rfl

theorem Port.giveRunning_idle {i : LaneNo} (f : LaneNo → TestRecord → LaneVerdict) (idle : ∀ T e, ¬ c.Runs T i e) :
    (c.giveRunning T f).lane i = c.lane i := by
  unfold Port.giveRunning
  rw [Port.lane_mapLanes, Port.runningRecord_eq_none.2 idle]

/-- A verdict changes the test record of its lane alone. -/
theorem Port.giveRunning_keeps (f : LaneNo → TestRecord → LaneVerdict) (i : LaneNo) :
    ((c.giveRunning T f).lane i).st = (c.lane i).st ∧ ((c.giveRunning T f).lane i).neg = (c.lane i).neg := by
  unfold Port.giveRunning
  rw [Port.lane_mapLanes]
  split <;> exact ⟨rfl, rfl⟩

/-- Every running lane has passed and the test has ended, whatever else came about at the port. -/
theorem Port.passRunning_closes {d : Port} (test : c.test = some T) (running : T.ended = false)
    (ended : d.test = some { T with ended := true }) (timers : d.testTimer = none ∧ d.dwellTimer = none)
    (lanes : d.lanes = c.passRunning.lanes) : TestClosed c d T fun _ _ => .pass := by
  have lane : ∀ i, d.lane i = (c.giveRunning T fun _ _ => .pass).lane i := fun i => by
    rw [← Port.passRunning_eq test running, Port.lane, lanes]
    rfl
  refine ⟨ended, timers.1, timers.2, fun i e set rec => ?_, fun i idle => ?_⟩
  · rw [lane, Port.giveRunning_running _ ⟨test, running, set, rec⟩]
  · rw [lane, Port.giveRunning_idle]
    rintro T' e ⟨test', -, set, rec⟩
    obtain rfl : T' = T := Option.some.inj (test'.symm.trans test)
    exact idle ⟨set, e, rec⟩

end

/-! ## The entry into CONFIRM and the decision there (R105, R106, R110) -/

/-- A lane of the set that holds a RESULT of the far end for this attempt. -/
def Port.HoldsResult (c : Port) (j : LaneNo) (q : NegRecord) : Prop :=
  hasLane c.laneSet j = true ∧ (c.lane j).st = .locked ∧ (c.lane j).neg = some q ∧ q.phase = .result ∧
  q.attempt = c.attempt ∧ ∃ b, q.beacon = some b ∧ c.far = some ⟨b.sender.chassis, b.sender.port⟩

/-- The mask of the RESULT that a lane holds. -/
def Port.resultOn (c : Port) (i : LaneNo) : Option LaneSet :=
  match (c.lane i).neg with
  | none => none
  | some r => if r.phase = .result ∧ r.attempt = c.attempt ∧ c.hears r then some r.good else none

theorem Port.resultOn_eq_some (c : Port) (j : LaneNo) (F : LaneSet) :
    (hasLane (c.setIn .locked) j = true ∧ c.resultOn j = some F) ↔ ∃ q, c.HoldsResult j q ∧ q.good = F := by
  unfold Port.resultOn Port.HoldsResult
  rw [Port.hasLane_setIn, Bool.and_eq_true, decide_eq_true_iff]
  cases neg : (c.lane j).neg with
  | none => simp
  | some r =>
    dsimp only
    constructor
    · rintro ⟨⟨set, locked⟩, given⟩
      split_ifs at given with result
      obtain ⟨phase, attempt, hears⟩ := result
      exact ⟨r, ⟨set, locked, rfl, phase, attempt, (c.hears_iff r).1 hears⟩, Option.some.inj given⟩
    · rintro ⟨q, ⟨set, locked, same, phase, attempt, hears⟩, rfl⟩
      obtain rfl : r = q := Option.some.inj same
      exact ⟨⟨set, locked⟩, if_pos ⟨phase, attempt, (c.hears_iff r).2 hears⟩⟩

/-- The first RESULT that the LOCKED set lanes hold (R105). -/
theorem Port.heldResult_first {c : Port} {i : LaneNo} {r : NegRecord} (heard : c.HoldsResult i r)
    (before : ∀ j q, j < i → ¬ c.HoldsResult j q) : c.heldResult = some r.good := by
  obtain ⟨locked, given⟩ := (c.resultOn_eq_some i _).2 ⟨r, heard, rfl⟩
  refine (allLanes_findSome_iff _ c.resultOn _).2 ⟨i, locked, given, fun j less on =>
    Option.eq_none_iff_forall_ne_some.2 fun F other => ?_⟩
  obtain ⟨q, heard', -⟩ := (c.resultOn_eq_some j F).1 ⟨on, other⟩
  exact before j q less heard'

/-- The port in the middle of the event: its test has ended, it has entered CONFIRM, and it has decided nothing. -/
def Ctl.confirmed (env : Env) (c : Ctl) : Ctl := ((c.mod Port.closeTest).goTo .confirm).mod (Port.confirms env)

section
variable {env : Env} {c : Ctl}

theorem Ctl.confirmed_is {T : PortTest} (test : c.port.test = some T) :
    IsConfirm env.cfg c.port (c.confirmed env).port ∧ (c.confirmed env).port.test = some { T with ended := true } := by
  refine ⟨⟨rfl, Port.hasLane_ownGood ((c.mod Port.closeTest).goTo .confirm).port⟩, ?_⟩
  simp [Ctl.confirmed, Port.confirms, Port.setPhase, Ctl.goTo_port, Port.closeTest, test]

theorem Ctl.confirmed_kinds (st : c.port.st ≠ .active) : (c.confirmed env).kinds = c.kinds := by
  unfold Ctl.confirmed
  rw [Ctl.mod_kinds, Ctl.goTo_kinds]
  simp [st, PortState.milestone, Port.closeTest]

theorem Ctl.bringUpOver_undecided (waits : WaitsForResult c.port) : c.bringUpOver env = c.confirmed env :=
  Ctl.enterConfirm_waits env (c := c.mod Port.closeTest) waits

/-- What the end of a bring-up test does after the entry into CONFIRM, by the port's role. -/
theorem Ctl.bringUpOver_eq : c.bringUpOver env = match c.port.role with
    | .lead => match c.port.heldResult with
      | some F => (c.confirmed env).decide env F
      | none => c.confirmed env
    | .self => (c.confirmed env).decide env (c.confirmed env).port.good
    | .follow | .noRole => c.confirmed env := rfl

theorem Ctl.bringUpOver_self (role : c.port.role = .self) :
    c.bringUpOver env = (c.confirmed env).decide env (c.confirmed env).port.good := by
  rw [Ctl.bringUpOver_eq, role]

theorem Ctl.bringUpOver_lead {F : LaneSet} (role : c.port.role = .lead) (held : c.port.heldResult = some F) :
    c.bringUpOver env = (c.confirmed env).decide env F := by
  rw [Ctl.bringUpOver_eq, role, held]

end

/-! ## The event at its port -/

section
variable {c : Port} {T : PortTest}

/-- The port in the middle of the event: its running lanes have passed. -/
def Ctl.passed (c : Port) : Ctl := (Ctl.start c).mod Port.passRunning

theorem Ctl.passed_port (test : c.test = some T) (running : T.ended = false) :
    (Ctl.passed c).port = c.withLanes c.passRunning.lanes ∧
    ∀ j, ((Ctl.passed c).port.lane j).st = (c.lane j).st ∧ ((Ctl.passed c).port.lane j).neg = (c.lane j).neg := by
  change c.passRunning = _ ∧ ∀ j, (c.passRunning.lane j).st = _ ∧ (c.passRunning.lane j).neg = _
  rw [Port.passRunning_eq test running]
  exact ⟨rfl, Port.giveRunning_keeps _⟩

theorem Ctl.passed_confirms (env : Env) (test : c.test = some T) (running : T.ended = false) :
    IsConfirm env.cfg c ((Ctl.passed c).confirmed env).port ∧
    TestClosed c ((Ctl.passed c).confirmed env).port T fun _ _ => .pass := by
  obtain ⟨port, -⟩ := Ctl.passed_port test running
  obtain ⟨confirms, ended⟩ := Ctl.confirmed_is (env := env) (c := Ctl.passed c) (T := T) (by rw [port]; exact test)
  refine ⟨?_, Port.passRunning_closes test running ended ⟨rfl, rfl⟩ rfl⟩
  rw [port] at confirms
  exact confirms

theorem Ctl.passed_holdsResult (test : c.test = some T) (running : T.ended = false) (j : LaneNo) (q : NegRecord) :
    (Ctl.passed c).port.HoldsResult j q ↔ c.HoldsResult j q := by
  obtain ⟨port, kept⟩ := Ctl.passed_port test running
  obtain ⟨st, neg⟩ := kept j
  unfold Port.HoldsResult
  rw [st, neg, port]
  rfl

theorem Ctl.OnlyDecides.refl (c : Ctl) : c.OnlyDecides c := ⟨rfl, rfl, rfl, rfl⟩

/-- The end of the dwell changes the port alone. -/
theorem dwellExpiry_answers {s : State} {p : PortNo} {d : Ctl} (hs : s.hold = .released) (st : (s.port p).st = .qualify)
    (timer : (s.port p).dwellTimer = some 0) (test : (s.port p).test = some T) (running : T.ended = false)
    (ctl : (Ctl.passed (s.port p)).bringUpOver (s.env p) = d)
    (only : ((Ctl.passed (s.port p)).confirmed (s.env p)).OnlyDecides d) :
    ∃ t, exec (.dwellExpiry p) s = .next t ∧ t.port p = d.port ∧ OnlyPort p s t ∧ t.out = [] := by
  obtain ⟨port, -⟩ := Ctl.passed_port test running
  have inactive : (Ctl.passed (s.port p)).port.st ≠ .active := by
    rw [port]; exact fun h => PortState.noConfusion (st.symm.trans h)
  rw [exec_dwellExpiry]
  exact act_runPort_decides (c := (Ctl.passed (s.port p)).confirmed (s.env p)) (f := Ctl.dwellEnds) hs
    (if_pos ⟨st, decide_eq_true timer⟩) ctl only (Ctl.confirmed_kinds inactive) rfl (.inr rfl)

end

/-- Settles O29: the running lanes pass and the port enters CONFIRM, where it decides on the RESULT it holds, on its own
good set, or not yet. -/
theorem theDwellEndsTheBringUpTest : Obligations.TheDwellEndsTheBringUpTest := by
  intro p s hs c
  refine ⟨fun idle => ?_, fun T st timer test running => ?_⟩
  · rw [exec_dwellExpiry]
    refine act_idle hs (if_neg ?_)
    rintro ⟨st, timer⟩
    exact idle.elim (fun h => h st) fun h => h (of_decide_eq_true timer)
  obtain ⟨port, kept⟩ := Ctl.passed_port test running
  obtain ⟨confirms, closed⟩ := Ctl.passed_confirms (s.env p) test running
  have role : (Ctl.passed c).port.role = c.role := by rw [port]; rfl
  have decides := ((Ctl.passed c).confirmed (s.env p)).decide_decides (s.env p)
  have answers := fun d => dwellExpiry_answers (d := d) hs st timer test running
  refine ⟨fun waits => ?_, fun self => ?_, fun i r => ?_⟩
  · have ctl := Ctl.bringUpOver_undecided (env := s.env p) (waits.of_neg role fun j => (kept j).2)
    obtain ⟨t, answer, after, only, lines⟩ := answers _ ctl (.refl _)
    rw [← after] at confirms closed
    exact ⟨t, answer, confirms, closed, only, lines⟩
  · obtain ⟨decided, alone⟩ := decides ((Ctl.passed c).confirmed (s.env p)).port.good
    obtain ⟨t, answer, after, only, lines⟩ := answers _ (Ctl.bringUpOver_self (role.trans self)) alone
    rw [← after] at decided
    exact ⟨t, _, answer, confirms, closed, decided, only, lines⟩
  · intro heard lead first before
    have held : (Ctl.passed c).port.heldResult = some r.good :=
      Port.heldResult_first ((Ctl.passed_holdsResult test running i r).2 first) fun j q less h =>
        before j q less ((Ctl.passed_holdsResult test running j q).1 h)
    obtain ⟨decided, alone⟩ := decides r.good
    obtain ⟨t, answer, after, only, lines⟩ := answers _ (Ctl.bringUpOver_lead (role.trans lead) held) alone
    rw [← after] at decided
    exact ⟨t, _, answer, confirms, closed, decided, only, lines⟩

end Sys2Proof.Machine


/-!
# Records heard in AGREE (R92, R98, R100, R101, R110)
-/

namespace Sys2Proof.Machine

/-! ## What the port does with a record, by role (R92) -/

theorem gradeByte_some_iff (n : Byte) (g : Grade) : n = gradeByte (some g) ↔ n.toNat = g.num := by
  have byte : (gradeByte (some g)).toNat = g.num := by cases g <;> rfl
  rw [← byte, BitVec.toNat_inj]

/-- A record that R92 lets a lead take, by its phase. -/
def Port.LeadTakes (c : Port) (r : NegRecord) (b : BeaconPart) : Prop :=
  HoldsFarEnd r ∨ r.attempt = c.attempt ∧ (r.phase = .reject ∨ r.phase = .accept ∧ c.phase = .propose ∧
    ∃ g, c.agreed = some g ∧ b.propGrade.toNat = g.num)

/-- A record that R92 lets a follower take, by its phase. -/
def Port.FollowerTakes (c : Port) (r : NegRecord) : Prop :=
  HoldsFarEnd r ∨ r.phase = .propose ∧ c.attempt < r.attempt ∧ c.phase ≠ .reject ∨
    r.phase = .go ∧ r.attempt = c.attempt ∧ c.phase = .accept

section
variable {env : Env} {c : Ctl} {r : NegRecord} {b : BeaconPart}

theorem not_holdsUs (h : ¬ HoldsFarEnd r) : ¬ r.holdsUs = true := fun held => h (r.holdsUs_iff.1 held)

/-- A HELD record, and no other phase, holds the far end. -/
theorem not_holdsFarEnd (phase : r.phase ≠ .heldBeacon) : ¬ HoldsFarEnd r := fun h => phase h.1

theorem Ctl.leadHears_held (held : HoldsFarEnd r) : c.leadHears env r b = c.enterHeld env.self .farHeld :=
  if_pos (r.holdsUs_iff.2 held)

theorem Ctl.leadHears_rejected (phase : r.phase = .reject) (attempt : r.attempt = c.port.attempt) :
    c.leadHears env r b = c.enterHeld env.self .farRejected := by
  have other : ¬ (r.phase = .accept ∧ r.attempt = c.port.attempt) := by rw [phase]; exact fun h => Phase.noConfusion h.1
  exact (if_neg (not_holdsUs (not_holdsFarEnd (by rw [phase]; decide)))).trans
    ((if_neg other).trans (if_pos ⟨phase, attempt⟩))

theorem Ctl.leadHears_accepted {g : Grade} (phase : r.phase = .accept) (attempt : r.attempt = c.port.attempt)
    (sends : c.port.phase = .propose) (agreed : c.port.agreed = some g) (grade : b.propGrade.toNat = g.num) :
    c.leadHears env r b = c.mod fun p => p.setBurst env .go .noReason :=
  (if_neg (not_holdsUs (not_holdsFarEnd (by rw [phase]; decide)))).trans ((if_pos ⟨phase, attempt⟩).trans
    (if_pos ⟨sends, by rw [agreed]; exact nofun, by rw [agreed]; exact (gradeByte_some_iff _ g).2 grade⟩))

theorem Ctl.leadHears_idle (idle : ¬ c.port.LeadTakes r b) : c.leadHears env r b = c := by
  refine (if_neg (not_holdsUs fun held => idle (.inl held))).trans ?_
  split_ifs with accept grade reject
  · obtain ⟨phase, attempt⟩ := accept
    obtain ⟨sends, given, same⟩ := grade
    obtain ⟨g, agreed⟩ := Option.ne_none_iff_exists'.1 given
    rw [agreed, gradeByte_some_iff] at same
    exact absurd (.inr ⟨attempt, .inr ⟨phase, sends, g, agreed, same⟩⟩) idle
  · rfl
  · exact absurd (.inr ⟨reject.2, .inl reject.1⟩) idle
  · rfl

theorem Ctl.followHears_held (held : HoldsFarEnd r) : c.followHears env r b = c.enterHeld env.self .farHeld :=
  if_pos (r.holdsUs_iff.2 held)

theorem Ctl.followHears_proposed (phase : r.phase = .propose) (attempt : c.port.attempt < r.attempt)
    (answers : c.port.phase ≠ .reject) :
    c.followHears env r b = c.mod fun p => p.examine env r.attempt b.propGrade b.propSet :=
  (if_neg (not_holdsUs (not_holdsFarEnd (by rw [phase]; decide)))).trans
    ((if_pos ⟨phase, attempt⟩).trans (if_neg answers))

theorem Ctl.followHears_go (phase : r.phase = .go) (attempt : r.attempt = c.port.attempt)
    (sends : c.port.phase = .accept) : c.followHears env r b = c.enterTrain env := by
  have other : ¬ (r.phase = .propose ∧ c.port.attempt < r.attempt) := by
    rw [phase]; exact fun h => Phase.noConfusion h.1
  exact (if_neg (not_holdsUs (not_holdsFarEnd (by rw [phase]; decide)))).trans
    ((if_neg other).trans (if_pos ⟨phase, attempt, sends⟩))

theorem Ctl.followHears_idle (idle : ¬ c.port.FollowerTakes r) : c.followHears env r b = c := by
  refine (if_neg (not_holdsUs fun held => idle (.inl held))).trans ?_
  split_ifs with propose rejects go
  · rfl
  · exact absurd (.inr (.inl ⟨propose.1, propose.2, rejects⟩)) idle
  · exact absurd (.inr (.inr go)) idle
  · rfl

/-! ## The arrival in AGREE -/

/-- A record from the far end reaches the port by its role (R92). -/
theorem Ctl.arrival_agreeFar {mark : ArrivalMark} (st : c.port.st = .agree) (beacon : r.beacon = some b)
    (far : c.port.far = some ⟨b.sender.chassis, b.sender.port⟩) : c.arrival env mark r = match c.port.role with
      | .lead => c.leadHears env r b
      | .follow => c.followHears env r b
      | .self | .noRole => c := by
  unfold Ctl.arrival Ctl.agreeHears
  rw [st, beacon]
  exact if_pos (decide_eq_true far)

theorem Ctl.arrival_agreeOther {mark : ArrivalMark} (st : c.port.st = .agree) (beacon : r.beacon = some b)
    (far : c.port.far ≠ some ⟨b.sender.chassis, b.sender.port⟩) : c.arrival env mark r = c := by
  unfold Ctl.arrival Ctl.agreeHears
  rw [st, beacon]
  exact if_neg fun h => far (of_decide_eq_true h)

theorem Ctl.arrival_lead {mark : ArrivalMark} (st : c.port.st = .agree) (beacon : r.beacon = some b)
    (far : c.port.far = some ⟨b.sender.chassis, b.sender.port⟩) (role : c.port.role = .lead) :
    c.arrival env mark r = c.leadHears env r b := by
  rw [Ctl.arrival_agreeFar st beacon far, role]

theorem Ctl.arrival_follow {mark : ArrivalMark} (st : c.port.st = .agree) (beacon : r.beacon = some b)
    (far : c.port.far = some ⟨b.sender.chassis, b.sender.port⟩) (role : c.port.role = .follow) :
    c.arrival env mark r = c.followHears env r b := by
  rw [Ctl.arrival_agreeFar st beacon far, role]

/-- A record that R92 sets aside. -/
theorem Ctl.arrival_setAside {mark : ArrivalMark} (st : c.port.st = .agree) (beacon : r.beacon = some b)
    (aside : c.port.far ≠ some ⟨b.sender.chassis, b.sender.port⟩ ∨ c.port.role = .self ∨ c.port.role = .noRole ∨
      (c.port.role = .lead ∧ ¬ c.port.LeadTakes r b) ∨ (c.port.role = .follow ∧ ¬ c.port.FollowerTakes r)) :
    c.arrival env mark r = c := by
  by_cases far : c.port.far = some ⟨b.sender.chassis, b.sender.port⟩
  · rcases aside with other | role | role | ⟨role, idle⟩ | ⟨role, idle⟩
    · exact absurd far other
    · rw [Ctl.arrival_agreeFar st beacon far, role]
    · rw [Ctl.arrival_agreeFar st beacon far, role]
    · rw [Ctl.arrival_lead st beacon far role, Ctl.leadHears_idle idle]
    · rw [Ctl.arrival_follow st beacon far role, Ctl.followHears_idle idle]
  · exact Ctl.arrival_agreeOther st beacon far

end

/-! ## The event at its port -/

section
variable {s : State} {p : PortNo} {i : LaneNo} {bytes : List Byte} {r : NegRecord} {b : BeaconPart} {c : Port}

/-- A beacon in AGREE whose event completes no job and hands nothing over. -/
theorem ValidBeacon.alone (valid : ValidBeacon s p i bytes r b) (hs : s.hold = .released) {d : Ctl}
    (ctl : s.ctl p (Ctl.takesBeacon i b.sender r) = d) (kinds : d.kinds = 0) (ended : d.ended = none)
    (st : d.port.st = .agree ∨ d.port.st = .train) (agree : (s.port p).st = .agree) :
    ∃ t, act s (fun s => s.takeFrame p i bytes) = .next t ∧ t.port p = d.port ∧ OnlyPort p s t ∧ t.out = d.out := by
  have quiet : d.port.st = (s.port p).st ∨ d.port.st.settled = false :=
    st.imp (fun h => h.trans agree.symm) fun h => by rw [h]; rfl
  have inactive : d.port.st = .active → (s.port p).st = .active := fun h => by simp [h] at st
  exact act_runPort_alone _ d hs (valid.event ctl inactive) ctl kinds ended quiet

/-- A beacon in AGREE that holds the port. -/
theorem ValidBeacon.holds (valid : ValidBeacon s p i bytes r b) (hs : s.hold = .released) {why : HoldReason}
    (ctl : s.ctl p (Ctl.takesBeacon i b.sender r) = (Ctl.start c).enterHeld p why) :
    ∃ t, act s (fun s => s.takeFrame p i bytes) = .next t ∧ IsHeld why c (t.port p) ∧ Reported p 2 s t ∧
      PortEventFrame p s t := by
  have entered := Ctl.enterHeld_is (Ctl.start c) p why
  exact act_runPort_holds _ c _ hs (valid.event ctl fun h => PortState.noConfusion (entered.1.symm.trans h)) ctl

end

/-- Settles O21: a record is one event of its port, by the port's role and phase and the record's. -/
theorem agreementRecordsActByPhase : Obligations.AgreementRecordsActByPhase := by
  intro p i bytes s r b hs
  rw [exec_beaconFrame]
  intro l frame c far M fits lane rx check record beacon st present takenByLead takenByFollower
  have content : l.correct bytes.toList = frame := l.correct_eq bytes.toList
  have valid : ValidBeacon s p i bytes.toList r b :=
    ⟨lane, rx, by rw [← content] at check; exact check, by rw [← content] at record; exact record, beacon⟩
  have arrives : s.ctl p (Ctl.takesBeacon i b.sender r) = (Ctl.start c).arrival (s.env p) (l.markOf b.sender) r :=
    State.takesBeacon_present present
  have alone := fun d => valid.alone hs (d := d) (agree := st)
  have leads := fun far role => arrives.trans (Ctl.arrival_lead (c := Ctl.start c) st beacon far role)
  have follows := fun far role => arrives.trans (Ctl.arrival_follow (c := Ctl.start c) st beacon far role)
  have fit : ∀ g, c.Fits b.propGrade b.propSet g ↔ b.propGrade.toNat = g.num ∧ fits g := fun g => by
    simp only [Port.Fits, fits, subset, decide_eq_true_iff]
    rfl
  refine ⟨fun aside => ?_, fun heard role held => ?_, fun heard role phase attempt => ?_,
    fun g heard role phase attempt sends agreed grade => ?_, fun g heard role phase attempt answers grade good => ?_,
    fun heard role phase attempt answers bad => ?_, fun g heard role phase attempt sends agreed => ?_⟩
  · have ctl := arrives.trans (Ctl.arrival_setAside (c := Ctl.start c) st beacon aside)
    exact alone _ ctl rfl rfl (.inl st)
  · rcases role with role | role
    · exact valid.holds hs ((leads heard role).trans (Ctl.leadHears_held held))
    · exact valid.holds hs ((follows heard role).trans (Ctl.followHears_held held))
  · exact valid.holds hs ((leads heard role).trans (Ctl.leadHears_rejected phase attempt))
  · have ctl := (leads heard role).trans (Ctl.leadHears_accepted (c := Ctl.start c) phase attempt sends agreed grade)
    exact alone _ ctl rfl rfl (.inl st)
  · have ctl := (follows heard role).trans (Ctl.followHears_proposed (c := Ctl.start c) phase attempt answers)
    have accepts := Port.examine_accepts (s.env p) r.attempt ((fit g).2 ⟨grade, good⟩)
    obtain ⟨t, answer, port, only, lines⟩ := alone _ ctl rfl rfl (.inl ((Port.examine_keeps _ _ _ _ _).1.trans st))
    exact ⟨t, answer, port.trans accepts, only, lines⟩
  · have ctl := (follows heard role).trans (Ctl.followHears_proposed (c := Ctl.start c) phase attempt answers)
    have rejects := Port.examine_rejects (s.env p) (c := c) (n := b.propGrade) (S := b.propSet) r.attempt fun g h =>
      bad g ((fit g).1 h).1 ((fit g).1 h).2
    obtain ⟨t, answer, port, only, lines⟩ := alone _ ctl rfl rfl (.inl ((Port.examine_keeps _ _ _ _ _).1.trans st))
    exact ⟨t, answer, port.trans rejects, only, lines⟩
  · have ctl := (follows heard role).trans (Ctl.followHears_go (c := Ctl.start c) phase attempt sends)
    have trains := Ctl.enterTrain_is (Ctl.start c) (s.env p) g agreed
    have kinds : ((Ctl.start c).enterTrain (s.env p)).kinds = 0 := by
      rw [Ctl.enterTrain_kinds, Ctl.leavingMark_of_ne fun h => PortState.noConfusion (st.symm.trans h)]
      exact BitVec.or_zero
    obtain ⟨t, answer, port, only, -⟩ := alone _ ctl kinds (Ctl.enterTrain_ended _ _) (.inr (Ctl.enterTrain_st _ _))
    exact ⟨t, answer, by rw [port]; exact trains, only⟩

end Sys2Proof.Machine


/-!
# The planned length of a test and the demonstrated exponent (R112, R116 to R118, R122)
-/

namespace Sys2Proof.Machine

/-! ## The largest number below a bound that passes a test -/

/-- The largest number below m that passes, or 0 where none does. -/
def largestBelow (m : Nat) (P : Nat → Bool) : Nat := ((List.range m).filter P).getLast?.getD 0

theorem largestBelow_succ (m : Nat) (P : Nat → Bool) :
    largestBelow (m + 1) P = if P m then m else largestBelow m P := by
  unfold largestBelow
  rw [List.range_succ, List.filter_append]
  cases h : P m <;> simp [h]

theorem largestBelow_none {m : Nat} {P : Nat → Bool} (none : ∀ k < m, P k = false) : largestBelow m P = 0 := by
  have empty : (List.range m).filter P = [] :=
    List.filter_eq_nil_iff.2 fun k mem => by simp [none k (List.mem_range.1 mem)]
  rw [largestBelow, empty]
  rfl

/-- Where one number passes, the largest one passes too and is not below it. -/
theorem largestBelow_spec {m : Nat} {P : Nat → Bool} {k : Nat} (below : k < m) (passes : P k = true) :
    P (largestBelow m P) = true ∧ k ≤ largestBelow m P := by
  induction m with
  | zero => exact absurd below (Nat.not_lt_zero k)
  | succ m ih =>
    rw [largestBelow_succ]
    split_ifs with last
    · exact ⟨last, Nat.le_of_lt_succ below⟩
    · have inner : k ≠ m := by
        rintro rfl
        exact last passes
      exact ih (by omega)

/-! ## The demonstrated exponent (R122) -/

/-- A full error count demonstrates nothing. -/
theorem demonstrated_full {e : Nat} (full : e = 4294967295) (n : Nat) : demonstrated e n = 0 := if_pos full

theorem demonstrated_eq {e : Nat} (counted : e ≠ 4294967295) (n : Nat) :
    demonstrated e n = largestBelow 16 fun k => 3 * (e + 1) * 10 ^ k ≤ n := if_neg counted

/-- No N that the counter can reach demonstrates more than 13. -/
theorem exponent_le {e n k : Nat} (counter : n ≤ 281474976710655) (shown : 3 * (e + 1) * 10 ^ k ≤ n) : k ≤ 13 := by
  by_contra more
  have power : 10 ^ 14 ≤ 10 ^ k := Nat.pow_le_pow_right (by decide) (by omega)
  have bits : 3 * 10 ^ k ≤ 3 * (e + 1) * 10 ^ k := Nat.mul_le_mul_right _ (by omega)
  omega

theorem demonstrated_zero {e n : Nat} (few : n < 3 * (e + 1)) : demonstrated e n = 0 := by
  by_cases full : e = 4294967295
  · exact demonstrated_full full n
  · rw [demonstrated_eq full]
    refine largestBelow_none fun k _ => decide_eq_false (Nat.not_le.2 ?_)
    exact few.trans_le (Nat.le_mul_of_pos_right _ (by positivity))

/-- What an N demonstrates is the largest exponent it has the bits for. -/
theorem demonstrated_spec {e n : Nat} (counter : n ≤ 281474976710655) (counted : e ≠ 4294967295)
    (bits : 3 * (e + 1) ≤ n) : 3 * (e + 1) * 10 ^ demonstrated e n ≤ n ∧
      ∀ k, 3 * (e + 1) * 10 ^ k ≤ n → k ≤ demonstrated e n := by
  have largest : ∀ k, 3 * (e + 1) * 10 ^ k ≤ n → 3 * (e + 1) * 10 ^ demonstrated e n ≤ n ∧ k ≤ demonstrated e n := by
    intro k shown
    have small := exponent_le counter shown
    obtain ⟨passes, le⟩ := largestBelow_spec (m := 16) (P := fun k => 3 * (e + 1) * 10 ^ k ≤ n) (by omega)
      (decide_eq_true shown)
    rw [demonstrated_eq counted]
    exact ⟨of_decide_eq_true passes, le⟩
  exact ⟨(largest 0 (by simpa using bits)).1, fun k shown => (largest k shown).2⟩

theorem demonstrated_le (e : Nat) {n : Nat} (counter : n ≤ 281474976710655) : demonstrated e n ≤ 13 := by
  by_cases full : e = 4294967295
  · rw [demonstrated_full full]
    exact Nat.zero_le 13
  · rcases Nat.lt_or_ge n (3 * (e + 1)) with few | bits
    · rw [demonstrated_zero few]
      exact Nat.zero_le 13
    · exact exponent_le counter (demonstrated_spec counter full bits).1

/-! ## The planned length (R116 to R118) -/

theorem bitsFor_lt_iff (t u : Nat) : bitsFor t < bitsFor u ↔ t < u := by
  unfold bitsFor
  rw [Nat.mul_lt_mul_left (by decide), Nat.pow_lt_pow_iff_right (by decide)]

theorem bitsFor_le_iff (t u : Nat) : bitsFor t ≤ bitsFor u ↔ t ≤ u := by
  rw [← Nat.not_lt, bitsFor_lt_iff, Nat.not_lt]

/-- The shortest dwell that shows a target. -/
def Grade.dwellFor (g : Grade) (t : Nat) : Nat := (bitsFor t + g.bitsPerMs - 1) / g.bitsPerMs

theorem Grade.bitsPerMs_pos (g : Grade) : 0 < g.bitsPerMs := by cases g <;> decide

theorem Grade.bitsPerMs_le (g : Grade) : g.bitsPerMs ≤ 100000000 := by cases g <;> decide

theorem Grade.dwellFor_le_iff (g : Grade) (t d : Nat) : g.dwellFor t ≤ d ↔ bitsFor t ≤ g.bitsPerMs * d := by
  rw [Grade.dwellFor, ← Nat.ceilDiv_eq_add_pred_div, ceilDiv_le_iff_le_mul g.bitsPerMs_pos]

/-- The longest test shows target 11 at the two low grades and 12 at the two high ones, and no more. -/
theorem largestTarget_longest (g : Grade) :
    largestTarget (g.bitsPerMs * 65535) = (if g = .g1 ∨ g = .g2 then 11 else 12) ∧
    bitsFor (largestTarget (g.bitsPerMs * 65535)) ≤ g.bitsPerMs * 65535 ∧
    g.bitsPerMs * 65535 < bitsFor (largestTarget (g.bitsPerMs * 65535) + 1) := by
  cases g <;> decide

section
variable {g : Grade} {t d : Nat}

/-- The asked dwell is long enough. -/
theorem planTest_asked (fits : bitsFor t ≤ g.bitsPerMs * d) :
    planTest g t d = ⟨t, d, g.bitsPerMs * d / bitsFor t - 1, false, false⟩ := if_pos fits

/-- The dwell is extended to the shortest that shows the target. -/
theorem planTest_extended (short : g.bitsPerMs * d < bitsFor t) (reach : bitsFor t ≤ g.bitsPerMs * 65535) :
    planTest g t d =
      ⟨t, g.dwellFor t, g.bitsPerMs * g.dwellFor t / bitsFor t - 1, decide (d < g.dwellFor t), false⟩ :=
  (if_neg (Nat.not_le.2 short)).trans (if_pos ((g.dwellFor_le_iff t 65535).2 reach))

/-- The target is lowered to what the longest dwell shows. -/
theorem planTest_lowered (short : g.bitsPerMs * d < bitsFor t) (far : g.bitsPerMs * 65535 < bitsFor t) :
    planTest g t d = ⟨largestTarget (g.bitsPerMs * 65535), 65535,
      g.bitsPerMs * 65535 / bitsFor (largestTarget (g.bitsPerMs * 65535)) - 1, decide (d < 65535),
      decide (largestTarget (g.bitsPerMs * 65535) < t)⟩ :=
  (if_neg (Nat.not_le.2 short)).trans
    (if_neg fun le => Nat.not_le.2 far ((g.dwellFor_le_iff t 65535).1 le))

/-- A lowered target is below the asked one, and is at least 11. -/
theorem largestTarget_lowers (far : g.bitsPerMs * 65535 < bitsFor t) :
    largestTarget (g.bitsPerMs * 65535) < t ∧ 11 ≤ largestTarget (g.bitsPerMs * 65535) := by
  obtain ⟨target, shown, -⟩ := largestTarget_longest g
  refine ⟨(bitsFor_lt_iff _ _).1 (shown.trans_lt far), ?_⟩
  rw [target]
  split_ifs <;> decide

/-- Whatever was planned, its bits are enough for its target, and its error limit is what they allow beyond
that (R117). -/
structure TestPlan.Fits (g : Grade) (x : TestPlan) : Prop where
  target : 6 ≤ x.target
  dwell : x.dwell ≤ 65535
  bits : bitsFor x.target ≤ g.bitsPerMs * x.dwell
  limit : x.eAllow = g.bitsPerMs * x.dwell / bitsFor x.target - 1

theorem planTest_fits (target : 6 ≤ t) (dwell : d ≤ 65535) : (planTest g t d).Fits g := by
  rcases Nat.lt_or_ge (g.bitsPerMs * d) (bitsFor t) with short | fits
  · rcases Nat.lt_or_ge (g.bitsPerMs * 65535) (bitsFor t) with far | reach
    · obtain ⟨-, shown, -⟩ := largestTarget_longest g
      obtain ⟨-, least⟩ := largestTarget_lowers far
      rw [planTest_lowered short far]
      exact ⟨le_trans (by decide) least, le_refl _, shown, rfl⟩
    · rw [planTest_extended short reach]
      exact ⟨target, (g.dwellFor_le_iff t _).2 reach, (g.dwellFor_le_iff t _).1 (le_refl _), rfl⟩
  · rw [planTest_asked fits]
    exact ⟨target, dwell, fits, rfl⟩

/-- The error limit is one below the quotient of R117, and the largest is that of target 6 over the longest dwell at the
highest grade. -/
theorem TestPlan.Fits.limit_spec {x : TestPlan} (h : x.Fits g) :
    x.eAllow + 1 = g.bitsPerMs * x.dwell / bitsFor x.target ∧ x.eAllow ≤ 2184499 := by
  have least : bitsFor 6 ≤ bitsFor x.target := (bitsFor_le_iff _ _).2 h.target
  have positive : 0 < g.bitsPerMs * x.dwell / bitsFor x.target :=
    Nat.div_pos h.bits (lt_of_lt_of_le (by decide) least)
  have most : g.bitsPerMs * x.dwell / bitsFor x.target ≤ 100000000 * 65535 / bitsFor 6 :=
    Nat.div_le_div (Nat.mul_le_mul g.bitsPerMs_le h.dwell) least (by decide)
  have value : 100000000 * 65535 / bitsFor 6 = 2184500 := rfl
  have limit := h.limit
  omega

/-- A target of 13 or more is out of reach at every grade. -/
theorem bitsPerMs_lt_bitsFor (high : 13 ≤ t) : g.bitsPerMs * 65535 < bitsFor t :=
  lt_of_lt_of_le (lt_of_le_of_lt (Nat.mul_le_mul_right _ g.bitsPerMs_le) (by decide)) ((bitsFor_le_iff 13 t).2 high)

end

/-- Settles O56: the three cases of R117, and the exponents of R122. -/
theorem testLengthsAndExponents : Obligations.TestLengthsAndExponents := by
  refine ⟨fun kind lanes g t d drop _ _ dwell => ?_, fun e n counter => ?_⟩
  · intro R T x
    have plan : x.target = (planTest g T d).target ∧ x.dwell = some (planTest g T d).dwell ∧
        x.eAllow = some (planTest g T d).eAllow ∧ x.extended = (planTest g T d).extended ∧
        x.lowered = (planTest g T d).lowered := ⟨rfl, rfl, rfl, rfl, rfl⟩
    obtain ⟨target, length, allow, extended, lowered⟩ := plan
    have longer : R * 65535 < bitsFor T → R * d < bitsFor T := (Nat.mul_le_mul_left R dwell).trans_lt
    rw [target, length, allow, extended, lowered]
    refine ⟨rfl, rfl, rfl, fun fits => ?_, fun short reach => ?_, fun far => ?_, fun high => ?_, ?_⟩
    · rw [planTest_asked fits]
      exact ⟨rfl, rfl, rfl, rfl⟩
    · have more : d < g.dwellFor T := Nat.lt_of_not_le fun le => Nat.not_le.2 short ((g.dwellFor_le_iff T d).1 le)
      rw [planTest_extended short reach]
      exact ⟨_, rfl, more, (g.dwellFor_le_iff T _).2 reach, (g.dwellFor_le_iff T _).1 (le_refl _),
        fun D' less => Nat.lt_of_not_le fun le => Nat.not_le.2 less ((g.dwellFor_le_iff T D').2 le), rfl,
        decide_eq_true more, rfl⟩
    · obtain ⟨-, shown, most⟩ := largestTarget_longest g
      obtain ⟨less, least⟩ := largestTarget_lowers far
      rw [planTest_lowered (longer far) far]
      exact ⟨rfl, rfl, decide_eq_true less, less, shown, most, least⟩
    · have far : R * 65535 < bitsFor T := bitsPerMs_lt_bitsFor high
      obtain ⟨less, -⟩ := largestTarget_lowers far
      rw [planTest_lowered (longer far) far]
      exact ⟨decide_eq_true less, (largestTarget_longest g).1⟩
    · exact ⟨_, _, rfl, rfl, (planTest_fits (Nat.le_max_left 6 _) dwell).limit_spec⟩
  · exact ⟨demonstrated_le e counter, fun full => demonstrated_full full n, demonstrated_zero,
      demonstrated_spec counter⟩

end Sys2Proof.Machine


/-!
# The end of a LANE_TEST on a port that stays where it is (R115, R122, R123, R125, R126, R130, R162, R166)
-/

namespace Sys2Proof.Machine

theorem exec_testTimerExpiry (p : PortNo) (s : State) : exec (.testTimerExpiry p) s = act s fun s =>
    if due (s.port p).testTimer then s.runPort p fun _ c => c.endLaneTest .ok fun _ _ _ => .pass else s := rfl

theorem exec_testSaturated (p : PortNo) (s : State) : exec (.testSaturated p) s = act s fun s =>
    if (s.port p).saturates then s.runPort p fun _ c => (c.mod Port.markSaturated).endLaneTest .ok asStop else s := rfl

theorem exec_laneTestStop (r : Request) (s : State) :
    exec (.laneTestStop r) s = act s fun s => s.takeRequest .laneTestStop r fun s => s.startTestStop r := rfl

/-! ## The test that runs (R112, R126) -/

theorem Port.runningLaneTest_eq_some {c : Port} {T : PortTest} :
    c.runningLaneTest = some T ↔ c.test = some T ∧ T.ended = false ∧ T.kind = .laneTest := by
  unfold Port.runningLaneTest
  rw [Option.filter_eq_some_iff, Port.runningTest_eq_some, decide_eq_true_iff, and_assoc]

theorem Port.runningLaneTest_eq_none {c : Port} (idle : ∀ T, c.test = some T → T.kind = .bringUp ∨ T.ended = true) :
    c.runningLaneTest = none := by
  refine Option.eq_none_iff_forall_ne_some.2 fun T running => ?_
  obtain ⟨test, runs, kind⟩ := Port.runningLaneTest_eq_some.1 running
  rcases idle T test with bringUp | ended
  · exact TestKind.noConfusion (bringUp.symm.trans kind)
  · exact Bool.noConfusion (ended.symm.trans runs)

/-- A port saturates when its LANE_TEST runs, has no dwell and has reached the elapsed of R126. -/
theorem Port.saturates_iff {c : Port} : c.saturates = true ↔ ∃ T, c.test = some T ∧ T.ended = false ∧
    T.kind = .laneTest ∧ T.dwell = none ∧ 281474976710655 / T.grade.bitsPerMs ≤ T.elapsed := by
  unfold Port.saturates
  cases running : c.runningLaneTest with
  | none =>
    refine ⟨fun h => Bool.noConfusion h, ?_⟩
    rintro ⟨T, test, runs, kind, -⟩
    rw [Port.runningLaneTest_eq_some.2 ⟨test, runs, kind⟩] at running
    cases running
  | some T =>
    obtain ⟨test, runs, kind⟩ := Port.runningLaneTest_eq_some.1 running
    simp only [test, Option.some.injEq, Bool.and_eq_true, decide_eq_true_iff]
    constructor
    · rintro ⟨dwell, due⟩
      exact ⟨T, rfl, runs, kind, dwell, due⟩
    · rintro ⟨T', rfl, -, -, dwell, due⟩
      exact ⟨dwell, due⟩

/-! ## The end of the test -/

/-- A LANE_TEST of the port has ended and closed as T, its job has completed with OK, and the port has not moved. -/
structure LaneTestDone (p : PortNo) (T : PortTest) (k : Fin 16) (tag : JobTag) (v : LaneNo → Nat → LaneVerdict)
    (s t : State) : Prop where
  closed : TestClosed (s.port p) (t.port p) T v
  st : (t.port p).st = (s.port p).st
  job : JobCompleted s t s.mm.ops tag (bufferOp tag.bufAddr (t.port p).results) .ok (laneCount T.lanes)
  slots : t.we.slots = s.we.slots.set k none
  rep : t.rep = s.rep
  frame : PortEventFrame p s t

/-- An event that ends the port's LANE_TEST, after it has changed no more than the test's flags. -/
theorem State.runPort_endsLaneTest {s : State} {p : PortNo} {f : Env → Ctl → Ctl} {c : Port} {T U : PortTest}
    {k : Fin 16} {tag : JobTag} {g : PortTest → LaneNo → TestRecord → LaneVerdict} {v : LaneNo → Nat → LaneVerdict}
    (runs : TestRuns s p T k tag) (ctl : s.ctl p f = (Ctl.start c).endLaneTest .ok g)
    (context : c = { s.port p with test := some U }) (kind : U.kind = .laneTest) (running : U.ended = false)
    (hv : ∀ i e, g U i ⟨e, none⟩ = v i e) : LaneTestDone p U k tag v s (s.runPort p f) := by
  subst context
  obtain ⟨closed, ended⟩ := (Ctl.start { s.port p with test := some U }).endLaneTest_closes U .ok g v
    rfl kind running hv
  obtain ⟨lanes, test, dwell, timer, port⟩ := Ctl.endLaneTest_port .ok g (Ctl.start { s.port p with test := some U })
  have kinds := Ctl.endLaneTest_kinds .ok g (Ctl.start { s.port p with test := some U })
  generalize (Ctl.start { s.port p with test := some U }).endLaneTest .ok g = y at *
  have st : y.port.st = (s.port p).st := by rw [port]; rfl
  have settled : s.runPort p f = s.settle p y := by
    rw [State.runPort_settles s p _ (by rw [ctl, st]; exact id), ctl]
  have answer := s.settle_answer p y
  rw [settled]
  refine ⟨?_, ?_, ?_, State.settle_slots runs ended kinds st, answer.silent kinds, answer.frame⟩
  · rw [answer.port]
    exact closed.of_lanes rfl
  · rw [answer.port, st]
  · rw [answer.port]
    exact (State.settle_completes runs ended).1

/-- An event that ends the port's LANE_TEST and does nothing else. -/
theorem State.runPort_endsRunning {s : State} {p : PortNo} {f : Env → Ctl → Ctl} {T : PortTest} {k : Fin 16}
    {tag : JobTag} {g : PortTest → LaneNo → TestRecord → LaneVerdict} {v : LaneNo → Nat → LaneVerdict}
    (runs : TestRuns s p T k tag) (ctl : s.ctl p f = (Ctl.start (s.port p)).endLaneTest .ok g)
    (hv : ∀ i e, g T i ⟨e, none⟩ = v i e) : LaneTestDone p T k tag v s (s.runPort p f) := by
  obtain ⟨test, kind, running, -⟩ := id runs
  exact State.runPort_endsLaneTest runs ctl (by rw [← test]) kind running hv

/-! ## The results (R130, Formats) -/

theorem toLE_value (n v : Nat) : (toLE n v).foldr (fun b acc => b.toNat + 256 * acc) 0 = v % 256 ^ n := by
  induction n generalizing v with
  | zero => rw [Nat.pow_zero, Nat.mod_one]; rfl
  | succ n ih =>
    rw [toLE, List.foldr_cons, ih, Nat.pow_succ', Nat.mod_mul, BitVec.toNat_ofNat]

/-- A field written least significant byte first reads back. -/
theorem leField_of_toLE {b : List Byte} {i n v : Nat} (bytes : (b.drop i).take n = toLE n v) :
    leField b i n = v % 256 ^ n := by
  rw [leField, bytes, toLE_value]

/-- The flags of a lane result, in bits 0 to 4; the reserved bits are 0 (R188). -/
theorem resultFlags_bits (extended lowered clamped early saturated : Bool) :
    let b := flagBit extended 0 ||| flagBit lowered 1 ||| flagBit clamped 2 ||| flagBit early 3 ||| flagBit saturated 4
    b.getLsbD 0 = extended ∧ b.getLsbD 1 = lowered ∧ b.getLsbD 2 = clamped ∧ b.getLsbD 3 = early ∧
    b.getLsbD 4 = saturated ∧ b.extractLsb' 5 3 = 0 := by
  revert extended lowered clamped early saturated
  decide

/-- The results of a test, lane by lane. -/
theorem Port.results_eq {c : Port} {T : PortTest} (test : c.test = some T) :
    c.results = allLanes.flatMap fun i : LaneNo =>
      if hasLane T.lanes i = true then ((c.lane i).test.map (laneResult T i)).getD [] else [] := by
  unfold Port.results
  rw [test]
  refine congrArg (fun part => allLanes.flatMap part) (funext fun i => ?_)
  cases (c.lane i).test <;> rfl

/-- Settles O30: the layout of the results, then the timer's expiry and saturation, each due or not. -/
theorem laneTestsEndAndComplete : Obligations.LaneTestsEndAndComplete := by
  refine ⟨⟨fun T i e v => ?_, fun c T test => Port.results_eq test⟩, fun p s hs => ?_⟩
  · intro b code
    obtain ⟨extended, lowered, clamped, early, saturated, reserved⟩ :=
      resultFlags_bits T.extended T.lowered T.clamped v.early T.saturated
    have lane : (byteAt b 0).toNat = i.val := (BitVec.toNat_ofNat _ _).trans (Nat.mod_eq_of_lt (by omega))
    have verdict : byteAt b 1 = code v.verdict := by
      show v.verdict.code = code v.verdict
      cases v.verdict <;> rfl
    exact ⟨rfl, lane, verdict, BitVec.toNat_ofNat _ _, extended, lowered, clamped, early, saturated, reserved,
      BitVec.toNat_ofNat _ _, rfl, leField_of_toLE (n := 2) rfl, leField_of_toLE (n := 6) rfl,
      leField_of_toLE (n := 4) rfl, leField_of_toLE (n := 6) (v := 0) rfl⟩
  · intro c
    rw [exec_testTimerExpiry, exec_testSaturated]
    refine ⟨fun early => act_idle hs (if_neg fun h => early (of_decide_eq_true h)), fun T k tag due runs => ?_,
      fun idle => act_idle hs (if_neg fun h => ?_), fun T k tag runs dwell full => ?_⟩
    · have done := State.runPort_endsRunning (s := { s with out := [] })
        (f := fun _ c => c.endLaneTest .ok fun _ _ _ => .pass) (v := fun _ _ => .pass) runs rfl fun _ _ => rfl
      exact act_effect hs (if_pos (decide_eq_true due)) (fun _ _ h => h)
        ⟨done.closed, done.st, done.frame.1, done.job, done.slots, done.rep, done.frame.2⟩
    · obtain ⟨T, test, running, kind, dwell, full⟩ := Port.saturates_iff.1 h
      rcases idle T test with bringUp | ended | timed | below
      · exact TestKind.noConfusion (bringUp.symm.trans kind)
      · exact Bool.noConfusion (ended.symm.trans running)
      · exact timed dwell
      · exact Nat.not_le.2 below full
    · obtain ⟨test, kind, running, -⟩ := id runs
      have marked : c.markSaturated = { c with test := some { T with saturated := true } } := by
        rw [Port.markSaturated, test]
        rfl
      have done := State.runPort_endsLaneTest (s := { s with out := [] })
        (f := fun _ c => (c.mod Port.markSaturated).endLaneTest .ok asStop) (v := stopGives T) runs rfl marked kind
        running fun _ _ => rfl
      exact act_effect hs (if_pos (Port.saturates_iff.2 ⟨T, test, running, kind, dwell, full⟩)) (fun _ _ h => h)
        ⟨done.closed, done.st, done.frame.1, done.job, done.slots, done.rep, done.frame.2⟩

/-! ## LANE_TEST_STOP (R125, R166) -/

theorem State.startTestStop_none {s : State} {r : Request} {p : PortNo} (names : Names r p)
    (none : (s.port p).runningLaneTest = none) : s.startTestStop r = s.completeReq r [] .noTest 0 := by
  rw [State.startTestStop, State.onPort_of_names names, if_pos none]

theorem State.startTestStop_running {s : State} {r : Request} {p : PortNo} {T : PortTest} (names : Names r p)
    (running : (s.port p).runningLaneTest = some T) : s.startTestStop r =
      (s.runPort p fun _ c => c.endLaneTest .ok asStop).completeReq r [] .ok (laneCount (s.port p).runningLanes) := by
  rw [State.startTestStop, State.onPort_of_names names, if_neg (by rw [running]; exact Option.some_ne_none T)]

/-- What stands after the end of a LANE_TEST still stands after the completion of the request that ended it. -/
theorem LaneTestDone.completeReq {p : PortNo} {T : PortTest} {k : Fin 16} {tag : JobTag}
    {v : LaneNo → Nat → LaneVerdict} {s t : State} (h : LaneTestDone p T k tag v s t) (r : Request) (n : Nat) :
    LaneTestDone p T k tag v s (t.completeReq r [] .ok n) ∧ CompletedLast s (t.completeReq r [] .ok n) r .ok n := by
  obtain ⟨closed, st, job, slots, rep, others, shared⟩ := h
  have completion := SharedFrame.completeReq t r [] .ok n
  have port : ∀ q, (t.completeReq r [] .ok n).port q = t.port q := State.port_congr (t.completeReq_ports r [] .ok n)
  obtain ⟨-, -, -, -, engine, list⟩ := id shared
  refine ⟨⟨?_, ?_, ?_, ?_, ?_, fun q ne => (port q).trans (others q ne), shared.trans completion⟩,
    State.completeReq_last list engine r .ok n⟩
  · rw [port]; exact closed
  · rw [port]; exact st
  · rw [port]; exact job.later completion
  · rw [State.completeReq_we]; exact slots
  · rw [State.completeReq_rep]; exact rep

/-- Settles O49: LANE_TEST_STOP with no running LANE_TEST, and with one. -/
theorem testStopsEndTheLaneTest : Obligations.TestStopsEndTheLaneTest := by
  intro p r s hs take names
  rw [exec_laneTestStop, act_takeRequest take]
  refine ⟨fun idle => ?_, fun T k tag runs => ?_⟩
  · obtain ⟨t, answer, ⟨ports, done, frame⟩, lines⟩ := act_completeReq (fun s => s.startTestStop r) s.ports hs
      (State.startTestStop_none (s := { s with out := [] }) names (Port.runningLaneTest_eq_none idle))
    exact ⟨t, answer, done, ports, frame, lines⟩
  · obtain ⟨test, kind, running, -⟩ := id runs
    have ends := State.runPort_endsRunning (s := { s with out := [] }) (f := fun _ c => c.endLaneTest .ok asStop)
      (v := stopGives T) runs rfl fun _ _ => rfl
    obtain ⟨done, last⟩ := ends.completeReq r (laneCount (s.port p).runningLanes)
    exact act_effect hs (State.startTestStop_running (s := { s with out := [] }) names
      (Port.runningLaneTest_eq_some.2 ⟨test, running, kind⟩)) (fun _ _ h => h)
      ⟨done.closed, done.job, last, done.slots, done.frame.1, done.rep, done.frame.2⟩

end Sys2Proof.Machine


/-!
# LANE_TEST: its checks and its start (R112, R113, R115, R116, R161, R166)
-/

namespace Sys2Proof.Machine

theorem exec_laneTest (r : Request) (s : State) :
    exec (.laneTest r) s = act s fun s => s.takeRequest .laneTest r fun s => s.startLaneTest r := rfl

/-! ## Job slots (R153, R157, R161; log 24) -/

theorem reqPort_of_names {r : Request} {p : PortNo} (names : Names r p) : reqPort r = some p := by
  have range : r.port.toNat < 32 := by rw [names]; exact p.isLt
  exact (dif_pos range).trans (congrArg some (Fin.ext names))

/-- The slot a job takes is the lowest free one. -/
theorem State.freeSlot_lowest {s : State} {k : Fin 16} (free : s.freeSlot = some k) :
    s.we.slots[k] = none ∧ ∀ k' : Fin 16, k' < k → s.we.slots[k'] ≠ none := by
  obtain ⟨empty, first⟩ := find_before (R := (· < ·)) (List.pairwise_lt_finRange 16) free
  refine ⟨of_decide_eq_true empty, fun k' below empty' => ?_⟩
  rcases first k' (List.mem_finRange k') (decide_eq_true empty') with rfl | above
  · exact absurd below (lt_irrefl _)
  · exact absurd below (lt_asymm above)

/-- A request of a kind that needs a slot is taken only when one is free (R157). -/
theorem CanTake.freeSlot {s : State} {kind : Kind} {r : Request} {p : PortNo} (take : CanTake s kind r)
    (needs : kind.needsSlot = true) (names : Names r p) : ∃ k, s.freeSlot = some k := by
  obtain ⟨-, stall⟩ := take
  refine Option.ne_none_iff_exists'.1 fun full => ?_
  unfold State.takeStall at stall
  dsimp only at stall
  split_ifs at stall with _ short
  exact short ⟨needs, by rw [reqPort_of_names names]; exact Option.some_ne_none p, full⟩

theorem State.occupy_of_free {s : State} {k : Fin 16} (j : Job) (free : s.freeSlot = some k) :
    s.occupy j = { s with we := { s.we with slots := s.we.slots.set k (some j) } } := by
  rw [State.occupy, free]

/-- A port has a LANE_TEST when some slot holds one of it. -/
theorem State.laneTestSlot_ne_none {s : State} {p : PortNo} : s.laneTestSlot p ≠ none ↔
    ∃ k : Fin 16, ∃ j, s.we.slots[k] = some j ∧ j.port = p ∧ j.kind = .laneTest := by
  unfold State.laneTestSlot
  rw [Ne, List.findSome?_eq_none_iff, not_forall]
  refine exists_congr fun k => ?_
  cases slot : s.we.slots[k] with
  | none => simp
  | some j => simp [allSlots]

/-! ## The test (R115, R116) -/

section
variable {c : Port} {cfg : ConfigCopy} {mask : LaneSet} {target dwell : Nat} {drop : Bool} {g : Grade}

theorem Port.laneTestOf_lanes : (c.laneTestOf cfg mask target dwell drop).lanes = c.testLanes mask := by
  unfold Port.laneTestOf
  dsimp only
  split_ifs <;> rfl

theorem Port.laneTestOf_timed (agreed : c.agreed = some g) (timed : dwell ≠ 0) :
    c.laneTestOf cfg mask target dwell drop =
      timedTest .laneTest (c.testLanes mask) g (orDefault target cfg.defaultTarget) dwell drop := by
  unfold Port.laneTestOf
  rw [agreed]
  exact if_neg timed

theorem Port.laneTestOf_continuous (agreed : c.agreed = some g) (continuous : dwell = 0) :
    c.laneTestOf cfg mask target dwell drop =
      continuousTest (c.testLanes mask) g (orDefault target cfg.defaultTarget) drop := by
  unfold Port.laneTestOf
  rw [agreed]
  exact if_pos continuous

end

/-! ## The checks, in order (R115, R166) -/

/-- The lanes a LANE_TEST names. -/
def laneMask (r : Request) : LaneSet := r.argA.extractLsb' 0 4

/-- The test a LANE_TEST asks for at a port. -/
def State.testAsked (s : State) (r : Request) (p : PortNo) : PortTest :=
  (s.port p).laneTestOf s.we.cfg (laneMask r) (r.argB.extractLsb' 0 8).toNat (r.argB.extractLsb' 16 16).toNat
    (r.argA.getLsbD 8)

section
variable {s : State} {r : Request} {p : PortNo}

theorem State.startLaneTest_inactive (names : Names r p) (inactive : (s.port p).st ≠ .active) :
    s.startLaneTest r = s.completeReq r [] .wrongState 0 :=
  (State.onPort_of_names names).trans (if_pos inactive)

theorem State.startLaneTest_busy (names : Names r p) (active : (s.port p).st = .active)
    (busy : s.laneTestSlot p ≠ none) : s.startLaneTest r = s.completeReq r [] .busy 0 :=
  (State.onPort_of_names names).trans ((if_neg (not_not.2 active)).trans (if_pos busy))

/-- The check of the mask fails exactly when it names a lane outside the lane set. -/
theorem maskOutside_iff (mask set : LaneSet) : (mask ≠ 0 ∧ (!subset mask set) = true) ↔ mask &&& ~~~set ≠ 0 := by
  unfold subset
  rw [Bool.not_eq_true', decide_eq_false_iff_not]
  refine ⟨fun h => h.2, fun h => ⟨?_, h⟩⟩
  rintro rfl
  exact h BitVec.zero_and

theorem State.startLaneTest_outside (names : Names r p) (active : (s.port p).st = .active)
    (idle : ¬ s.laneTestSlot p ≠ none) (outside : laneMask r &&& ~~~(s.port p).laneSet ≠ 0) :
    s.startLaneTest r = s.completeReq r [] .badArg 0 :=
  (State.onPort_of_names names).trans ((if_neg (not_not.2 active)).trans ((if_neg idle).trans
    (if_pos ((maskOutside_iff _ _).2 outside))))

section
variable (names : Names r p) (active : (s.port p).st = .active) (idle : ¬ s.laneTestSlot p ≠ none)
  (inside : laneMask r &&& ~~~(s.port p).laneSet = 0)
include names active idle inside

theorem State.startLaneTest_inside : s.startLaneTest r = if r.bufLen.toNat < 96 then s.completeReq r [] .shortBuffer 0
    else (s.setPort p ((s.port p).startLaneTest (s.testAsked r p))).occupy ⟨reqTag r, p, .laneTest⟩ :=
  (State.onPort_of_names names).trans ((if_neg (not_not.2 active)).trans ((if_neg idle).trans
    (if_neg fun outside => (maskOutside_iff _ _).1 outside inside)))

theorem State.startLaneTest_short (short : r.bufLen.toNat < 96) :
    s.startLaneTest r = s.completeReq r [] .shortBuffer 0 :=
  (State.startLaneTest_inside names active idle inside).trans (if_pos short)

theorem State.startLaneTest_starts {k : Fin 16} (room : 96 ≤ r.bufLen.toNat) (free : s.freeSlot = some k) :
    s.startLaneTest r = { s.setPort p ((s.port p).startLaneTest (s.testAsked r p)) with
      we := { s.we with slots := s.we.slots.set k (some ⟨reqTag r, p, .laneTest⟩) } } :=
  ((State.startLaneTest_inside names active idle inside).trans (if_neg (Nat.not_lt.2 room))).trans
    (State.occupy_of_free _ free)

end

/-- A LANE_TEST that a check refuses. -/
theorem laneTest_refused {st : Status} (hs : s.hold = .released) (take : CanTake s .laneTest r)
    (refused : State.startLaneTest { s with out := [] } r = State.completeReq { s with out := [] } r [] st 0) :
    ∃ t, exec (.laneTest r) s = .next t ∧ Completed s t r [] st 0 ∧ t.ports = s.ports ∧ RequestFrame s t ∧
      OnlyInterrupt s t := by
  rw [exec_laneTest, act_takeRequest take]
  obtain ⟨t, answer, ⟨ports, done, frame⟩, lines⟩ := act_completeReq (fun s => s.startLaneTest r) s.ports hs refused
  exact ⟨t, answer, done, ports, frame, lines⟩

end

/-- Settles O48: each check that refuses, and the test that starts when none does. -/
theorem laneTestsAreCheckedAndStarted : Obligations.LaneTestsAreCheckedAndStarted := by
  intro p r s hs take names c mask dwell target refused busy
  have slot : s.laneTestSlot p ≠ none ↔ busy := State.laneTestSlot_ne_none
  refine ⟨fun inactive => ?_, fun active holds => ?_, fun active idle outside => ?_,
    fun active idle inside short => ?_, fun g active idle inside room agreed => ?_⟩
  · exact laneTest_refused hs take (State.startLaneTest_inactive (s := { s with out := [] }) names inactive)
  · exact laneTest_refused hs take (State.startLaneTest_busy (s := { s with out := [] }) names active (slot.2 holds))
  · exact laneTest_refused hs take
      (State.startLaneTest_outside (s := { s with out := [] }) names active (mt slot.1 idle) outside)
  · exact laneTest_refused hs take
      (State.startLaneTest_short (s := { s with out := [] }) names active (mt slot.1 idle) inside short)
  · intro lanes asked
    obtain ⟨k, free⟩ := CanTake.freeSlot take rfl names
    obtain ⟨empty, lowest⟩ := State.freeSlot_lowest free
    have starts := State.startLaneTest_starts (s := { s with out := [] }) names active (mt slot.1 idle) inside room free
    have answer := act_same_regs (f := fun s => s.startLaneTest r) hs (by rw [starts]; rfl)
    have named : (s.testAsked r p).lanes = lanes := Port.laneTestOf_lanes
    have port : (State.startLaneTest { s with out := [] } r).port p = c.startLaneTest (s.testAsked r p) := by
      rw [starts]
      exact State.port_setPort s p _
    refine ⟨_, s.testAsked r p, k, (act_takeRequest take).trans answer, fun timed => Port.laneTestOf_timed agreed timed,
      fun continuous => Port.laneTestOf_continuous agreed continuous, ?_, empty, lowest, ?_⟩
    · rw [port, Port.startLaneTest, Port.startTest, named]
      rfl
    · rw [port, starts]
      rfl

end Sys2Proof.Machine


/-!
# The end of a transaction at the module bus (R132, R135 to R140, R168)
-/

namespace Sys2Proof.Machine

/-! ## The outcome of a job (R138, R168) -/

/-- The buffer writes of a job's outcome: the bytes of a read with OK (R168). -/
def jobBufs (tag : JobTag) (x : Transfer) (st : Status) (data : List Byte) : List MemOp :=
  if st = .ok ∧ x.isWrite = false then bufferOp tag.bufAddr data else []

theorem State.jobOutcome_eq (s : State) (tag : JobTag) (x : Transfer) (o : BusOutcome) : s.jobOutcome tag x o =
    (s.complete tag.index tag.iFlag (jobBufs tag x o.status o.data) o.status (o.bytesDone + 256 * o.tries)).meetStall
      fun st => st = Stall.index tag.index := by
  unfold State.jobOutcome jobBufs
  simp only [Bool.not_eq_true']

/-- A job's outcome completes its descriptor, and may trigger a scan. -/
theorem State.jobOutcome_completes (s : State) (tag : JobTag) (x : Transfer) (o : BusOutcome) :
    JobCompleted s (s.jobOutcome tag x o) s.mm.ops tag (jobBufs tag x o.status o.data) o.status
      (o.bytesDone + 256 * o.tries) ∧
    WorkRaised s (s.jobOutcome tag x o) tag.iFlag ∧ SharedFrame s (s.jobOutcome tag x o) := by
  rw [State.jobOutcome_eq]
  have ops := s.complete_ops tag.index tag.iFlag (jobBufs tag x o.status o.data) o.status (o.bytesDone + 256 * o.tries)
  have regs := s.complete_regs tag.index tag.iFlag (jobBufs tag x o.status o.data) o.status (o.bytesDone + 256 * o.tries)
  refine ⟨JobCompleted.later ⟨[], by rw [ops, List.append_nil], fun flag => ?_⟩ (.meetStall _ _), ?_,
    (SharedFrame.complete s _ _ _ _ _).trans (.meetStall _ _)⟩
  · rw [regs, if_pos flag]
    exact or_and_self_right _ _
  · unfold WorkRaised
    rw [State.meetStall_regs, regs]

/-! ## The end (R138) -/

section
variable {s : State} {x : Txn} (st : Status) (data : List Byte)

/-- A cut transaction has no outcome: its branch is released and the next decision made. -/
theorem State.endTxn_cut (cut : x.cut = true) : s.endTxn x st data = (s.busFree s.out).grants := by
  have outcome : (s.busFree s.out).txnOutcome x st data = s.busFree s.out := if_pos cut
  exact congrArg State.grants outcome

theorem State.grants_of_waits (waits : NothingWaits s) : s.grants = s :=
  State.grants_of_none s (Arbiter.choose_none _ waits.1 waits.2)

theorem State.endTxn_cutLast (cut : x.cut = true) (waits : NothingWaits s) : s.endTxn x st data = s.busFree s.out :=
  (State.endTxn_cut st data cut).trans (State.grants_of_waits (s := s.busFree s.out) waits)

/-- The outcome of a job at the end of its transaction: NO_MODULE when presence was lost (R138). -/
def Txn.outcome (x : Txn) (st : Status) (data : List Byte) : BusOutcome :=
  ⟨if x.presenceLost then .noModule else st, x.bytesDone, x.tries, if x.presenceLost then [] else data⟩

theorem State.endTxn_job {tag : JobTag} (cut : x.cut = false) (job : x.requester = .job tag) (waits : NothingWaits s) :
    s.endTxn x st data = (s.busFree s.out).jobOutcome tag x.xfer (x.outcome st data) := by
  have outcome : (s.busFree s.out).txnOutcome x st data =
      (s.busFree s.out).jobOutcome tag x.xfer (x.outcome st data) := by
    unfold State.txnOutcome Txn.outcome
    rw [if_neg (Bool.eq_false_iff.1 cut), job]
    cases x.presenceLost <;> rfl
  refine (congrArg State.grants outcome).trans (State.grants_of_waits ⟨?_, fun p => ?_⟩)
  · rw [State.jobOutcome_arb]
    exact waits.1
  · rw [State.jobOutcome_arb]
    exact waits.2 p

/-- The end of a job's transaction, where nothing waits. -/
theorem State.endTxn_jobEnded {tag : JobTag} (cut : x.cut = false) (job : x.requester = .job tag)
    (waits : NothingWaits s) :
    JobEnded s (s.endTxn x st data) x tag (jobBufs tag x.xfer st data) st x.bytesDone ∧
    (s.endTxn x st data).bus = BusReleased s := by
  obtain ⟨done, -, base, cache, ⟨bus, arb⟩, window, engine, -⟩ :=
    (s.busFree s.out).jobOutcome_completes tag x.xfer (x.outcome st data)
  have bufs : jobBufs tag x.xfer (x.outcome st data).status (x.outcome st data).data =
      if x.presenceLost then [] else jobBufs tag x.xfer st data := by
    unfold Txn.outcome
    cases x.presenceLost <;> rfl
  rw [bufs] at done
  rw [State.endTxn_job st data cut job waits]
  exact ⟨⟨done, arb, State.jobOutcome_ports _ _ _ _, cache, State.jobOutcome_rep _ _ _ _, base, window, engine⟩, bus⟩

end

theorem State.txnIn_none {s : State} {st : BusState} (h : s.bus.st ≠ st ∨ s.bus.current = none) : s.txnIn st = none := by
  unfold State.txnIn
  split_ifs with at_st
  · exact h.resolve_left (not_not_intro at_st)
  · rfl

/-! ## WATCHDOG_EXPIRY and RECOVERY_END (R139, R140) -/

/-- The watchdog over: the try of the transaction in progress is aborted. -/
def State.watchdogOver (s : State) (n : Nat) : State :=
  match s.txnIn .transfer with
  | none => s
  | some x => if due s.bus.watchdog then s.recover (x.moved n) else s

/-- The recovery sequence over, with the data line high or low. -/
def State.recovered (s : State) (high : Bool) : State :=
  match s.txnIn .recovery with
  | none => s
  | some x => if high then s.endTxn x .busTimeout [] else (s.setStuck x).endTxn x .busStuck []

theorem exec_watchdogExpiry (n : Nat) (s : State) : exec (.watchdogExpiry n) s = act s fun s => s.watchdogOver n := rfl
theorem exec_recoveryEnd (high : Bool) (s : State) : exec (.recoveryEnd high) s = act s fun s => s.recovered high := rfl

theorem State.watchdogOver_idle {s : State} (n : Nat)
    (h : s.bus.st ≠ .transfer ∨ s.bus.current = none ∨ s.bus.watchdog ≠ some 0) : s.watchdogOver n = s := by
  unfold State.watchdogOver
  cases txn : s.txnIn .transfer with
  | none => rfl
  | some x =>
    have notDue : s.bus.watchdog ≠ some 0 := by
      rcases h with st | current | timer
      · rw [State.txnIn_none (.inl st)] at txn; cases txn
      · rw [State.txnIn_none (.inr current)] at txn; cases txn
      · exact timer
    exact if_neg fun isDue => notDue ((due_iff _).1 isDue)

theorem State.watchdogOver_due {s : State} {x : Txn} (n : Nat) (st : s.bus.st = .transfer)
    (current : s.bus.current = some x) (timer : s.bus.watchdog = some 0) :
    s.watchdogOver n = s.recover (x.moved n) := by
  unfold State.watchdogOver
  rw [State.txnIn_some st current]
  exact if_pos ((due_iff _).2 timer)

theorem State.recovered_idle {s : State} (high : Bool) (h : s.bus.st ≠ .recovery ∨ s.bus.current = none) :
    s.recovered high = s := by
  unfold State.recovered
  rw [State.txnIn_none h]

/-- The part with these branch-stuck flags. -/
def State.withStuck (s : State) (stuck : Vector Bool 32) : State := { s with bus := { s.bus with stuck := stuck } }

/-- The branch-stuck flags after a recovery: a data line that is still low sets the port's flag, unless the port-event mark
is set (R140). -/
def BusCtl.stuckAfter (b : BusCtl) (x : Txn) (high : Bool) : Vector Bool 32 :=
  if high = false ∧ x.portEvent = false then b.stuck.set x.port true else b.stuck

theorem State.setStuck_eq (s : State) (x : Txn) : s.setStuck x = s.withStuck (s.bus.stuckAfter x false) := by
  unfold State.setStuck BusCtl.stuckAfter
  cases x.portEvent with
  | true => exact (if_pos rfl).trans (by rw [if_neg (by decide)]; rfl)
  | false => exact (if_neg (by decide)).trans (by rw [if_pos ⟨rfl, rfl⟩]; rfl)

theorem State.recovered_ends {s : State} {x : Txn} (high : Bool) (st : s.bus.st = .recovery)
    (current : s.bus.current = some x) : s.recovered high =
      (s.withStuck (s.bus.stuckAfter x high)).endTxn x (if high then .busTimeout else .busStuck) [] := by
  unfold State.recovered
  rw [show s.txnIn .recovery = some x from (if_pos st).trans current]
  cases high with
  | true => rfl
  | false => exact congrArg (State.endTxn · x .busStuck []) (s.setStuck_eq x)

/-- A port in READING is held when the try of its identity read was aborted (R13, R140). -/
theorem State.recovered_read {s : State} {x : Txn} (high : Bool) (st : s.bus.st = .recovery)
    (current : s.bus.current = some x) (whole : x.cut = false) (read : x.requester = .port) (waits : NothingWaits s)
    (at_st : (s.port x.port).st = .identify) (sub : (s.port x.port).sub = some .reading) :
    let t := s.recovered high
    IsHeld .moduleUnreadable (s.port x.port) (t.port x.port) ∧ Reported x.port 2 s t ∧
      t.bus = { BusReleased s with stuck := s.bus.stuckAfter x high } ∧ t.cache = s.cache ∧ ReadEndFrame x.port s t := by
  have ended := (State.recovered_ends high st current).trans (State.endTxn_read _ _ whole read waits)
  rw [State.identityOutcome_failed (by exact at_st) (by exact sub) (by cases high <;> exact Status.noConfusion)] at ended
  rw [ended]
  generalize s.bus.stuckAfter x high = stuck
  have held := State.busFree_holds (s.withStuck stuck) (s.withStuck stuck).out x.port .moduleUnreadable
  generalize State.holdPort _ x.port .moduleUnreadable = t at held ⊢
  exact held

/-- Settles O31: the two rows by bus state, and the end of a recovery by the transaction's cut mark and requester. -/
theorem abortedTriesAreRecovered : Obligations.AbortedTriesAreRecovered := by
  intro s hs
  refine ⟨fun n x st current timer => ?_, fun n idle => ?_, fun high idle => ?_, fun high x st current waits => ?_⟩
  · have effect := State.watchdogOver_due (s := { s with out := [] }) n st current timer
    rw [exec_watchdogExpiry, act_same_regs hs (by rw [effect]; rfl), effect]
    rfl
  · rw [exec_watchdogExpiry]
    exact act_idle hs (State.watchdogOver_idle (s := { s with out := [] }) n idle)
  · rw [exec_recoveryEnd]
    exact act_idle hs (State.recovered_idle (s := { s with out := [] }) high idle)
  · have effect := State.recovered_ends (s := { s with out := [] }) high st current
    dsimp only
    rw [exec_recoveryEnd]
    refine ⟨fun cut => ?_, fun tag whole job => ?_, fun whole read at_st sub => ?_⟩
    · have ended := effect.trans (State.endTxn_cutLast _ _ cut waits)
      rw [act_same_regs hs (by rw [ended]; rfl), ended]
      rfl
    · have ended := State.endTxn_jobEnded
        (s := State.withStuck { s with out := [] } (s.bus.stuckAfter x high))
        (if high then .busTimeout else .busStuck) [] whole job waits
      have bufs : jobBufs tag x.xfer (if high then .busTimeout else .busStuck) [] = [] := by
        unfold jobBufs
        cases high <;> rfl
      rw [bufs] at ended
      exact act_effect hs effect (fun _ _ h => h) ended
    · exact act_effect hs rfl (fun _ _ h => h)
        (State.recovered_read (s := { s with out := [] }) high st current whole read waits at_st sub)

end Sys2Proof.Machine


/-!
# The tries of a transaction and the outcome of a job (R133, R135 to R138, R168)
-/

namespace Sys2Proof.Machine

/-! ## What a try is on the bus (R135) -/

theorem Transfer.tryActs_write {x : Transfer} (write : x.isWrite = true) : x.tryActs =
    [BusAct.start, BusAct.send (addressByte x.device false), .send x.page, .send x.offset] ++
      x.data.map BusAct.send ++ [BusAct.stop] :=
  if_pos write

theorem Transfer.tryActs_read {x : Transfer} {n : Nat} (read : x.isWrite = false) (len : x.len = n + 1) : x.tryActs =
    [BusAct.start, BusAct.send (addressByte x.device false), .send x.page, .send x.offset, .restart,
      BusAct.send (addressByte x.device true)] ++ (List.replicate n [BusAct.receive, .ack]).flatten ++
      [BusAct.receive, BusAct.nack, BusAct.stop] := by
  refine (if_neg (Bool.eq_false_iff.1 read)).trans ?_
  rw [len, readActs_succ]
  simp

/-! ## The three rows outside a transfer (log 2) -/

section
variable {s : State} (idle : s.bus.st ≠ .transfer ∨ s.bus.current = none)
include idle

theorem State.addressNacked_idle : s.addressNacked = s := by
  unfold State.addressNacked
  rw [State.txnIn_none idle]

theorem State.byteNacked_idle (n : Nat) : s.byteNacked n = s := by
  unfold State.byteNacked
  rw [State.txnIn_none idle]

theorem State.tryCompleted_idle (data : List Byte) : s.tryCompleted data = s := by
  unfold State.tryCompleted
  rw [State.txnIn_none idle]

end

/-! ## The three rows at the transaction in progress -/

section
variable {s : State} {x : Txn} (busy : s.bus.st = .transfer) (current : s.bus.current = some x)
include busy current

/-- A new try while tries are left (R136). -/
theorem State.addressNacked_retries (left : x.tries ≤ x.retries) :
    s.addressNacked = (s.emit [.busStop]).retry x := by
  unfold State.addressNacked
  rw [State.txnIn_some busy current]
  exact if_pos left

/-- The tries are spent (R136). -/
theorem State.addressNacked_ends (spent : x.retries < x.tries) :
    s.addressNacked = (s.emit [.busStop]).endTxn { x with bytesDone := 0 } .noAck [] := by
  unfold State.addressNacked
  rw [State.txnIn_some busy current]
  exact if_neg (not_le.2 spent)

/-- A byte NACK ends the transaction at once (R137). -/
theorem State.byteNacked_ends (n : Nat) : s.byteNacked n = (s.emit [.busStop]).endTxn (x.refused n) .noAck [] := by
  unfold State.byteNacked
  rw [State.txnIn_some busy current]

/-- A try that brings what it should ends the transaction (R138). -/
theorem State.tryCompleted_ends {data : List Byte} (brings : x.xfer.isWrite = true ∨ data.length = x.xfer.len) :
    s.tryCompleted data =
      s.endTxn { x with bytesDone := x.xfer.len } .ok (if x.xfer.isWrite then [] else data) := by
  have done : x.brings data = true := by
    unfold Txn.brings
    rw [Bool.or_eq_true, decide_eq_true_iff]
    exact brings
  unfold State.tryCompleted
  rw [State.txnIn_some busy current]
  exact if_pos done

end

theorem jobBufs_failed {st : Status} (tag : JobTag) (x : Transfer) (data : List Byte) (failed : st ≠ .ok) :
    jobBufs tag x st data = [] := if_neg fun h => failed h.1

theorem jobBufs_write {x : Transfer} (tag : JobTag) (st : Status) (data : List Byte) (write : x.isWrite = true) :
    jobBufs tag x st data = [] := if_neg fun h => by rw [write] at h; exact Bool.noConfusion h.2

/-- The bytes of a read go to the job's buffer (R168). -/
theorem jobBufs_read {x : Transfer} {data : List Byte} (tag : JobTag) (read : x.isWrite = false)
    (some : 1 ≤ data.length) : jobBufs tag x .ok data = [.bufferWrite tag.bufAddr.toNat data] :=
  (if_pos ⟨rfl, read⟩).trans (if_neg (List.ne_nil_of_length_pos some))

/-- The end of a job's transaction as a command answers it, where nothing waits. -/
theorem act_jobEnded {s : State} {eff : State → State} {x : Txn} {n : Nat} {l : List Out} {tag : JobTag} {st : Status}
    {data : List Byte} {bufs : List MemOp} (hs : s.hold = .released)
    (he : eff { s with out := [] } = State.endTxn { s with out := l } { x with bytesDone := n } st data)
    (whole : x.cut = false) (job : x.requester = .job tag) (waits : NothingWaits s)
    (hb : jobBufs tag x.xfer st data = bufs) :
    ∃ t, act s eff = .next t ∧ JobEnded s t x tag bufs st n ∧ t.bus = BusReleased s := by
  subst hb
  exact act_effect hs he (fun _ _ h => h)
    (State.endTxn_jobEnded (s := { s with out := l }) (x := { x with bytesDone := n }) st data whole job waits)

/-- The end of a cut transaction as a command answers it, where nothing waits. -/
theorem act_cutEnded {s : State} {eff : State → State} {y : Txn} {l : List Out} {st : Status} {data : List Byte}
    (hs : s.hold = .released) (he : eff { s with out := [] } = State.endTxn { s with out := l } y st data)
    (cut : y.cut = true) (waits : NothingWaits s) :
    act s eff = .next { s with bus := BusReleased s, out := l } := by
  have ended := he.trans (State.endTxn_cutLast (s := { s with out := l }) st data cut waits)
  rw [act_same_regs hs (by rw [ended]; rfl), ended]
  rfl

/-- Settles O32: the content of a try by direction, and the three rows by bus state, tries left, cut mark and direction. -/
theorem jobsAtTheBusEndWithTheirOutcome : Obligations.JobsAtTheBusEndWithTheirOutcome := by
  refine ⟨fun x => ⟨Transfer.tryActs_write, fun n => Transfer.tryActs_read⟩, fun s hs => ?_⟩
  simp only [exec_addressNack, exec_byteNack, exec_tryComplete]
  refine ⟨fun idle n data => ⟨?_, ?_, ?_⟩, fun x busy current left => ?_, fun x tag busy current job whole waits => ?_,
    fun x busy current cut waits => ⟨fun spent => ?_, fun n => ?_, fun data brings => ?_⟩⟩
  · exact act_idle hs (State.addressNacked_idle (s := { s with out := [] }) idle)
  · exact act_idle hs (State.byteNacked_idle (s := { s with out := [] }) idle n)
  · exact act_idle hs (State.tryCompleted_idle (s := { s with out := [] }) idle data)
  · have effect := State.addressNacked_retries (s := { s with out := [] }) busy current left
    rw [act_same_regs hs (by rw [effect]; rfl), effect]
    rfl
  · refine ⟨fun spent => ?_, fun n => ?_, fun data write => ?_, fun data read some len => ?_⟩
    · have effect := State.addressNacked_ends (s := { s with out := [] }) busy current spent
      exact act_jobEnded hs effect whole job waits (jobBufs_failed tag _ _ (by decide))
    · have effect := State.byteNacked_ends (s := { s with out := [] }) busy current n
      exact act_jobEnded hs effect whole job waits (jobBufs_failed tag _ _ (by decide))
    · have effect := State.tryCompleted_ends (s := { s with out := [] }) (data := data) busy current (.inl write)
      exact act_jobEnded hs effect whole job waits (jobBufs_write tag _ _ write)
    · have effect := State.tryCompleted_ends (s := { s with out := [] }) busy current (.inr len)
      rw [if_neg (Bool.eq_false_iff.1 read)] at effect
      exact act_jobEnded hs effect whole job waits (jobBufs_read tag read (len.symm ▸ some))
  · exact act_cutEnded hs (State.addressNacked_ends (s := { s with out := [] }) busy current spent) cut waits
  · exact act_cutEnded hs (State.byteNacked_ends (s := { s with out := [] }) busy current n) cut waits
  · exact act_cutEnded hs (State.tryCompleted_ends (s := { s with out := [] }) busy current brings) cut waits

end Sys2Proof.Machine


/-!
# The arbiter's decisions and the grants they make (R133, R134, R138, R142, R143)
-/

namespace Sys2Proof.Machine

/-! ## The grant decision (R143) -/

section
variable {a : Arbiter} {ratio : Nat} {p : PortNo} {j : PassJob} {rest : List PassJob}

theorem Arbiter.nextPort_none (quiet : ∀ q : PortNo, a.requests[q] = false) : a.nextPort = none :=
  Option.eq_none_iff_forall_ne_some.2 fun q h => absurd (Arbiter.requests_of_nextPort h) (by rw [quiet q]; decide)

/-- The search goes through the distances after the rotation pointer, 1 to 32, and stops at the first that waits. -/
theorem Arbiter.nextPort_nearest (waits : a.requests[p] = true)
    (nearest : ∀ q : PortNo, a.requests[q] = true → (p - a.rotation - 1).val ≤ (q - a.rotation - 1).val) :
    a.nextPort = some p := by
  obtain ⟨q, next⟩ := Option.ne_none_iff_exists'.1 (Arbiter.nextPort_ne_none waits)
  have asks := Arbiter.requests_of_nextPort next
  obtain ⟨before, k, after, split, found, passed⟩ := List.findSome?_eq_some_iff.1 next
  have at_q : a.rotation + 1 + k = q := by
    dsimp only at found
    split_ifs at found
    exact Option.some.inj found
  have distance : q - a.rotation - 1 = k := by rw [← at_q]; abel
  have closer : p - a.rotation - 1 ≤ k := by
    have bound := nearest q asks
    rw [distance] at bound
    exact bound
  have sorted : allPorts.Pairwise (· < ·) := List.pairwise_lt_finRange 32
  rw [split] at sorted
  have mem : p - a.rotation - 1 ∈ before ++ k :: after := split ▸ List.mem_finRange _
  have at_p : a.rotation + 1 + (p - a.rotation - 1) = p := by abel
  rcases List.mem_append.1 mem with early | late
  · have missed := passed _ early
    simp only [at_p, waits] at missed
    cases missed
  · rcases List.mem_cons.1 late with here | beyond
    · rw [next, ← at_q, ← here, at_p]
    · obtain ⟨above, -⟩ := List.pairwise_cons.1 (List.pairwise_append.1 sorted).2.1
      exact absurd (above _ beyond) (not_lt.2 closer)

/-- The queue's turn (R143). -/
theorem Arbiter.choose_turn (queue : a.queue = j :: rest) (on : ratio ≠ 0) (reached : ratio ≤ a.since) :
    a.choose ratio = some (.job j) := by
  unfold Arbiter.choose
  rw [queue]
  cases a.nextPort with
  | none => rfl
  | some p => exact if_pos ⟨on, reached⟩

/-- A waiting port, when it is not the queue's turn (R143). -/
theorem Arbiter.choose_next (turn : a.queue = [] ∨ ratio = 0 ∨ a.since < ratio) (next : a.nextPort = some p) :
    a.choose ratio = some (.port p) := by
  unfold Arbiter.choose
  rw [next]
  cases queue : a.queue with
  | nil => rfl
  | cons j rest =>
    refine if_neg ?_
    rintro ⟨on, reached⟩
    rcases turn with empty | off | short
    · rw [queue] at empty; cases empty
    · exact on off
    · exact absurd reached (not_le.2 short)

/-- The queue, when no port waits (R143). -/
theorem Arbiter.choose_job (queue : a.queue = j :: rest) (quiet : ∀ q : PortNo, a.requests[q] = false) :
    a.choose ratio = some (.job j) := by
  unfold Arbiter.choose
  rw [queue, Arbiter.nextPort_none quiet]

end

/-! ## A port's grant (R134) -/

/-- A port's grant on a branch that is not stuck begins its identity read. -/
theorem State.grant_port {s : State} {q : PortNo} (stuck : s.bus.stuck[q] = false) : s.grant (.port q) = { s with
    bus := BusGranted s .port q identityRead
    arb := { s.arb with requests := s.arb.requests.set q false, rotation := q, since := min (s.arb.since + 1) 255 }
    out := s.out ++ [.busTry identityRead.tryActs] } := by
  rw [State.grant_begins stuck]
  rfl

/-! ## A job's grant (R134, R142) -/

/-- What a job's grant leaves alone, beside the bus, the arbiter and EVENTS. -/
def GrantFrame (s t : State) : Prop :=
  SameBase s t ∧ SameEngine s t ∧ ListGrows s t ∧ t.ports = s.ports ∧ t.cache = s.cache ∧ t.rep = s.rep

theorem GrantFrame.later {s t u : State} (h : GrantFrame s t) (g : SharedFrame t u) (ports : u.ports = t.ports)
    (rep : u.rep = t.rep) : GrantFrame s u := by
  obtain ⟨⟨hold, straps, ms, pending⟩, engine, ⟨list, age⟩, ports', cache', rep'⟩ := h
  obtain ⟨⟨hold', straps', ms', pending'⟩, cache, -, -, engine', ⟨list', age'⟩⟩ := g
  exact ⟨⟨hold'.trans hold, straps'.trans straps, ms'.trans ms, pending'.trans pending⟩, engine.trans engine',
    ⟨list.trans list', age'.trans age⟩, ports.trans ports', cache.trans cache', rep.trans rep'⟩

theorem GrantFrame.of_arb (s : State) (a : Arbiter) : GrantFrame s { s with arb := a } := by
  obtain ⟨base, -, -, -, engine, list⟩ := SharedFrame.refl s
  exact ⟨base, engine, list, rfl, rfl, rfl⟩

/-- The arbiter after a job's grant (R143). -/
def Arbiter.jobTaken (a : Arbiter) : Arbiter := { a with queue := a.queue.tail, since := 0 }

/-- A job has been granted at the arbiter, and its place is free (R142). -/
theorem State.takeGrant_job (s : State) (j : PassJob) :
    let t := s.takeGrant (.job j)
    t.bus = s.bus ∧ t.arb = s.arb.jobTaken ∧ GrantFrame s t ∧ t.regs = s.regs ∧ t.out = s.out := by
  have frame := SharedFrame.meetStall { s with arb := s.arb.jobTaken } fun st => st = Stall.place
  have taken : s.takeGrant (.job j) =
    State.meetStall { s with arb := s.arb.jobTaken } fun st => st = Stall.place := rfl
  rw [taken]
  exact ⟨State.meetStall_bus _ _, State.meetStall_arb _ _, (GrantFrame.of_arb s _).later frame
    (State.meetStall_ports _ _) (State.meetStall_rep _ _), State.meetStall_regs _ _, State.meetStall_out _ _⟩

/-- A job's transaction has been granted and begun, the arbiter left as given. -/
def JobBegun (j : PassJob) (a : Arbiter) (s t : State) : Prop :=
  t.bus = BusGranted s (.job j.tag) j.port j.xfer ∧ t.arb = a ∧ GrantFrame s t ∧ t.regs = s.regs ∧
  t.out = s.out ++ [.busTry j.xfer.tryActs]

/-- A job's transaction has been granted and has ended at once, the arbiter left as given: its port has no module, or a
stuck branch. -/
def JobRefused (j : PassJob) (a : Arbiter) (s t : State) : Prop :=
  t.bus = s.bus ∧ t.arb = a ∧ GrantFrame s t ∧ WorkRaised s t j.tag.iFlag ∧
  completionOps s j.tag.index j.tag.iFlag [] (if (s.port j.port).present then .busStuck else .noModule) 0 <:+: t.mm.ops ∧
  t.out = s.out ++ [.busStop]

/-- A job's grant ends at once, or goes to the bus. -/
theorem State.grant_job (s : State) (j : PassJob) : s.grant (.job j) =
    if (s.port j.port).present = false ∨ s.bus.stuck[j.port] = true then
      ((s.takeGrant (.job j)).emit [.busStop]).jobOutcome j.tag j.xfer
        ⟨if (s.port j.port).present then .busStuck else .noModule, 0, 0, []⟩
    else (s.takeGrant (.job j)).beginTxn ((Grant.job j).txn s.we.cfg) := by
  obtain ⟨bus, -, ⟨-, ⟨-, -, -, -, -, cfg, -⟩, -, ports, -⟩, -⟩ := s.takeGrant_job j
  rw [State.grant_steps]
  generalize s.takeGrant (.job j) = u at bus cfg ports ⊢
  rw [← State.port_congr ports, ← bus, ← cfg]
  show (if Requester.job j.tag ≠ .port ∧ (!(u.port j.port).present) = true then u.endAtOnce _ .noModule
    else if u.bus.stuck[j.port] = true then u.endAtOnce _ .busStuck else u.beginTxn _) = _
  cases (u.port j.port).present <;> cases u.bus.stuck[j.port] <;> simp <;> rfl

/-- A job's grant begins its transaction when its port has a module and the branch is not stuck. -/
theorem State.grant_jobBegins {s : State} {j : PassJob} (module : (s.port j.port).present = true)
    (stuck : s.bus.stuck[j.port] = false) : JobBegun j s.arb.jobTaken s (s.grant (.job j)) := by
  obtain ⟨bus, arb, frame, regs, out⟩ := s.takeGrant_job j
  rw [State.grant_job, if_neg (by simp [module, stuck])]
  generalize s.takeGrant (.job j) = u at bus arb frame regs out ⊢
  refine ⟨?_, arb, frame, regs, congrArg (· ++ _) out⟩
  unfold State.beginTxn BusGranted
  rw [← bus]
  rfl

/-- A job's grant ends at once when its port has no module, or a stuck branch. -/
theorem State.grant_jobEnds {s : State} {j : PassJob}
    (blocked : (s.port j.port).present = false ∨ s.bus.stuck[j.port] = true) :
    JobRefused j s.arb.jobTaken s (s.grant (.job j)) := by
  obtain ⟨bus, arb, frame, regs, out⟩ := s.takeGrant_job j
  unfold JobRefused
  rw [State.grant_job, if_pos blocked]
  have failed : (if (s.port j.port).present then Status.busStuck else .noModule) ≠ .ok := by split_ifs <;> decide
  generalize (if (s.port j.port).present then Status.busStuck else .noModule) = st at failed ⊢
  generalize s.takeGrant (.job j) = u at bus arb frame regs out ⊢
  obtain ⟨-, ⟨-, -, -, -, anchor, -⟩, -⟩ := id frame
  obtain ⟨⟨more, ops, -⟩, work, shared⟩ := (u.emit [.busStop]).jobOutcome_completes j.tag j.xfer ⟨st, 0, 0, []⟩
  obtain ⟨-, -, ⟨bus', arb'⟩, -⟩ := id shared
  refine ⟨bus'.trans bus, arb'.trans arb, frame.later ((SharedFrame.emit u _).trans shared)
    (State.jobOutcome_ports _ _ _ _) (State.jobOutcome_rep _ _ _ _), ?_, ⟨u.mm.ops, more, ?_⟩, ?_⟩
  · unfold WorkRaised at work ⊢
    rw [work, State.emit_regs, regs]
  · rw [jobBufs_failed _ _ _ failed] at ops
    rw [ops, completionOps, completionOps, State.emit_we, anchor]
    rfl
  · rw [State.jobOutcome_out, State.emit_out, out]

/-! ## The grants at an idle bus (R143) -/

/-- A grant that ends at once is followed by the next decision; one that goes to the bus is the last. -/
theorem State.grants_of_two {s : State} {g g' : Grant} (idle : s.bus.st = .idle)
    (first : s.arb.choose s.we.cfg.turnRatio = some g) (idle' : (s.grant g).bus.st = .idle)
    (second : (s.grant g).arb.choose (s.grant g).we.cfg.turnRatio = some g')
    (busy : ((s.grant g).grant g').bus.st ≠ .idle) : s.grants = (s.grant g).grant g' := by
  unfold State.grants State.grantLoop
  rw [if_pos idle, first]
  dsimp only
  unfold State.grantLoop
  rw [if_pos idle', second]
  exact State.grantLoop_busy _ _ busy

section
variable {s : State} {j : PassJob} (idle : s.bus.st = .idle)
  (chosen : s.arb.choose s.we.cfg.turnRatio = some (.job j))
include idle chosen

theorem State.grants_jobBegins (module : (s.port j.port).present = true) (stuck : s.bus.stuck[j.port] = false) :
    JobBegun j s.arb.jobTaken s s.grants := by
  have begun := State.grant_jobBegins module stuck
  rw [State.grants_of_grant s _ idle chosen (by rw [begun.1]; exact BusState.noConfusion)]
  exact begun

theorem State.grants_jobEnds (blocked : (s.port j.port).present = false ∨ s.bus.stuck[j.port] = true)
    (last : s.arb.jobTaken.choose s.we.cfg.turnRatio = none) : JobRefused j s.arb.jobTaken s s.grants := by
  have ended := State.grant_jobEnds blocked
  obtain ⟨-, arb, ⟨-, ⟨-, -, -, -, -, cfg, -⟩, -⟩, -⟩ := id ended
  rw [State.grants_of_last s _ idle chosen (by rw [arb, cfg]; exact last)]
  exact ended

/-- A job whose grant ends at once, and the port granted after it. -/
theorem State.grants_jobThenPort {q : PortNo} (blocked : (s.port j.port).present = false ∨ s.bus.stuck[j.port] = true)
    (next : s.arb.jobTaken.choose s.we.cfg.turnRatio = some (.port q)) (stuck : s.bus.stuck[q] = false) :
    ∃ u, JobRefused j s.arb.jobTaken s u ∧ s.grants = { u with
      bus := BusGranted s .port q identityRead
      arb := { s.arb.jobTaken with requests := s.arb.requests.set q false, rotation := q, since := 1 }
      out := u.out ++ [.busTry identityRead.tryActs] } := by
  have ended := State.grant_jobEnds blocked
  obtain ⟨bus, arb, ⟨-, ⟨-, -, -, -, -, cfg, -⟩, -⟩, -⟩ := id ended
  have begins := State.grant_port (s := s.grant (.job j)) (q := q) (by rw [bus]; exact stuck)
  refine ⟨_, ended, ?_⟩
  rw [State.grants_of_two idle chosen (by rw [bus]; exact idle) (by rw [arb, cfg]; exact next)
    (by rw [begins]; exact BusState.noConfusion), begins, arb]
  unfold BusGranted
  rw [bus, cfg]
  rfl

end

/-! ## A command that makes grants -/

/-- What a command puts on the lines stands first in its answer, ahead of the interrupt message. -/
theorem act_lines {s u : State} {eff : State → State} {P : State → Prop} (hs : s.hold = .released)
    (he : eff { s with out := [] } = u) (hP : ∀ o, u.out <+: o → P { u with out := o }) :
    ∃ t, act s eff = .next t ∧ P t := by
  subst he
  exact ⟨_, act_released s eff hs, hP _ (List.prefix_append _ _)⟩

/-- A command that leaves the registers alone answers its effect. -/
theorem act_exact {s u : State} {eff : State → State} {P : State → Prop} (hs : s.hold = .released)
    (he : eff { s with out := [] } = u) (regs : u.regs = s.regs) (hu : P u) : ∃ t, act s eff = .next t ∧ P t := by
  subst he
  exact ⟨_, act_same_regs hs regs, hu⟩

/-- Settles O34: the decision by turn, waiting ports and queue; and the grants at the end of a cut transaction by what is
chosen, and by what is chosen after a job that ends at once. -/
theorem theArbiterChoosesInTurn : Obligations.TheArbiterChoosesInTurn := by
  refine ⟨fun a ratio => ⟨fun j rest => Arbiter.choose_turn, fun p turn waits nearest =>
    Arbiter.choose_next turn (Arbiter.nextPort_nearest waits nearest), fun j rest => Arbiter.choose_job,
    Arbiter.choose_none ratio⟩, fun x data s hs busy current cut brings => ?_⟩
  have effect : State.tryCompleted { s with out := [] } data = (State.busFree { s with out := [] } []).grants :=
    (State.tryCompleted_ends (s := { s with out := [] }) busy current brings).trans (State.endTxn_cut _ _ cut)
  dsimp only
  rw [exec_tryComplete]
  refine ⟨fun q chosen stuck => ?_, fun j chosen module stuck => ?_, fun j chosen blocked =>
    ⟨fun last => ?_, fun q next stuck => ?_⟩⟩
  · have begins := State.grant_port (s := State.busFree { s with out := [] } []) stuck
    have granted := effect.trans (State.grants_of_grant _ _ rfl chosen (by rw [begins]; exact BusState.noConfusion))
    rw [begins] at granted
    rw [act_same_regs hs (by rw [granted]; rfl), granted]
    rfl
  · obtain ⟨bus, arb, ⟨base, engine, list, ports, cache, rep⟩, regs, out⟩ :=
      State.grants_jobBegins (s := State.busFree { s with out := [] } []) rfl chosen module stuck
    exact act_exact hs effect regs ⟨bus, arb, ⟨base, engine, list, ports, cache, rep, regs⟩, out⟩
  · have ended := State.grants_jobEnds (s := State.busFree { s with out := [] } []) rfl chosen blocked last
    refine act_lines hs effect fun o lines => ?_
    generalize State.grants _ = t at ended lines ⊢
    obtain ⟨bus, arb, ⟨base, engine, list, ports, cache, rep⟩, work, ops, out⟩ := ended
    rw [out] at lines
    exact ⟨bus, arb, ⟨base, engine, list, ports, cache, rep, rfl⟩, work, ops, lines⟩
  · obtain ⟨u, ended, granted⟩ :=
      State.grants_jobThenPort (s := State.busFree { s with out := [] } []) rfl chosen blocked next stuck
    refine act_lines hs (effect.trans granted) fun o lines => ?_
    obtain ⟨bus, arb, ⟨base, engine, list, ports, cache, rep⟩, work, ops, out⟩ := ended
    rw [out] at lines
    exact ⟨rfl, rfl, ⟨base, engine, list, ports, cache, rep, rfl⟩, work, ops, lines⟩

end Sys2Proof.Machine


/-!
# Jobs that join the pass-through queue (R133, R134, R142, R158, R162, R168)
-/

namespace Sys2Proof.Machine

/-! ## A job joins the queue (R142) -/

section
variable {s : State} {j : PassJob}

theorem State.queueJob_waits (busy : s.bus.st ≠ .idle) :
    s.queueJob j = { s with arb := { s.arb with queue := s.arb.queue ++ [j] } } := State.grants_busy _ busy

section
variable (idle : s.bus.st = .idle) (waits : NothingWaits s)
include waits

/-- The only job is chosen. -/
theorem NothingWaits.chooses (ratio : Nat) :
    ({ s.arb with queue := s.arb.queue ++ [j] } : Arbiter).choose ratio = some (.job j) :=
  Arbiter.choose_job (rest := []) (congrArg (· ++ [j]) waits.1) waits.2

/-- The only job's grant leaves nothing that waits. -/
theorem NothingWaits.jobTaken :
    ({ s.arb with queue := s.arb.queue ++ [j] } : Arbiter).jobTaken = { s.arb with since := 0 } := by
  have tail : (s.arb.queue ++ [j]).tail = s.arb.queue := by rw [waits.1]; rfl
  unfold Arbiter.jobTaken
  dsimp only
  rw [tail]

include idle

theorem State.queueJob_begins (module : (s.port j.port).present = true) (stuck : s.bus.stuck[j.port] = false) :
    JobBegun j { s.arb with since := 0 } s (s.queueJob j) := by
  have begun := State.grants_jobBegins (s := { s with arb := { s.arb with queue := s.arb.queue ++ [j] } }) idle
    (waits.chooses _) module stuck
  rw [waits.jobTaken] at begun
  unfold State.queueJob
  generalize State.grants _ = t at begun ⊢
  exact begun

theorem State.queueJob_ends (blocked : (s.port j.port).present = false ∨ s.bus.stuck[j.port] = true) :
    JobRefused j { s.arb with since := 0 } s (s.queueJob j) := by
  have ended := State.grants_jobEnds (s := { s with arb := { s.arb with queue := s.arb.queue ++ [j] } }) idle
    (waits.chooses _) blocked (by rw [waits.jobTaken]; exact Arbiter.choose_none _ waits.1 waits.2)
  rw [waits.jobTaken] at ended
  unfold State.queueJob
  generalize State.grants _ = t at ended ⊢
  exact ended

end

end

/-! ## The scan goes on (R158) -/

theorem SharedFrame.scanOn (s : State) : SharedFrame s s.scanOn := by
  unfold State.scanOn
  split_ifs
  · simp [SharedFrame, SameBase, SameBus, SameWindow, SameEngine, ListGrows, State.scanRead]
  · exact .refl s

section
variable {j : PassJob} {a : Arbiter} {s t : State}

theorem JobBegun.scanOn (h : JobBegun j a s t) : JobBegun j a s t.scanOn := by
  obtain ⟨bus, arb, frame, regs, out⟩ := h
  exact ⟨t.scanOn_bus.trans bus, t.scanOn_arb.trans arb, frame.later (.scanOn t) t.scanOn_ports t.scanOn_rep,
    t.scanOn_regs.trans regs, t.scanOn_out.trans out⟩

theorem JobRefused.scanOn (h : JobRefused j a s t) : JobRefused j a s t.scanOn := by
  obtain ⟨bus, arb, frame, work, ops, out⟩ := h
  refine ⟨t.scanOn_bus.trans bus, t.scanOn_arb.trans arb, frame.later (.scanOn t) t.scanOn_ports t.scanOn_rep, ?_, ?_,
    t.scanOn_out.trans out⟩
  · unfold WorkRaised at work ⊢
    rw [State.scanOn_regs, work]
  · rw [State.scanOn_ops]
    exact ops.trans (List.prefix_append _ _).isInfix

end

/-! ## BUFFER_READ_DONE (R158, R168) -/

/-- The end of the buffer read of a MODULE_WRITE, when it is the operation in progress. -/
def State.bufferDone (s : State) (data : List Byte) : State :=
  match s.memHead with
  | some ⟨.bufferRead _ j, abandoned⟩ =>
    if data.length = j.xfer.len then
      if abandoned then s.popMem else (s.popMem.queueJob (j.withData data)).scanOn
    else s
  | _ => s

theorem exec_bufferReadDone (data : List Byte) (s : State) :
    exec (.bufferReadDone data) s = act s fun s => s.bufferDone data := rfl

section
variable {s : State} {data : List Byte} {a : Nat} {j : PassJob}

theorem State.bufferDone_idle (h : ∀ x i y, ¬ InProgress s (.bufferRead x i) y) : s.bufferDone data = s := by
  unfold State.bufferDone
  split
  · rename_i head
    exact absurd head (h _ _ _)
  · rfl

theorem State.bufferDone_abandoned (len : data.length = j.xfer.len) (head : InProgress s (.bufferRead a j) true) :
    s.bufferDone data = s.popMem := by
  unfold State.bufferDone
  rw [show s.memHead = _ from head]
  exact if_pos len

theorem State.bufferDone_returns (len : data.length = j.xfer.len) (head : InProgress s (.bufferRead a j) false) :
    s.bufferDone data = (s.popMem.queueJob (j.withData data)).scanOn := by
  unfold State.bufferDone
  rw [show s.memHead = _ from head]
  exact if_pos len

end

theorem State.scanOn_waits {s : State} (h : ScanWaits s) : s.scanOn = s.scanRead := if_pos h

theorem State.scanOn_stands {s : State} (h : ¬ ScanWaits s) : s.scanOn = s := if_neg h

/-- Settles O39: the end of a buffer read by what is in progress, and the job by the bus, its port and its branch. -/
theorem theBufferReadQueuesTheWrite : Obligations.TheBufferReadQueuesTheWrite := by
  intro data a j s hs
  rw [exec_bufferReadDone]
  refine ⟨fun other => act_idle hs (State.bufferDone_idle (s := { s with out := [] }) other), fun len head => ?_,
    fun len head busy scan => ?_, fun len head busy scan => ?_, fun len head idle waits module stuck => ?_,
    fun len head idle waits blocked => ?_⟩
  · have effect := State.bufferDone_abandoned (s := { s with out := [] }) len head
    rw [act_same_regs hs (by rw [effect]; rfl), effect]
    rfl
  all_goals have effect := State.bufferDone_returns (s := { s with out := [] }) len head
  · rw [State.queueJob_waits (s := State.popMem { s with out := [] }) busy, State.scanOn_waits (by exact scan)] at effect
    rw [act_same_regs hs (by rw [effect]; rfl), effect]
    rfl
  · rw [State.queueJob_waits (s := State.popMem { s with out := [] }) busy, State.scanOn_stands (by exact scan)] at effect
    rw [act_same_regs hs (by rw [effect]; rfl), effect]
    rfl
  · obtain ⟨bus, arb, ⟨base, engine, ⟨list, -⟩, ports, cache, rep⟩, regs, out⟩ :=
      (State.queueJob_begins (s := State.popMem { s with out := [] }) (j := j.withData data) idle waits module stuck).scanOn
    exact act_exact hs effect regs ⟨bus, arb, ports, cache, rep, regs, base, engine, list, out⟩
  · have ended :=
      (State.queueJob_ends (s := State.popMem { s with out := [] }) (j := j.withData data) idle waits blocked).scanOn
    refine act_lines hs effect fun o lines => ?_
    generalize State.scanOn _ = t at ended lines ⊢
    obtain ⟨bus, arb, ⟨base, engine, ⟨list, -⟩, ports, cache, rep⟩, work, ops, out⟩ := ended
    rw [out] at lines
    exact ⟨bus, arb, ports, cache, rep, work, base, engine, list, ops, lines⟩

/-! ## MODULE_READ and MODULE_WRITE (R133, R168) -/

theorem exec_moduleRead (r : Request) (s : State) :
    exec (.moduleRead r) s = act s fun s => s.takeRequest .moduleRead r fun s => s.startModuleRead r := rfl

theorem exec_moduleWrite (r : Request) (s : State) :
    exec (.moduleWrite r) s = act s fun s => s.takeRequest .moduleWrite r fun s => s.startModuleWrite r := rfl

/-- The bytes a request moves. -/
def reqLength (r : Request) : Nat := (r.argA.extractLsb' 24 8).toNat

/-- The transfer a request asks for, its write data still to be read. -/
def moduleTransfer (r : Request) (isWrite : Bool) : Transfer :=
  ⟨isWrite, r.argA.extractLsb' 0 7, r.argA.extractLsb' 8 8, r.argA.extractLsb' 16 8, reqLength r, []⟩

/-- Bit 7 of the device byte is ignored. -/
theorem reqTransfer_eq (r : Request) (isWrite : Bool) : reqTransfer r isWrite [] = moduleTransfer r isWrite := by
  have device : (argByte r.argA 0).extractLsb' 0 7 = r.argA.extractLsb' 0 7 := by
    ext i hi
    simp [argByte]
  unfold reqTransfer
  rw [device]
  rfl

section
variable {s : State} {r : Request} {p : PortNo}

theorem State.moduleCheck_badArg (bad : reqLength r = 0 ∨ 64 < reqLength r) : s.moduleCheck r p = some .badArg :=
  if_pos (bad.imp_left Nat.lt_one_iff.2)

section
variable (low : 1 ≤ reqLength r) (high : reqLength r ≤ 64)
include low high

theorem State.moduleCheck_length : s.moduleCheck r p =
    if r.bufLen.toNat < reqLength r then some .shortBuffer else if (s.port p).present then none else some .noModule :=
  if_neg (not_or.2 ⟨not_lt.2 low, not_lt.2 high⟩)

theorem State.moduleCheck_short (short : r.bufLen.toNat < reqLength r) : s.moduleCheck r p = some .shortBuffer :=
  (State.moduleCheck_length low high).trans (if_pos short)

theorem State.moduleCheck_absent (room : reqLength r ≤ r.bufLen.toNat) (absent : (s.port p).present = false) :
    s.moduleCheck r p = some .noModule :=
  (State.moduleCheck_length low high).trans ((if_neg (not_lt.2 room)).trans (if_neg (Bool.eq_false_iff.1 absent)))

theorem State.moduleCheck_passes (room : reqLength r ≤ r.bufLen.toNat) (module : (s.port p).present = true) :
    s.moduleCheck r p = none :=
  (State.moduleCheck_length low high).trans ((if_neg (not_lt.2 room)).trans (if_pos module))

end

variable (names : Names r p)
include names

/-- A check that fails completes the request, of either kind. -/
theorem State.startModule_refused {st : Status} (check : s.moduleCheck r p = some st) :
    s.startModuleRead r = s.completeReq r [] st 0 ∧ s.startModuleWrite r = s.completeReq r [] st 0 := by
  unfold State.startModuleRead State.startModuleWrite
  rw [State.onPort_of_names names, State.onPort_of_names names, check]
  exact ⟨rfl, rfl⟩

theorem State.startModuleRead_queues (check : s.moduleCheck r p = none) :
    s.startModuleRead r = s.queueJob ⟨reqTag r, p, moduleTransfer r false⟩ := by
  unfold State.startModuleRead
  rw [State.onPort_of_names names, check, ← reqTransfer_eq]

theorem State.startModuleWrite_reads (check : s.moduleCheck r p = none) : s.startModuleWrite r =
    s.push (.bufferRead r.bufAddr.toNat ⟨reqTag r, p, moduleTransfer r true⟩) := by
  unfold State.startModuleWrite
  rw [State.onPort_of_names names, check, ← reqTransfer_eq]

/-- The answer of a transfer request that a check refuses. -/
theorem moduleRequest_refused {k : Kind} {st : Status} (hs : s.hold = .released) (kind : k = .moduleRead ∨ k = .moduleWrite)
    (take : CanTake s k r) (check : State.moduleCheck { s with out := [] } r p = some st) :
    ∃ t, exec (k.row r) s = .next t ∧ Completed s t r [] st 0 ∧ t.ports = s.ports ∧ RequestFrame s t ∧
      OnlyInterrupt s t := by
  obtain ⟨read, write⟩ := State.startModule_refused (s := { s with out := [] }) names check
  have answers (eff : State → State) (he : eff { s with out := [] } = State.completeReq { s with out := [] } r [] st 0) :
      ∃ t, act s eff = .next t ∧ Completed s t r [] st 0 ∧ t.ports = s.ports ∧ RequestFrame s t ∧
        OnlyInterrupt s t := by
    obtain ⟨t, answer, ⟨ports, done, frame⟩, lines⟩ := act_completeReq eff s.ports hs he
    exact ⟨t, answer, done, ports, frame, lines⟩
  rcases kind with rfl | rfl
  · rw [show Kind.moduleRead.row r = .moduleRead r from rfl, exec_moduleRead, act_takeRequest take]
    exact answers _ read
  · rw [show Kind.moduleWrite.row r = .moduleWrite r from rfl, exec_moduleWrite, act_takeRequest take]
    exact answers _ write

end

/-- Settles O51: the checks in order, and the job by its kind, the bus and the branch. -/
theorem moduleTransfersAreCheckedAndQueued : Obligations.ModuleTransfersAreCheckedAndQueued := by
  intro p r s hs names
  refine ⟨fun k kind take => ⟨fun bad => ?_, fun low high short => ?_, fun low high room absent => ?_⟩,
    fun take low high room module => ?_, fun take low high room module => ?_⟩
  · exact moduleRequest_refused names hs kind take (State.moduleCheck_badArg bad)
  · exact moduleRequest_refused names hs kind take (State.moduleCheck_short low high short)
  · exact moduleRequest_refused names hs kind take (State.moduleCheck_absent low high room absent)
  · have effect := State.startModuleWrite_reads (s := { s with out := [] }) names
      (State.moduleCheck_passes low high room module)
    rw [exec_moduleWrite, act_takeRequest take, act_same_regs hs (by rw [effect]; rfl), effect]
    rfl
  · have effect := State.startModuleRead_queues (s := { s with out := [] }) names
      (State.moduleCheck_passes low high room module)
    rw [exec_moduleRead, act_takeRequest take]
    refine ⟨fun busy => ?_, fun idle waits stuck => ?_, fun idle waits stuck => ?_⟩
    · rw [State.queueJob_waits (s := { s with out := [] }) busy] at effect
      rw [act_same_regs hs (by rw [effect]), effect]
      rfl
    · obtain ⟨bus, arb, ⟨base, engine, list, ports, cache, rep⟩, regs, out⟩ :=
        State.queueJob_begins (s := { s with out := [] }) (j := ⟨reqTag r, p, moduleTransfer r false⟩) idle waits module
          stuck
      exact act_exact hs effect regs ⟨bus, arb, ports, cache, rep, regs, base, engine, list, out⟩
    · have ended := State.queueJob_ends (s := { s with out := [] }) (j := ⟨reqTag r, p, moduleTransfer r false⟩) idle
        waits (.inr stuck)
      refine act_lines hs effect fun o lines => ?_
      generalize State.queueJob _ _ = t at ended lines ⊢
      obtain ⟨bus, arb, ⟨base, engine, list, ports, cache, rep⟩, work, ops, out⟩ := ended
      rw [out] at lines
      have status : (if (s.port p).present then Status.busStuck else .noModule) = .busStuck := if_pos module
      change completionOps _ _ _ _ (if (s.port p).present then Status.busStuck else .noModule) _ <:+: _ at ops
      rw [status] at ops
      exact ⟨bus, arb, ports, cache, rep, work, base, engine, list, ops, lines⟩

end Sys2Proof.Machine


/-!
# Requests at their take (R142, R157, R158, R161, R163)
-/

namespace Sys2Proof.Machine

/-- A request row, of any kind, hands its request over at its take. -/
theorem exec_row (k : Kind) (r : Request) (s : State) :
    exec (k.row r) s = act s fun s => s.takeRequest k r fun s => s.startKind k r := by
  cases k <;> rfl

/-! ## Ports out of range (R163) -/

theorem reqPort_eq_none {r : Request} : reqPort r = none ↔ 32 ≤ r.port.toNat := by
  unfold reqPort
  split_ifs with range <;> simp [range]
  exact not_lt.1 range

theorem State.onPort_badPort {s : State} {r : Request} {f : PortNo → State} (range : 32 ≤ r.port.toNat) :
    s.onPort r f = s.completeReq r [] .badPort 0 := by
  unfold State.onPort
  rw [reqPort_eq_none.2 range]

/-- Every kind that names a port checks it. -/
theorem State.startKind_badPort {s : State} {k : Kind} {r : Request} (flush : k ≠ .planFlush) (config : k ≠ .setConfig)
    (range : 32 ≤ r.port.toNat) : s.startKind k r = s.completeReq r [] .badPort 0 := by
  cases k
  case planFlush => exact absurd rfl flush
  case setConfig => exact absurd rfl config
  all_goals exact State.onPort_badPort range

/-! ## What a take needs (R157, R161) -/

section
variable {s : State} {r : Request} {k : Kind}

/-- A request that cannot be taken stays where it is. -/
theorem State.takeRequest_waits {f : State → State} (wait : ¬ CanTake s k r) : s.takeRequest k r f = s := if_neg wait

/-- An index is free when no job in a slot, with its buffer being read, in the queue or at the bus holds it. -/
theorem State.heldIndex_eq_false {i : Nat} : s.heldIndex i = false ↔
    (∀ (k : Fin 16) (j : Job), s.we.slots[k] = some j → j.tag.index ≠ i) ∧
    (∀ j ∈ s.pendingWrites, j.tag.index ≠ i) ∧ (∀ j ∈ s.arb.queue, j.tag.index ≠ i) ∧
    (∀ x tag, s.bus.current = some x → x.cut = false → x.requester = .job tag → tag.index ≠ i) := by
  have slots : (allSlots.any fun k => match s.we.slots[k] with
      | some j => decide (j.tag.index = i)
      | none => false) = false ↔ ∀ (k : Fin 16) (j : Job), s.we.slots[k] = some j → j.tag.index ≠ i := by
    rw [List.any_eq_false]
    refine ⟨fun h k j held same => h k (List.mem_finRange k) (by rw [held]; exact decide_eq_true same), fun h k _ => ?_⟩
    cases held : s.we.slots[k] with
    | none => simp
    | some j => simpa using h k j held
  have transaction : (match s.bus.current with
      | some t => match t.requester with
        | .job tag => !t.cut && decide (tag.index = i)
        | .port => false
      | none => false) = false ↔
      ∀ x tag, s.bus.current = some x → x.cut = false → x.requester = .job tag → tag.index ≠ i := by
    cases s.bus.current with
    | none => simp
    | some x =>
      have only : (∀ y tag, some x = some y → y.cut = false → y.requester = .job tag → tag.index ≠ i) ↔
          ∀ tag, x.cut = false → x.requester = .job tag → tag.index ≠ i :=
        ⟨fun h tag => h x tag rfl, fun h y tag same => Option.some.inj same ▸ h tag⟩
      rw [only]
      cases req : x.requester <;> simp [req]
  unfold State.heldIndex
  rw [Bool.or_eq_false_iff, Bool.or_eq_false_iff, Bool.or_eq_false_iff]
  refine (and_congr (and_congr (and_congr slots ?_) ?_) transaction).trans (by rw [and_assoc, and_assoc])
  · simp
  · simp

theorem State.freeSlot_eq_none : s.freeSlot = none ↔ ¬ ∃ i : Fin 16, s.we.slots[i] = none := by
  simp [State.freeSlot, allSlots, List.find?_eq_none]

/-- A take waits for its index, for a slot or for a queue place, and for nothing else. -/
theorem State.takeStall_eq_noStall : s.takeStall (some k) r = .noStall ↔
    s.heldIndex r.index = false ∧ ¬ (k.needsSlot ∧ reqPort r ≠ none ∧ s.freeSlot = none) ∧
    ¬ (k.needsPlace ∧ reqPort r ≠ none ∧ Config.queueSize ≤ s.arb.queue.length + s.pendingWrites.length) := by
  unfold State.takeStall
  dsimp only
  split_ifs with held slot place
  · simp [held]
  · simp [slot]
  · simp [place]
  · exact iff_of_true rfl ⟨Bool.eq_false_iff.2 held, slot, place⟩

end

theorem Kind.needsSlot_iff {k : Kind} : k.needsSlot ↔ k = .laneTest ∨ k = .portAwait := by
  cases k <;> simp [Kind.needsSlot]

theorem Kind.needsPlace_iff {k : Kind} : k.needsPlace ↔ k = .moduleRead ∨ k = .moduleWrite := by
  cases k <;> simp [Kind.needsPlace]

/-- Settles O44: the port check of the ten kinds that name a port, and the take by what it needs. -/
theorem requestsAreCheckedAtTheirTake : Obligations.RequestsAreCheckedAtTheirTake := by
  refine ⟨fun k r s hs take flush config range => ?_, fun k r s hs wait => ?_, fun k r s running => ?_⟩
  · rw [exec_row, act_takeRequest take]
    obtain ⟨t, answer, ⟨ports, done, frame⟩, lines⟩ :=
      act_completeReq (fun s => s.startKind k r) s.ports hs (State.startKind_badPort flush config range)
    exact ⟨t, answer, done, ports, frame, lines⟩
  · rw [exec_row]
    exact act_idle hs (State.takeRequest_waits (s := { s with out := [] }) wait)
  · have inRange : reqPort r ≠ none ↔ r.port.toNat < 32 := by rw [Ne, reqPort_eq_none, not_le]
    have reads : (∀ j ∈ s.pendingWrites, j.tag.index ≠ r.index) ↔
        ∀ a (j : PassJob), (⟨.bufferRead a j, false⟩ : MemEntry) ∈ s.mm.ops → j.tag.index ≠ r.index := by
      simp only [State.mem_pendingWrites]
      exact ⟨fun h a j read => h j ⟨a, read⟩, fun h j ⟨a, read⟩ => h a j read⟩
    have size : Config.queueSize = 4 := rfl
    rw [CanTake, and_iff_right running, State.takeStall_eq_noStall, State.heldIndex_eq_false, Kind.needsSlot_iff,
      Kind.needsPlace_iff, inRange, State.freeSlot_eq_none, reads, size]
    grind

end Sys2Proof.Machine


/-!
# The three resets and their end (R1, R149, R152, R179, R185, R186)
-/

namespace Sys2Proof.Machine

/-! ## The reset values -/

section
variable (hold : ResetHold) (straps : BitVec 12) (presence : BitVec 32) (pending : List Instr)

theorem State.initial_port (p : PortNo) :
    (State.initial hold straps presence pending).port p = Port.initial (presence.getLsbD p.val) := by
  simp [State.port, State.initial]

/-- Every block holds its reset values, whatever the straps and the presence inputs are (R185). -/
theorem State.initial_atReset : AtReset (State.initial hold straps presence pending) := by
  refine ⟨rfl, fun p => ?_, ⟨rfl, rfl, rfl, fun p => ?_⟩, ⟨rfl, rfl, rfl, rfl, fun p => ?_⟩,
    ⟨fun p => ?_, rfl, rfl, rfl⟩, ?_, rfl, ?_, rfl, rfl, rfl⟩
  · rw [State.initial_port]; exact Port.initial_atReset _
  · simp [State.initial, PlanCache.initial]
  · simp [State.initial, BusCtl.initial]
  · simp [State.initial, Arbiter.initial]
  · simp [EngineAtReset, ConfigAtReset, State.initial, WorkEngine.initial, ConfigCopy.initial]
  · simp [ReportsAtReset, State.initial, ReportEngine.initial]

end

/-! ## A reset begins (R149, R179) -/

/-- The interrupt line goes to deasserted with the cleared EVENTS (R179; log 6). -/
theorem irqMessage_of_noEvents {s t : State} (clear : t.regs.events = 0) :
    irqMessage s t = if s.regs.events &&& s.regs.mask = 0 then [] else [.interrupt false] := by
  have quiet : t.irq = false := by simp [State.irq, clear]
  unfold irqMessage
  rw [quiet]
  by_cases asserted : s.regs.events &&& s.regs.mask = 0 <;> simp [State.irq, asserted]

theorem State.resetPart_spec (s : State) (hold : ResetHold) :
    AtReset (s.resetPart hold) ∧ (s.resetPart hold).hold = hold ∧ (s.resetPart hold).straps = s.straps ∧
      (s.resetPart hold).pending = s.pending ∧
      (s.resetPart hold).out = (if s.bus.current = none then [] else [.busStop]) ++
        (if s.regs.events &&& s.regs.mask = 0 then [] else [.interrupt false]) :=
  ⟨State.initial_atReset hold s.straps 0 s.pending, rfl, rfl, rfl,
    congrArg (_ ++ ·) (irqMessage_of_noEvents (t := State.initial hold s.straps 0 s.pending) rfl)⟩

theorem exec_deviceReset_released {s : State} (hs : s.hold = .released) :
    exec .deviceReset s = .next (s.resetPart (.timed 1)) := congrArg Host.Outcome.next (if_pos hs)

/-- A DEVICE_RESET written during a reset is ignored (log 5). -/
theorem exec_deviceReset_held {s : State} (held : s.hold ≠ .released) :
    exec .deviceReset s = .next { s with out := [] } := congrArg Host.Outcome.next (if_neg held)

/-! ## A reset ends (R185, R186) -/

theorem exec_resetEnd (straps : BitVec 12) (presence : BitVec 32) (s : State) :
    exec (.resetEnd straps presence) s =
      .next (if s.hold.canEnd then State.initial .released straps presence s.pending else { s with out := [] }) := rfl

/-- Settles O4: the three resets build the reset state, and RESET_END builds it again when the hold can end. -/
theorem resetsPutEveryBlockAtItsResetValues : Obligations.ResetsPutEveryBlockAtItsResetValues := by
  refine ⟨fun s c reset => ?_, fun s held => ⟨_, exec_deviceReset_held held, rfl⟩, fun s straps presence due => ?_,
    fun s straps presence n early => ?_⟩
  · rcases reset with rfl | rfl | ⟨rfl, hs⟩
    · exact ⟨_, rfl, s.resetPart_spec .pin⟩
    · exact ⟨_, rfl, s.resetPart_spec .pin⟩
    · exact ⟨_, exec_deviceReset_released hs, s.resetPart_spec (.timed 1)⟩
  · have ends : s.hold.canEnd = true := by
      rcases due with hold | hold <;> rw [hold] <;> rfl
    rw [exec_resetEnd, if_pos ends]
    exact ⟨_, rfl, State.initial_atReset _ _ _ _, rfl, rfl,
      fun p => by rw [State.initial_port]; rfl, rfl, rfl⟩
  · have stands : s.hold.canEnd ≠ true := by
      rcases early with hold | hold <;> rw [hold] <;> simp [ResetHold.canEnd]
    rw [exec_resetEnd, if_neg stands]
    exact ⟨_, rfl, rfl⟩

end Sys2Proof.Machine


/-!
# ENGINE_RESTART (R145, R153, R160, R178, R182, R184)
-/

namespace Sys2Proof.Machine

theorem SameBase.trans {s t u : State} (h : SameBase s t) (h' : SameBase t u) : SameBase s u := by
  obtain ⟨hold, straps, ms, pending⟩ := h
  obtain ⟨hold', straps', ms', pending'⟩ := h'
  exact ⟨hold'.trans hold, straps'.trans straps, ms'.trans ms, pending'.trans pending⟩

/-! ## The memory master's list and the reports in flight (R178; log 12) -/

/-- The operation in progress is a FILLED write. -/
def State.WritesFilled (s : State) : Prop := ∃ a b x, s.mm.ops.head? = some ⟨.reportFilled a b, x⟩

/-- Giving up the work engine's reads does not change which operation is in progress. -/
theorem State.writesFilled_of_abandoned {s t : State} (mm : t.mm = (s.abandonReads MemOp.isWorkRead).mm) :
    t.WritesFilled ↔ s.WritesFilled := by
  unfold State.WritesFilled
  rw [mm]
  unfold State.abandonReads
  rcases s.mm.ops with _ | ⟨⟨op, x⟩, rest⟩
  · simp
  · cases op <;> simp [MemOp.isWorkRead]

/-- The operation in progress stays, its outcome discarded when it is a read but no fill; the rest is handed back. -/
theorem State.restartMemory_ops {s t : State} (mm : t.mm = (s.abandonReads MemOp.isWorkRead).mm) :
    t.restartMemory.mm.ops =
      (s.mm.ops.take 1).map fun e => if e.op.discardsOutcome then { e with abandoned := true } else e := by
  have ops : t.mm.ops = s.mm.ops.map fun e => if e.op.isWorkRead then { e with abandoned := true } else e :=
    congrArg MemMaster.ops mm
  unfold State.restartMemory
  generalize s.mm.ops = l at ops ⊢
  rcases l with _ | ⟨⟨op, x⟩, rest⟩
  · simp [ops]
  · cases op <;> simp [ops, MemOp.isWorkRead, MemOp.discardsOutcome]

/-- The first report stays in flight when its FILLED write is in progress; the others go back to their ports. -/
theorem State.restartReports_rep (s : State) : ∃ kept,
    s.restartReports.rep = { restoreAll (s.rep.inflight.drop kept.length) [] s.rep with inflight := kept } ∧
    (s.WritesFilled → kept = s.rep.inflight.take 1) ∧ (¬ s.WritesFilled → kept = []) := by
  unfold State.restartReports
  split
  · rename_i a b x f fs head flight
    refine ⟨[f], ?_, fun _ => by rw [flight]; rfl, fun other => absurd ⟨a, b, x, head⟩ other⟩
    rw [flight]
    rfl
  · rename_i other
    refine ⟨[], rfl, fun ⟨a, b, x, head⟩ => ?_, fun _ => rfl⟩
    cases flight : s.rep.inflight with
    | nil => rfl
    | cons f fs => exact (other a b x f fs head flight).elim

/-! ## The part before the ports that wait on a fill are held -/

/-- The list and the reports in flight handed back, the cursors and the cache cleared. -/
def State.restarted (s : State) : State :=
  { s.restartReports.restartMemory with
    we := { s.we with cursor := 0, stall := .noStall }
    rep := { s.restartReports.rep with cursor := 0, phase := .idle, reread := false, stallFlag := false }
    cache := s.cache.flush }

theorem State.restartEngine_eq (s : State) : s.restartEngine = s.abandonWork.restarted.enterStopped := by
  unfold State.restartEngine
  generalize s.abandonWork = u
  unfold State.restarted
  simp only [State.restartMemory_we, State.restartReports_we, State.restartMemory_rep, State.restartMemory_cache,
    State.restartReports_cache]

theorem exec_engineRestart (s : State) : exec .engineRestart s = act s State.restartEngine := rfl

section
variable (s : State)

theorem State.restarted_we : s.restarted.we = { s.we with cursor := 0, stall := .noStall } := rfl

theorem State.restarted_cache : s.restarted.cache = s.cache.flush := rfl

theorem State.restarted_ops : s.restarted.mm.ops = s.restartReports.restartMemory.mm.ops := rfl

theorem State.restarted_arb : s.restarted.arb = s.arb :=
  (State.restartMemory_arb _).trans (State.restartReports_arb _)

theorem State.restarted_bus : s.restarted.bus = s.bus :=
  (State.restartMemory_bus _).trans (State.restartReports_bus _)

theorem State.restarted_regs : s.restarted.regs = s.regs :=
  (State.restartMemory_regs _).trans (State.restartReports_regs _)

theorem State.restarted_base : SameBase s s.restarted := by
  simp [SameBase, State.restarted]

theorem State.restarted_port (p : PortNo) : s.restarted.port p = s.port p := by
  simp [State.restarted, State.port]

theorem State.restarted_rep : ∃ kept, s.restarted.rep =
      { restoreAll (s.rep.inflight.drop kept.length) [] s.rep with
        cursor := 0, phase := .idle, reread := false, stallFlag := false, inflight := kept } ∧
    (s.WritesFilled → kept = s.rep.inflight.take 1) ∧ (¬ s.WritesFilled → kept = []) := by
  obtain ⟨kept, rep, flight⟩ := s.restartReports_rep
  refine ⟨kept, ?_, flight⟩
  unfold State.restarted
  rw [rep]

end

/-- The engine with its work abandoned: every slot is free (R153). -/
theorem State.abandonWork_we (s : State) : s.abandonWork.we = { s.we with
    slots := Vector.replicate 16 none, scan := .noScan, scanPending := false, scanTimer := none } := by
  obtain ⟨⟨slots, engine, freed⟩, -⟩ := s.abandonWork_spec
  have empty : slots = Vector.replicate 16 none := by
    ext k hk j
    simpa using congrArg (· = some j) (freed ⟨k, hk⟩)
  rw [engine, empty]

theorem State.abandonWork_base (s : State) : SameBase s s.abandonWork := by
  simp [SameBase]

/-! ## The ports (R65, R129) -/

/-- Holding the ports that wait, after the tests of abandoned LANE_TESTs have ended. -/
theorem FillsFailed.of_abandonWork {s u t : State} (fails : FillsFailed u t fun _ c => c)
    (waiting : u.cache.fillPending = s.cache.fillPending) (port : ∀ p, u.port p = s.abandonWork.port p) :
    FillsFailed s t fun p c =>
      if ∃ k : Fin 16, ∃ j, s.we.slots[k] = some j ∧ j.port = p ∧ j.kind = .laneTest then c.closeTest else c := by
  obtain ⟨-, -, -, -, ports⟩ := s.abandonWork_spec
  obtain ⟨noneWaits, held⟩ := fails
  refine ⟨noneWaits, fun p => ?_⟩
  have outcome := held p
  rw [waiting, port] at outcome
  obtain ⟨closed, stood⟩ := ports p
  rw [s.testAbandoned_allSlots] at closed stood
  dsimp only
  by_cases abandoned : ∃ k : Fin 16, ∃ j, s.we.slots[k] = some j ∧ j.port = p ∧ j.kind = .laneTest
  · rw [closed abandoned] at outcome
    rw [if_pos abandoned]
    split_ifs at outcome ⊢ <;> exact outcome
  · rw [stood abandoned] at outcome
    rw [if_neg abandoned]
    exact outcome

/-- The report engine at an entry into STOPPED with its writer idle. -/
theorem State.enterStopped_writerStands {s : State} (idle : s.rep.phase = .idle) :
    s.enterStopped.rep.cursor = s.rep.cursor ∧ s.enterStopped.rep.stallFlag = s.rep.stallFlag ∧
    s.enterStopped.rep.inflight = s.rep.inflight ∧ s.enterStopped.rep.phase = .idle ∧
    s.enterStopped.rep.reread = s.rep.reread ∧
    ((∀ p : PortNo, s.cache.fillPending[p] = false) → s.enterStopped.rep = s.rep) := by
  have stands := State.failFills_writerStands { s with we := { s.we with st := .stopped, run := false, scanTimer := none } }
  have whole := State.failFills_none { s with we := { s.we with st := .stopped, run := false, scanTimer := none } }
  unfold State.enterStopped
  generalize State.failFills _ = t at stands whole ⊢
  obtain ⟨-, cursor, stall, flight, writer⟩ := stands
  obtain ⟨phase, reread⟩ := writer rfl
  exact ⟨cursor, stall, flight, phase.trans idle, reread (show s.rep.phase ≠ .reading by rw [idle]; decide),
    fun noneWaits => by rw [whole noneWaits]⟩

/-- Settles O8: the work is abandoned, the list and the reports are handed back, and then the engine enters STOPPED. -/
theorem engineRestartStopsTheEngine : Obligations.EngineRestartStopsTheEngine := by
  intro s hs
  rw [exec_engineRestart]
  refine act_answer hs fun o => ?_
  rw [State.restartEngine_eq]
  have abandoned := State.abandonWork_spec { s with out := [] }
  have we := State.abandonWork_we { s with out := [] }
  have base := State.abandonWork_base { s with out := [] }
  have rep := State.abandonWork_rep { s with out := [] }
  have cache := State.abandonWork_cache { s with out := [] }
  have regs := State.abandonWork_regs { s with out := [] }
  have ports {v t : State} := FillsFailed.of_abandonWork (s := { s with out := [] }) (u := v) (t := t)
  generalize State.abandonWork _ = u at abandoned we base rep cache regs ports ⊢
  obtain ⟨-, arb, bus, mm, -⟩ := abandoned
  obtain ⟨kept, restored, filled, other⟩ := u.restarted_rep
  have free : u.restarted.SlotsFree := fun k => by rw [u.restarted_we, we]; simp
  have entry := u.restarted.enterStopped_spec free
  have writer := u.restarted.enterStopped_writerStands (by rw [restored])
  generalize u.restarted.enterStopped = t at entry writer ⊢
  obtain ⟨we', mm', regs', bus', arb', base', entries, gen, epoch, fails⟩ := entry
  obtain ⟨cursor, stall, flight, phase, reread, same⟩ := writer
  rw [u.restarted_cache, cache] at entries gen epoch same
  rw [restored] at cursor stall flight reread same
  rw [State.writesFilled_of_abandoned mm] at filled other
  rw [rep] at filled same restored
  have list := (congrArg MemMaster.ops mm').trans
    (u.restarted_ops.trans (State.restartMemory_ops (u.restartReports_mm.trans mm)))
  refine ⟨by rw [we', u.restarted_we, we], list, (arb'.trans u.restarted_arb).trans arb,
    (bus'.trans u.restarted_bus).trans bus, entries, gen, epoch, cursor, phase, reread, stall,
    fun h => flight.trans (filled h), fun h => flight.trans (other h), fun noneWaits counts => ?_,
    (regs'.trans u.restarted_regs).trans regs, (base.trans u.restarted_base).trans base', ?_⟩
  · dsimp only
    rw [flight, same noneWaits]
    exact restoreAll_restores (s.rep.inflight.drop kept.length) s.rep fun f hf => counts f (List.mem_of_mem_drop hf)
  · exact ports fails (congrArg PlanCache.fillPending u.restarted_cache |>.trans (congrArg (·.flush.fillPending) cache))
      u.restarted_port

end Sys2Proof.Machine


/-!
# RUN, nudges and the periodic scan timer (R150, R153, R155, R156, R159, R160, R175, R181 to R183)
-/

namespace Sys2Proof.Machine

theorem exec_runSet (s : State) : exec .runSet s = act s State.setRun := rfl
theorem exec_runClear (s : State) : exec .runClear s = act s State.clearRun := rfl
theorem exec_nudgeWork (s : State) : exec .nudgeWork s = act s State.nudgeWork := rfl
theorem exec_nudgeReports (s : State) : exec .nudgeReports s = act s State.nudgeReports := rfl

/-! ## The two triggers (R155, R175) -/

/-- The report read that a trigger of the report engine issues (R175). -/
def State.reportReads (s : State) : List MemEntry :=
  if s.rep.phase ≠ .reading ∧ s.we.st.working = true ∧ s.rep.queue ≠ [] then [⟨.reportRead s.reportAddr, false⟩] else []

/-- A trigger of the report engine, in every phase (R175). -/
theorem State.triggerReport_eq (s : State) : s.triggerReport = { s with
    rep := { s.rep with
      phase := if s.we.st.working = true ∧ s.rep.queue ≠ [] then .reading else s.rep.phase
      reread := s.rep.reread || s.rep.phase = .reading }
    mm := { s.mm with ops := s.mm.ops ++ s.reportReads } } := by
  by_cases reading : s.rep.phase = .reading
  · rw [State.triggerReport_reading s reading]
    simp [State.reportReads, reading]
  · by_cases issues : s.we.st.working = true ∧ s.rep.queue ≠ []
    · rw [State.triggerReport_issues s reading issues.1 issues.2]
      simp [State.reportRead, State.push, State.reportReads, reading, issues]
    · have stands : s.triggerReport = s := by
        unfold State.triggerReport
        rw [if_neg reading, if_neg (by simpa using issues)]
      rw [stands, State.reportReads, if_neg issues, if_neg fun h => issues h.2]
      simp [reading]

section
variable {s : State} (working : s.we.st.working = true)
include working

/-- A trigger of the report engine while the work engine is RUNNING or DRAINING (R175). -/
theorem State.triggerReport_working : s.triggerReport.rep = { s.rep with
    phase := if s.rep.queue ≠ [] then .reading else s.rep.phase
    reread := s.rep.reread || s.rep.phase = .reading } := by
  rw [State.triggerReport_eq]
  simp only [working, true_and]

theorem State.reportReads_working : s.reportReads =
    if s.rep.phase ≠ .reading ∧ s.rep.queue ≠ [] then [⟨.reportRead s.reportAddr, false⟩] else [] := by
  unfold State.reportReads
  simp only [working, true_and]

end

@[simp] theorem State.triggerReport_mm (s : State) :
    s.triggerReport.mm = { s.mm with ops := s.mm.ops ++ s.reportReads } := by rw [State.triggerReport_eq]

/-- A trigger of a scan in RUNNING: one is started, or the trigger is kept for the end of the one in progress (R155,
R159). -/
theorem State.triggerScan_eq {s : State} (running : s.we.st = .running) : s.triggerScan =
    if s.we.scan = .noScan then { s with
      we := { s.we with scan := .reading, stall := .noStall }
      mm := { s.mm with ops := s.mm.ops ++ [descReadAt s s.we.cursor] } }
    else { s with we := { s.we with scanPending := true } } := if_pos running

theorem State.triggerScan_stands {s : State} (h : s.we.st ≠ .running) : s.triggerScan = s := if_neg h

/-- The memory master's list after a trigger of a scan in RUNNING. -/
theorem State.triggerScan_mm {s : State} (running : s.we.st = .running) : s.triggerScan.mm = { s.mm with
    ops := s.mm.ops ++ if s.we.scan = .noScan then [descReadAt s s.we.cursor] else [] } := by
  rw [State.triggerScan_eq running]
  split_ifs <;> simp

theorem State.triggerScan_triggered {s : State} (running : s.we.st = .running) : ScanTriggered s s.triggerScan := by
  refine ⟨State.triggerScan_starts running, fun busy => ?_⟩
  rw [State.triggerScan_eq running, if_neg busy]
  exact ⟨rfl, rfl⟩

/-- A trigger of a scan reaches the scan, its pending trigger and the recorded stall alone. -/
theorem State.triggerScan_we (s : State) : ∃ scan pending stall, s.triggerScan.we =
    { s.we with scan := scan, scanPending := pending, stall := stall } := by
  unfold State.triggerScan
  split_ifs
  · exact ⟨_, _, _, rfl⟩
  · exact ⟨_, _, _, rfl⟩
  · exact ⟨_, _, _, rfl⟩

/-- The report engine's trigger and then the scan's, in RUNNING (R155, R175; log 43). -/
theorem State.bothTriggers {s : State} (running : s.we.st = .running) :
    s.triggerReport.triggerScan.rep = { s.rep with
      phase := if s.rep.queue ≠ [] then .reading else s.rep.phase
      reread := s.rep.reread || s.rep.phase = .reading } ∧
    s.triggerReport.triggerScan.mm = { s.mm with ops := s.mm.ops ++
      (if s.rep.phase ≠ .reading ∧ s.rep.queue ≠ [] then [⟨.reportRead s.reportAddr, false⟩] else []) ++
      if s.we.scan = .noScan then [descReadAt s s.we.cursor] else [] } ∧
    ScanTriggered s s.triggerReport.triggerScan := by
  have working : s.we.st.working = true := by rw [running]; rfl
  have engine := s.triggerReport_we
  have triggered := State.triggerScan_triggered (s := s.triggerReport) (by rw [engine]; exact running)
  refine ⟨by rw [State.triggerScan_rep, State.triggerReport_working working], ?_, ?_⟩
  · rw [State.triggerScan_mm (by rw [engine]; exact running), State.triggerReport_mm,
      State.reportReads_working working, engine, descReadAt, engine]
    rfl
  · unfold ScanTriggered at *
    rw [engine] at triggered
    exact triggered

/-! ## RUN = 1 (R181, R182) -/

/-- The engine back in RUNNING from DRAINING, before its triggers (R156, R182; log 16). -/
def State.resumed (s : State) : State :=
  { s with we := { s.we with st := .running, run := true, scanTimer := s.we.cfg.scanStart } }

theorem State.setRun_draining {s : State} (h : s.we.st = .draining) :
    s.setRun = s.resumed.triggerReport.triggerScan := by
  unfold State.setRun
  rw [h]
  rfl

/-- Settles O6: RUN = 1 starts a STOPPED or HALTED engine, leaves one that runs alone, and brings one that drains back,
with the report engine's trigger and then the scan's. -/
theorem runSetActsByEngineState : Obligations.RunSetActsByEngineState := by
  intro s hs
  refine ⟨fun st => ?_, fun st => ?_, fun st => ?_⟩
  · have effect : State.setRun { s with out := [] } = State.enterStarting { s with out := [] } := by
      unfold State.setRun
      rcases st with st | st <;> simp only [st]
    rw [exec_runSet, act_same_regs hs (by rw [effect]; rfl), effect]
    rfl
  · refine act_unchanged s _ hs ?_
    unfold State.setRun
    rcases st with st | st <;> simp only [st]
  · have effect := State.setRun_draining (s := { s with out := [] }) st
    obtain ⟨rep, list, triggered⟩ := State.bothTriggers (s := State.resumed { s with out := [] }) rfl
    obtain ⟨scan, pending, stall, engine⟩ := (State.resumed { s with out := [] }).triggerReport.triggerScan_we
    rw [State.triggerReport_we] at engine
    exact act_exact hs effect (by simp [State.resumed]) ⟨by rw [engine]; rfl, by rw [engine]; rfl, by rw [engine]; rfl,
      by rw [engine]; rfl, by rw [engine]; rfl, by rw [engine]; rfl, by rw [engine]; rfl, rep, list, triggered,
      by simp [State.resumed], by simp [State.resumed], by simp [SameBase, State.resumed],
      by simp [SameBus, State.resumed], by simp [State.resumed], by simp [State.resumed]⟩

/-! ## RUN = 0 and the end of a drain (R153, R160, R183) -/

theorem exec_drainEnd (s : State) :
    exec .drainEnd s = act s fun s => if s.we.st = .draining ∧ s.drained then s.finishDrain else s := rfl

/-- The engine that has left RUNNING for DRAINING, its scan given up (R160, R183). -/
def State.draining (s : State) : State :=
  { s.stopScan with we := { s.stopScan.we with st := .draining, run := false } }.triggerReport

theorem State.clearRun_running {s : State} (h : s.we.st = .running) :
    s.clearRun = if s.draining.drained then s.draining.finishDrain else s.draining := by
  unfold State.clearRun
  rw [h]
  rfl

theorem State.draining_we (s : State) : s.draining.we = { s.we with
    st := .draining, run := false, scan := .noScan, scanPending := false } := State.triggerReport_we _

/-- What the entry into DRAINING leaves alone. -/
theorem State.draining_keeps (s : State) : s.draining.ports = s.ports ∧ s.draining.cache = s.cache ∧
    SameBase s s.draining ∧ SameBus s s.draining ∧ s.draining.regs = s.regs ∧ s.draining.out = s.out := by
  simp [State.draining, State.stopScan, SameBase, SameBus]

/-- The list at the entry into DRAINING: descriptor reads are given up, and a report read may join. -/
theorem State.draining_ops (s : State) : ∃ give : MemEntry → MemEntry, ∃ reads,
    s.draining.mm.ops = s.mm.ops.map give ++ reads ∧ (∀ e, (give e).op = e.op) ∧
    (∀ e, e.op.isStartRead = true → give e = e) ∧
    ∀ e ∈ reads, e.op.isStartRead = false ∧ e.op.isCompletion = false := by
  refine ⟨_, _, congrArg MemMaster.ops (State.triggerReport_mm _), fun e => ?_, fun e start => ?_, fun e he => ?_⟩
  · split <;> rfl
  · obtain ⟨op, x⟩ := e
    cases op <;> simp_all [MemOp.isStartRead]
  · unfold State.reportReads at he
    split_ifs at he <;> simp at he
    subst he
    exact ⟨rfl, rfl⟩

/-- Leaving RUNNING ends none of the five conditions and brings none about (R153). -/
theorem State.draining_drainConditions (s : State) : DrainConditions s.draining ↔ DrainConditions s := by
  obtain ⟨give, reads, ops, same, starts, others⟩ := s.draining_ops
  obtain ⟨-, -, -, ⟨bus, arb⟩, -⟩ := s.draining_keeps
  unfold DrainConditions
  rw [State.draining_we, bus, arb, ops]
  simp only [List.mem_append, or_imp, forall_and, List.forall_mem_map, same]
  refine and_congr_right fun _ => and_congr_right fun _ => and_congr_right fun _ => and_congr ?_ ?_
  · constructor
    · rintro ⟨h, -⟩ e he start
      have := h e he start
      rwa [starts e start] at this
    · refine fun h => ⟨fun e he start => ?_, fun e he start => ?_⟩
      · rw [starts e start]; exact h e he start
      · rw [(others e he).1] at start; cases start
  · exact ⟨fun h => h.1, fun h => ⟨h, fun e he => (others e he).2⟩⟩

/-- The end of a drain: DRAINED, STOPPED, and the ports that wait on a fill held (R65, R183). -/
theorem State.finishDrain_spec {s : State} (conditions : DrainConditions s) :
    s.finishDrain.we = { s.we with st := .stopped, run := false, scanTimer := none } ∧ s.finishDrain.mm = s.mm ∧
    s.finishDrain.regs = { s.regs with events := s.regs.events ||| evDrained } ∧ SameBus s s.finishDrain ∧
    SameBase s s.finishDrain ∧ s.finishDrain.cache.entries = s.cache.entries ∧
    s.finishDrain.cache.gen = s.cache.gen ∧ FillsFailed s s.finishDrain fun _ c => c := by
  have entry := (s.raise evDrained).enterStopped_spec conditions.1
  unfold State.finishDrain
  generalize State.enterStopped _ = t at entry ⊢
  obtain ⟨we, mm, regs, bus, arb, base, entries, gen, -, fails⟩ := entry
  exact ⟨we, mm, regs, ⟨bus, arb⟩, base, entries, gen, fails⟩

/-- The holds of waiting ports, said of a state with the same ports and cache. -/
theorem FillsFailed.of_same {s u t : State} {f : PortNo → Port → Port} (h : FillsFailed u t f)
    (waiting : u.cache = s.cache) (ports : u.ports = s.ports) : FillsFailed s t f := by
  obtain ⟨noneWaits, held⟩ := h
  refine ⟨noneWaits, fun p => ?_⟩
  have outcome := held p
  rw [waiting, State.port_congr ports] at outcome
  exact outcome

/-- Settles O7: RUN = 0 in RUNNING gives the scan up and enters DRAINING, and STOPPED in the same write when the engine
holds no work; DRAIN_END does the same to an engine that drains. -/
theorem runClearAndDrainEndStopTheEngine : Obligations.RunClearAndDrainEndStopTheEngine := by
  refine ⟨fun s hs => ⟨fun st => ?_, fun st => ?_, fun st work => ?_, fun st conditions => ?_⟩,
    fun s hs st conditions => ?_, fun s hs stands => ?_⟩
  · refine act_unchanged s _ hs ?_
    unfold State.clearRun
    rcases st with st | st | st <;> simp only [st]
  · have effect : State.clearRun { s with out := [] } = { s with we := { s.we with run := false }, out := [] } := by
      unfold State.clearRun
      simp only [st]
    rw [exec_runClear, act_same_regs hs (by rw [effect]), effect]
  · have waits : ¬ (State.draining { s with out := [] }).drained = true := by
      rw [State.drained_iff, State.draining_drainConditions]
      exact work
    obtain ⟨ports, cache, base, bus, regs, out⟩ := State.draining_keeps { s with out := [] }
    have we := State.draining_we { s with out := [] }
    refine act_exact hs ((State.clearRun_running (s := { s with out := [] }) st).trans (if_neg waits)) regs ?_
    exact ⟨by rw [we], by rw [we], by rw [we], by rw [we], by rw [we], by rw [we], ports, cache, base, bus, regs, out⟩
  · have ends : DrainConditions (State.draining { s with out := [] }) :=
      (State.draining_drainConditions { s with out := [] }).2 conditions
    obtain ⟨ports, cache, base, ⟨bus, arb⟩, regs, -⟩ := State.draining_keeps { s with out := [] }
    obtain ⟨we', -, regs', ⟨bus', arb'⟩, base', entries, gen, fails⟩ := State.finishDrain_spec ends
    rw [State.draining_we] at we'
    refine act_effect hs ((State.clearRun_running (s := { s with out := [] }) st).trans
      (if_pos ((State.drained_iff _).2 ends)))
      (fun _ _ h => h) ?_
    exact ⟨by rw [we'], by rw [we'], by rw [we'], by rw [we'], by rw [we'], by rw [regs', regs],
      fails.of_same cache ports, entries.trans (congrArg PlanCache.entries cache),
      gen.trans (congrArg PlanCache.gen cache), base.trans base', bus'.trans bus, arb'.trans arb⟩
  · obtain ⟨we, mm, regs, bus, base, entries, gen, fails⟩ :=
      State.finishDrain_spec (s := { s with out := [] }) conditions
    rw [exec_drainEnd]
    refine act_effect hs (if_pos ⟨st, (State.drained_iff _).2 conditions⟩) (fun _ _ h => h) ?_
    exact ⟨by rw [we], by rw [we], by rw [we], regs, fails, entries, gen, by rw [we], by rw [we], by rw [we], mm,
      base, bus⟩
  · rw [exec_drainEnd]
    refine act_idle hs (if_neg fun h => ?_)
    rcases stands with other | work
    · exact other h.1
    · exact work ((State.drained_iff _).1 h.2)

/-! ## Nudges and the periodic scan timer (R155, R156, R175) -/

/-- SCAN_TIMER_EXPIRY in the terms of its effect. -/
theorem exec_scanTimerExpiry (s : State) : exec .scanTimerExpiry s = act s fun s =>
    if due s.we.scanTimer then s.restartScanTimer.triggerReport.triggerScan else s := rfl

/-- The report engine's trigger and the scan's at an expiry of the scan timer, in every engine state (R156). -/
theorem State.scanTimerOver_spec (s : State) :
    let t := s.restartScanTimer.triggerReport.triggerScan
    t.we.scanTimer = some ((s.we.cfg.scanValue + 1) * 4) ∧ (s.we.st = .running → ScanTriggered s t) ∧
    (s.we.st ≠ .running → t.we.scan = s.we.scan) ∧ t.rep = { s.rep with
      phase := if s.we.st.working = true ∧ s.rep.queue ≠ [] then .reading else s.rep.phase
      reread := s.rep.reread || s.rep.phase = .reading } := by
  obtain ⟨scan, pending, stall, engine⟩ := s.restartScanTimer.triggerReport.triggerScan_we
  rw [State.triggerReport_we] at engine
  refine ⟨by rw [engine]; rfl, fun running => ?_, fun other => ?_, ?_⟩
  · obtain ⟨-, -, triggered⟩ := State.bothTriggers (s := s.restartScanTimer) running
    exact triggered
  · rw [State.triggerScan_stands (by rw [State.triggerReport_we]; exact other), State.triggerReport_we]
    rfl
  · rw [State.triggerScan_rep, State.triggerReport_eq]
    rfl

/-- Settles O9: each nudge is a trigger taken in RUNNING alone, and an expiry of the scan timer triggers both
engines. -/
theorem nudgesAndTheScanTimerTriggerScans : Obligations.NudgesAndTheScanTimerTriggerScans := by
  refine ⟨fun s hs running idle => ?_, fun s hs running busy => ?_, fun s hs other => ⟨?_, ?_⟩,
    fun s hs running reading => ?_, fun s hs running rest waits => ?_, fun s hs running rest empty => ?_,
    fun s hs timer => ?_, fun s hs early => ?_⟩
  · have effect : State.nudgeWork { s with out := [] } = _ :=
      (State.triggerScan_eq (s := { s with out := [] }) running).trans (if_pos idle)
    rw [exec_nudgeWork, act_same_regs hs (by rw [effect]), effect]
    rfl
  · have effect : State.nudgeWork { s with out := [] } = _ :=
      (State.triggerScan_eq (s := { s with out := [] }) running).trans (if_neg busy)
    rw [exec_nudgeWork, act_same_regs hs (by rw [effect]), effect]
  · exact act_unchanged s _ hs (State.triggerScan_stands (s := { s with out := [] }) other)
  · exact act_unchanged s _ hs (if_neg other)
  · have effect : State.nudgeReports { s with out := [] } = _ :=
      (if_pos running).trans (State.triggerReport_reading { s with out := [] } reading)
    rw [exec_nudgeReports, act_same_regs hs (by rw [effect]), effect]
  · have effect : State.nudgeReports { s with out := [] } = _ := (if_pos running).trans
      (State.triggerReport_issues { s with out := [] } rest (by rw [running]; rfl) waits)
    rw [exec_nudgeReports, act_same_regs hs (by rw [effect]; rfl), effect]
    rfl
  · have quiet : State.triggerReport { s with out := [] } = { s with out := [] } := by
      unfold State.triggerReport
      rw [if_neg rest, if_neg (by simp [empty])]
    exact act_unchanged s _ hs ((if_pos running).trans quiet)
  · obtain ⟨interval, triggered, stands, rep⟩ := State.scanTimerOver_spec { s with out := [] }
    rw [exec_scanTimerExpiry]
    refine act_exact hs (if_pos ((due_iff _).2 timer)) (by simp) ?_
    exact ⟨interval, triggered, stands, fun working waits => by rw [rep]; exact if_pos ⟨working, waits⟩, by rw [rep],
      by rw [rep], by rw [rep], by simp, by simp, by simp [SameBase], by simp [SameBus], by simp, by simp⟩
  · exact act_unchanged s _ hs (if_neg fun h => early ((due_iff _).1 h))

end Sys2Proof.Machine


/-!
# Writes in list order (R158, R162, R171, R175, R176)
-/

namespace Sys2Proof.Machine

/-! ## The work engine's writes -/

/-- The end of a write of the work engine, when it is the operation in progress (R162; log 9). -/
def State.engineWrote (s : State) : State :=
  match s.memHead with
  | some e => match e.op.engineWrite with
    | some (a, d) => s.popMem.emit [.hostWrite a d]
    | none => s
  | none => s

theorem exec_completionWriteDone (s : State) : exec .completionWriteDone s = act s State.engineWrote := rfl

theorem State.engineWrote_idle {s : State} (h : ∀ e, s.mm.ops.head? = some e → e.op.engineWrite = none) :
    s.engineWrote = s := by
  unfold State.engineWrote
  cases head : s.memHead with
  | none => rfl
  | some e =>
    dsimp only
    rw [h e head]

/-- A write of the work engine at the head of the list is carried out and leaves it (R162, R171). -/
theorem completionWriteDone_writes {s : State} {op : MemOp} {x : Bool} {a : Nat} {d : List Byte}
    (hs : s.hold = .released) (head : InProgress s op x) (write : op.engineWrite = some (a, d)) :
    exec .completionWriteDone s = .next { s with mm := ⟨s.mm.ops.tail, 0⟩, out := [.hostWrite a d] } := by
  have effect : State.engineWrote { s with out := [] } =
      { s with mm := ⟨s.mm.ops.tail, 0⟩, out := [.hostWrite a d] } := by
    unfold State.engineWrote
    rw [show State.memHead { s with out := [] } = _ from head]
    dsimp only
    rw [write]
    rfl
  rw [exec_completionWriteDone, act_same_regs hs (by rw [effect]), effect]

/-! ## The report engine's writes -/

/-- The end of a write of the report engine, when it is the operation in progress (R175, R176; log 9). -/
def State.reportWrote (s : State) : State :=
  match s.memHead with
  | some ⟨.reportBody a d, _⟩ => s.popMem.emit [.hostWrite a d]
  | some ⟨.reportFilled a b, _⟩ => (s.popMem.emit [.hostWrite a [b]]).reportDelivered
  | _ => s

theorem exec_reportWriteDone (s : State) : exec .reportWriteDone s = act s State.reportWrote := rfl

section
variable {s : State} {a : Nat} {x : Bool}

theorem State.reportWrote_body {d : List Byte} (head : InProgress s (.reportBody a d) x) :
    s.reportWrote = s.popMem.emit [.hostWrite a d] := by
  unfold State.reportWrote
  rw [show s.memHead = _ from head]

theorem State.reportWrote_filled {b : Byte} (head : InProgress s (.reportFilled a b) x) :
    s.reportWrote = (s.popMem.emit [.hostWrite a [b]]).reportDelivered := by
  unfold State.reportWrote
  rw [show s.memHead = _ from head]

theorem State.reportWrote_idle
    (h : ∀ a d b y, ¬ InProgress s (.reportBody a d) y ∧ ¬ InProgress s (.reportFilled a b) y) : s.reportWrote = s := by
  unfold State.reportWrote
  split
  · rename_i head
    exact absurd head (h _ _ 0 _).1
  · rename_i head
    exact absurd head (h _ [] _ _).2
  · rfl

end

/-- Settles O42: each row ends the write of its own at the head of the list; the FILLED write is followed by the report
engine's trigger. -/
theorem writesAreCarriedOutInOrder : Obligations.WritesAreCarriedOutInOrder := by
  intro a x s hs
  refine ⟨fun b head => ?_, fun d head => ?_, fun other => ?_, fun d head => ?_, fun b head => ?_, fun other => ?_⟩
  · rcases head with head | head | head <;> exact completionWriteDone_writes hs head rfl
  · rcases head with head | head <;> exact completionWriteDone_writes hs head rfl
  · exact act_idle hs (State.engineWrote_idle (s := { s with out := [] }) other)
  · have effect := State.reportWrote_body (s := { s with out := [] }) head
    rw [exec_reportWriteDone, act_same_regs hs (by rw [effect]; rfl), effect]
    rfl
  · refine act_exact hs (State.reportWrote_filled (s := { s with out := [] }) head) (State.triggerReport_regs _) ?_
    unfold State.reportDelivered
    rw [State.triggerReport_eq]
    exact ⟨rfl, rfl, rfl, rfl, rfl, rfl, rfl, ⟨rfl, rfl, rfl, rfl⟩, rfl, rfl⟩
  · exact act_idle hs (State.reportWrote_idle (s := { s with out := [] }) other)

end Sys2Proof.Machine


/-!
# The descriptor read of a scan (R154, R157 to R159, R163)
-/

namespace Sys2Proof.Machine

/-! ## The read and its return -/

/-- The end of a descriptor read, when it is the operation in progress. -/
def State.descDone (s : State) (d : Vector Byte 32) : State :=
  match s.memHead with
  | some ⟨.descRead _, abandoned⟩ => if abandoned then s.popMem else s.popMem.descReturned d.toList
  | _ => s

theorem exec_descriptorReadDone (d : Vector Byte 32) (s : State) :
    exec (.descriptorReadDone d) s = act s fun s => s.descDone d := rfl

section
variable {s : State} {d : Vector Byte 32} {a : Nat}

theorem State.descDone_idle (h : ∀ x y, ¬ InProgress s (.descRead x) y) : s.descDone d = s := by
  unfold State.descDone
  split
  · rename_i head
    exact absurd head (h _ _)
  · rfl

theorem State.descDone_abandoned (h : InProgress s (.descRead a) true) : s.descDone d = s.popMem := by
  unfold State.descDone
  rw [show s.memHead = _ from h]
  rfl

theorem State.descDone_returns (h : InProgress s (.descRead a) false) :
    s.descDone d = s.popMem.descReturned d.toList := by
  unfold State.descDone
  rw [show s.memHead = _ from h]
  rfl

end

/-- The end of a scan (R155, R157): a pending trigger starts another at the cursor. -/
theorem State.endScan_eq (s : State) (st : Stall) : s.endScan st = { s with
    we := { s.we with
      scan := if s.we.scanPending then .reading else .noScan
      stall := if s.we.scanPending then .noStall else st
      scanPending := false }
    mm := { s.mm with ops := s.mm.ops ++ if s.we.scanPending then [descReadAt s s.we.cursor] else [] } } := by
  unfold State.endScan
  by_cases pending : s.we.scanPending = true
  · simp only [pending, if_true]
    rfl
  · simp [pending]

/-! ## What a take needs (R157) -/

/-- What a take needs is read off the slots, the queue, the bus and the buffer reads alone. -/
theorem State.takeStall_congr {s t : State} (slots : t.we.slots = s.we.slots) (queue : t.arb.queue = s.arb.queue)
    (bus : t.bus = s.bus) (writes : t.pendingWrites = s.pendingWrites) (k : Option Kind) (r : Request) :
    t.takeStall k r = s.takeStall k r := by
  unfold State.takeStall State.heldIndex State.freeSlot
  rw [slots, queue, bus, writes]

/-- The end of a descriptor read ends no buffer read. -/
theorem pendingWrites_tail {l : List MemEntry} {a : Nat} {x : Bool} (head : l.head? = some ⟨.descRead a, x⟩) :
    l.tail.filterMap MemEntry.pendingWrite = l.filterMap MemEntry.pendingWrite := by
  cases l with
  | nil => cases head
  | cons e l =>
    obtain rfl : e = ⟨.descRead a, x⟩ := Option.some.inj head
    rfl

theorem State.takeStall_popMem {s : State} {a : Nat} {x : Bool} (head : InProgress s (.descRead a) x) (k : Option Kind)
    (r : Request) : s.popMem.takeStall k r = s.takeStall k r :=
  State.takeStall_congr (s := s) (t := s.popMem) rfl rfl rfl (pendingWrites_tail head) k r

/-- A code that is none of the twelve names no kind (R163). -/
theorem Kind.ofByte_none {b : Byte} (h : b = 0 ∨ 12 < b.toNat) : Kind.ofByte b = none := by
  unfold Kind.ofByte
  rw [List.find?_eq_none]
  intro k _ same
  obtain rfl : k.code = b := of_decide_eq_true same
  cases k <;> simp [Kind.code] at h

theorem Kind.ofByte_code (k : Kind) : Kind.ofByte k.code = some k := by
  cases k <;> rfl

/-! ## The return of a descriptor, by what it holds (R157) -/

section
variable {s : State} {d : List Byte} (running : s.we.st = .running) (reading : s.we.scan = .reading)
include running reading

theorem State.descReturned_notReady (owner : descOwner d ≠ 1) : s.descReturned d = s.endScan .noStall := by
  unfold State.descReturned
  rw [if_pos ⟨running, reading⟩]
  exact if_pos owner

theorem State.descReturned_stalls {st : Stall} (owner : descOwner d = 1)
    (needs : s.takeStall (Kind.ofByte (byteAt d 1)) (requestOf s.we.cursor d) = st) (missing : st ≠ .noStall) :
    s.descReturned d = s.endScan st := by
  unfold State.descReturned
  rw [if_pos ⟨running, reading⟩, if_neg (show ¬ descOwner d ≠ ownReady from not_not_intro owner)]
  subst needs
  exact if_neg missing

theorem State.descReturned_takes (owner : descOwner d = 1)
    (needs : s.takeStall (Kind.ofByte (byteAt d 1)) (requestOf s.we.cursor d) = .noStall) :
    s.descReturned d = s.take (Kind.ofByte (byteAt d 1)) (requestOf s.we.cursor d) := by
  unfold State.descReturned
  rw [if_pos ⟨running, reading⟩, if_neg (show ¬ descOwner d ≠ ownReady from not_not_intro owner)]
  exact if_pos needs

end

/-! ## A take (R158) -/

/-- TAKEN is written and the cursor moves on (R158, steps 1 and 2). -/
def State.taken (s : State) (iFlag : Bool) : State := { s with
  we := { s.we with cursor := (s.we.cursor + 1) % s.we.anchor.workCount }
  mm := { s.mm with ops := s.mm.ops ++
    [⟨.takenWrite (s.we.anchor.workBase + 32 * s.we.cursor) (if iFlag then 6 else 2), false⟩] } }

theorem takenByte_eq (iFlag : Bool) : takenByte iFlag = if iFlag then 6 else 2 := by
  cases iFlag <;> rfl

theorem State.take_known (s : State) (k : Kind) (r : Request) :
    s.take (some k) r = ((s.taken r.iFlag).startKind k r).scanAfterTake := by
  unfold State.take State.taken
  rw [takenByte_eq]
  rfl

theorem State.take_unknown (s : State) (r : Request) :
    s.take none r = ((s.taken r.iFlag).completeReq r [] .badKind 0).scanAfterTake := by
  unfold State.take State.taken
  rw [takenByte_eq]
  rfl

/-- The TAKEN write is no buffer read. -/
theorem State.taken_pendingWrites (s : State) (iFlag : Bool) : (s.taken iFlag).pendingWrites = s.pendingWrites := by
  simp [State.pendingWrites, State.taken, MemEntry.pendingWrite]

theorem State.startReadPending_iff (s : State) :
    s.startReadPending = true ↔ ∃ e ∈ s.mm.ops, e.op.isStartRead = true ∧ e.abandoned = false := by
  simp [State.startReadPending]

/-- After a take the scan waits for the start read, or reads the next descriptor (R158). -/
theorem State.scanAfterTake_eq (s : State) : s.scanAfterTake = { s with
    we := { s.we with scan := if s.startReadPending then .starting else .reading }
    mm := { s.mm with ops := s.mm.ops ++ if s.startReadPending then [] else [descReadAt s s.we.cursor] } } := by
  unfold State.scanAfterTake
  cases s.startReadPending
  · rfl
  · simp

/-- A completion's writes are no start reads. -/
theorem completionOps_startRead {s : State} {i : Nat} {b : Bool} {st : Status} {n : Nat} {e : MemEntry}
    (mem : e ∈ completionOps s i b [] st n) : e.op.isStartRead = false := by
  simp only [completionOps, List.nil_append, List.map_cons, List.map_nil, List.mem_cons, List.not_mem_nil, or_false]
    at mem
  rcases mem with rfl | rfl | rfl <;> rfl

/-- A taken request of no known kind completes with BAD_KIND, and with no start read left the scan goes on (R158,
R163). -/
theorem State.take_badKind {s : State} {r : Request} (index : r.index = s.we.cursor) (reading : s.we.scan = .reading)
    (started : ∀ e ∈ s.mm.ops, e.op.isStartRead = true → e.abandoned = true) :
    let u := s.taken r.iFlag
    let t := s.take .none r
    t.we = u.we ∧ t.mm.ops = u.mm.ops ++ completionOps s s.we.cursor r.iFlag [] .badKind 0 ++
      [descReadAt s u.we.cursor] ∧ WorkRaised s t r.iFlag ∧ t.ports = s.ports ∧ t.cache = s.cache ∧ t.rep = s.rep ∧
      SameBase s t ∧ SameBus s t ∧ t.out = s.out := by
  have done := (s.taken r.iFlag).completeReq_completed r [] .badKind 0
  have frame := (s.taken r.iFlag).completeReq_frame r [] .badKind 0
  have ports : ((s.taken r.iFlag).completeReq r [] .badKind 0).ports = s.ports := State.completeReq_ports _ _ _ _ _
  have lines : ((s.taken r.iFlag).completeReq r [] .badKind 0).out = s.out := State.completeReq_out _ _ _ _ _
  rw [State.take_unknown]
  dsimp only
  generalize (s.taken r.iFlag).completeReq r [] .badKind 0 = u at done frame ports lines
  obtain ⟨ops, work⟩ := done
  obtain ⟨base, cache, bus, engine, rep, -⟩ := frame
  rw [index] at ops
  have noRead : u.startReadPending = false := by
    rw [Bool.eq_false_iff, Ne, State.startReadPending_iff]
    rintro ⟨e, mem, start, stands⟩
    rw [ops, List.mem_append] at mem
    rcases mem with mem | mem
    · rcases List.mem_append.1 mem with mem | mem
      · rw [started e mem start] at stands; cases stands
      · rw [List.mem_singleton.1 mem] at start; cases start
    · rw [completionOps_startRead mem] at start; cases start
  rw [State.scanAfterTake_eq, noRead]
  refine ⟨?_, ?_, work, ports, cache, rep, base, bus, lines⟩
  · rw [engine]
    simp [State.taken, reading]
  · simp only [ops, engine, descReadAt]
    rfl

/-- What a taken request's row answers by itself, and what the take answers: the scan's next step is all that the take
adds (R158). -/
theorem act_take {s u : State} {k : Kind} {r : Request} {eff : State → State} (hs : s.hold = .released)
    (hold : u.hold = .released) (same : u.regs = s.regs)
    (effect : eff { s with out := [] } = (State.startKind { u with out := [] } k r).scanAfterTake) :
    ∃ v t, act u (fun s => s.startKind k r) = .next v ∧ act s eff = .next t ∧
      t = { v with we := { v.we with scan := t.we.scan }, mm := { v.mm with ops := t.mm.ops } } ∧
      t.we.scan = (if v.startReadPending then .starting else .reading) ∧
      t.mm.ops = v.mm.ops ++ if v.startReadPending then [] else [descReadAt v v.we.cursor] := by
  have message (w : State) : irqMessage s w = irqMessage u w := by
    unfold irqMessage State.irq
    rw [same]
  refine ⟨_, _, act_released u _ hold, act_released s eff hs, ?_⟩
  rw [effect, message]
  generalize State.startKind _ k r = v
  rw [State.scanAfterTake_eq]
  exact ⟨rfl, rfl, rfl⟩

/-- Settles O38: the read's return by what it finds: the end of the scan, a stall, a request of no known kind, or one of
the twelve, which its row carries out. -/
theorem theDescriptorReadTakesARequest : Obligations.TheDescriptorReadTakesARequest := by
  intro d a s hs r owner own stops cursor u
  rw [exec_descriptorReadDone]
  refine ⟨fun other => act_idle hs (State.descDone_idle (s := { s with out := [] }) other), fun head => ?_,
    fun head running reading => ?_⟩
  · have effect := State.descDone_abandoned (s := { s with out := [] }) (d := d) head
    rw [act_same_regs hs (by rw [effect]; rfl), effect]
    rfl
  · have returned := State.descDone_returns (s := { s with out := [] }) (d := d) head
    have needs := State.takeStall_popMem (s := { s with out := [] }) head
    have ended (st : Stall) (effect : State.descDone { s with out := [] } d =
        (State.popMem { s with out := [] }).endScan st) : act s (fun s => s.descDone d) = .next (stops st) := by
      rw [State.endScan_eq] at effect
      rw [act_same_regs hs (by rw [effect]; rfl), effect]
      rfl
    refine ⟨fun notReady => ended _ (returned.trans
        (State.descReturned_notReady (s := State.popMem { s with out := [] }) running reading notReady)),
      fun st ready stall missing => ended _ (returned.trans
        (State.descReturned_stalls (s := State.popMem { s with out := [] }) running reading ready
          ((needs _ _).trans stall) missing)),
      fun ready kind free noRead => ?_, fun k ready kind stall => ?_⟩
    · have unknown := Kind.ofByte_none kind
      have takes := State.descReturned_takes (s := State.popMem { s with out := [] }) running reading ready
        (by rw [unknown, needs]; exact if_neg (Bool.eq_false_iff.1 free))
      rw [unknown] at takes
      have outcome := State.take_badKind (s := State.popMem { s with out := [] }) (r := r) rfl reading noRead
      have effect : State.descDone { s with out := [] } d = State.take (State.popMem { s with out := [] }) .none r :=
        returned.trans takes
      generalize State.take (State.popMem { s with out := [] }) .none r = v at outcome effect
      obtain ⟨we, ops, work, ports, cache, rep, base, bus, lines⟩ := outcome
      obtain ⟨t, answer, ⟨we, ops, work, ports, cache, rep, base, bus⟩, message⟩ :=
        act_quiet (P := fun t => t.we = { s.we with cursor := cursor } ∧
          t.mm.ops = u.mm.ops ++ completionOps s s.we.cursor r.iFlag [] .badKind 0 ++ [descReadAt s cursor] ∧
          WorkRaised s t r.iFlag ∧ t.ports = s.ports ∧ t.cache = s.cache ∧ t.rep = s.rep ∧ SameBase s t ∧ SameBus s t)
          (fun s => s.descDone d) v hs effect lines fun o => ⟨we, ops, work, ports, cache, rep, base, bus⟩
      exact ⟨t, answer, we, ops, work, ports, cache, rep, base, bus, message⟩
    · have takes := State.descReturned_takes (s := State.popMem { s with out := [] }) running reading ready
        (by rw [kind, Kind.ofByte_code, needs]; exact stall)
      rw [kind, Kind.ofByte_code, State.take_known] at takes
      have can : CanTake u k r := by
        refine ⟨running, ?_⟩
        rw [← stall]
        exact State.takeStall_congr (s := s) (t := s.popMem.taken r.iFlag) rfl rfl rfl
          ((s.popMem.taken_pendingWrites r.iFlag).trans (pendingWrites_tail head)) _ _
      rw [exec_row, act_takeRequest can]
      obtain ⟨v, t, row, answer, frame, scan, list⟩ :=
        act_take (u := u) (k := k) (r := r) (eff := fun s => s.descDone d) hs hs rfl (returned.trans takes)
      refine ⟨v, t, row, answer, frame, fun waits => ?_, fun goesOn => ?_⟩
      · rw [scan, list, (State.startReadPending_iff v).2 waits]
        exact ⟨rfl, List.append_nil _⟩
      · rw [scan, list, Bool.eq_false_iff.2 fun h => goesOn ((State.startReadPending_iff v).1 h)]
        exact ⟨rfl, rfl⟩

end Sys2Proof.Machine


/-!
# PORT_QUERY and its snapshot (R162, R165, R188)
-/

namespace Sys2Proof.Machine

/-! ## Parts of a block -/

/-- The bytes of a part stand in a block from a place on. -/
def PartAt (b : List Byte) (i : Nat) (part : List Byte) : Prop := (b.drop i).take part.length = part

theorem partAt_append {a part rest : List Byte} {i : Nat} (place : a.length = i) :
    PartAt (a ++ (part ++ rest)) i part := by
  subst place
  simp [PartAt]

section
variable {b part : List Byte} {i : Nat} (h : PartAt b i part)
include h

theorem PartAt.byteAt_add {k : Nat} (hk : k < part.length) : byteAt b (i + k) = byteAt part k := by
  unfold byteAt
  have read : part[k]? = b[i + k]? := by
    rw [← congrArg (·[k]?) (show _ = part from h), List.getElem?_take_of_lt hk, List.getElem?_drop]
  rw [List.getD_eq_getElem?_getD, List.getD_eq_getElem?_getD, read]

theorem PartAt.leField_add {k n : Nat} (hk : k + n ≤ part.length) : leField b (i + k) n = leField part k n := by
  induction n generalizing k with
  | zero => rw [leField_zero, leField_zero]
  | succ n ih => rw [leField_succ, leField_succ, h.byteAt_add (by omega), Nat.add_assoc, ih (by omega)]

end

theorem byteAt_zeros (n k : Nat) : byteAt (zeros n) k = 0 := by
  unfold byteAt zeros
  rw [List.getD_eq_getElem?_getD, List.getElem?_replicate]
  split_ifs <;> rfl

/-- Reserved bytes read 0. -/
theorem PartAt.reserved {b : List Byte} {i n : Nat} (h : PartAt b i (zeros n)) {k : Nat} (low : i ≤ k)
    (high : k < i + n) : byteAt b k = 0 := by
  obtain ⟨j, rfl⟩ := Nat.exists_eq_add_of_le low
  rw [h.byteAt_add (by simp [zeros]; omega), byteAt_zeros]

/-! ## The parts of a snapshot -/

/-- Bytes 32 to 63 of a snapshot: ceilings, epoch, far end, usable lanes, reserved. -/
def planBytes (c : Port) (epoch : BitVec 16) : List Byte :=
  [BitVec.ofNat 8 c.gradeCeil, BitVec.ofNat 8 c.widthCeil] ++ toLE 2 epoch.toNat ++ farBytes c.far ++
    [c.usable.zeroExtend 8] ++ zeros 24

theorem moduleBytes_length (m : Option ModuleId) : (moduleBytes m).length = 21 := by
  cases m <;> simp [moduleBytes, zeros, toLE]

theorem planBytes_length (c : Port) (epoch : BitVec 16) : (planBytes c epoch).length = 32 := by
  unfold planBytes
  cases c.far <;> rfl

theorem lanePart_length (l : Lane) (stuck : Bool) : (lanePart l stuck).length = 16 := by
  unfold lanePart
  cases l.far <;> rfl

section
variable (c : Port) (stuck : Bool) (epoch : BitVec 16)

theorem snapshot_parts : ∃ head : List Byte, head.length = 11 ∧ snapshot c stuck epoch = head ++ (moduleBytes c.ident ++
    (planBytes c epoch ++ (lanePart (c.lane 0) stuck ++ (lanePart (c.lane 1) stuck ++ (lanePart (c.lane 2) stuck ++
      (lanePart (c.lane 3) stuck ++ [])))))) := by
  refine ⟨(snapshot c stuck epoch).take 11, rfl, ?_⟩
  simp [snapshot, planBytes, allLanes]

theorem snapshot_length : (snapshot c stuck epoch).length = 128 := by
  obtain ⟨head, len, parts⟩ := snapshot_parts c stuck epoch
  rw [parts]
  simp [len, moduleBytes_length, planBytes_length, lanePart_length]

theorem snapshot_module : PartAt (snapshot c stuck epoch) 11 (moduleBytes c.ident) := by
  obtain ⟨head, len, parts⟩ := snapshot_parts c stuck epoch
  rw [parts]
  exact partAt_append len

theorem snapshot_plan : PartAt (snapshot c stuck epoch) 32 (planBytes c epoch) := by
  obtain ⟨head, len, parts⟩ := snapshot_parts c stuck epoch
  rw [parts, ← List.append_assoc]
  exact partAt_append (by simp [len, moduleBytes_length])

theorem snapshot_lane (i : LaneNo) : PartAt (snapshot c stuck epoch) (64 + 16 * i.val) (lanePart (c.lane i) stuck) := by
  obtain ⟨head, len, parts⟩ := snapshot_parts c stuck epoch
  have before : (head ++ moduleBytes c.ident ++ planBytes c epoch).length = 64 := by
    simp [len, moduleBytes_length, planBytes_length]
  rw [parts, ← List.append_assoc, ← List.append_assoc]
  generalize head ++ moduleBytes c.ident ++ planBytes c epoch = a at before
  have next {a : List Byte} {n : Nat} (la : a.length = n) (j : LaneNo) :
      (a ++ lanePart (c.lane j) stuck).length = n + 16 := by
    rw [List.length_append, la, lanePart_length]
  match i with
  | 0 => exact partAt_append before
  | 1 => rw [← List.append_assoc]; exact partAt_append (next before 0)
  | 2 => rw [← List.append_assoc, ← List.append_assoc]; exact partAt_append (next (next before 0) 1)
  | 3 =>
    rw [← List.append_assoc, ← List.append_assoc, ← List.append_assoc]
    exact partAt_append (next (next (next before 0) 1) 2)

/-! ## The fields of each part -/

/-- The flags byte of a snapshot; the reserved bits are 0 (R188). -/
theorem snapshotFlags_bits (present known held : Bool) (plan : PlanStatus) :
    let b := flagBit present 0 ||| flagBit known 1 ||| (plan.code <<< 2) ||| flagBit held 4
    b.getLsbD 0 = present ∧ b.getLsbD 1 = known ∧ b.extractLsb' 2 2 = plan.code.extractLsb' 0 2 ∧
    b.getLsbD 4 = held ∧ b.extractLsb' 5 3 = 0 := by
  have code : plan.code ∈ [0, 1, 2] := by cases plan <;> simp [PlanStatus.code]
  generalize plan.code = code at *
  revert present known held
  fin_cases code <;> decide

/-- The flags byte of a lane part; the reserved bits are 0 (R188). -/
theorem laneFlags_bits (inverted found stuck : Bool) :
    let b := flagBit inverted 0 ||| flagBit found 1 ||| flagBit stuck 2
    b.getLsbD 0 = inverted ∧ b.getLsbD 1 = found ∧ b.getLsbD 2 = stuck ∧ b.extractLsb' 3 5 = 0 := by
  revert inverted found stuck
  decide

theorem gradeByte_toNat (g : Option Grade) : (gradeByte g).toNat = (g.map Grade.num).getD 0 := by
  rcases g with _ | g
  · rfl
  · cases g <;> rfl

/-- A field of two bytes that a value of 16 bits was written to. -/
theorem leField_word {b : List Byte} {i : Nat} {v : BitVec 16} (bytes : (b.drop i).take 2 = toLE 2 v.toNat) :
    leField b i 2 = v.toNat :=
  (leField_of_toLE bytes).trans (Nat.mod_eq_of_lt v.isLt)

theorem snapshot_noModule (absent : c.ident = none) (k : Nat) (low : 11 ≤ k) (high : k ≤ 31) :
    byteAt (snapshot c stuck epoch) k = 0 := by
  have part := snapshot_module c stuck epoch
  rw [absent] at part
  exact PartAt.reserved (n := 21) part low (by omega)

theorem moduleBytes_fields (m : ModuleId) : let b := moduleBytes (some m)
    byteAt b 0 = m.kind.code ∧ (byteAt b 1).toNat = m.lanes % 256 ∧ (byteAt b 2).toNat = m.maxGrade % 256 ∧
    leField b 3 2 = m.length.toNat ∧ (∀ k : Fin 4, byteAt b (5 + k.val) = m.maker[k]) ∧
    ∀ k : Fin 12, byteAt b (9 + k.val) = m.serial[k] := by
  have parts : moduleBytes (some m) = [m.kind.code, BitVec.ofNat 8 m.lanes, BitVec.ofNat 8 m.maxGrade] ++
      toLE 2 m.length.toNat ++ (m.maker.toList ++ (m.serial.toList ++ [])) := by simp [moduleBytes]
  have read {n : Nat} (v : Vector Byte n) (k : Fin n) : byteAt v.toList k.val = v[k] := by
    simp [byteAt]
  refine ⟨rfl, BitVec.toNat_ofNat _ _, BitVec.toNat_ofNat _ _, leField_word rfl, fun k => ?_, fun k => ?_⟩
  · rw [parts, PartAt.byteAt_add (i := 5) (partAt_append rfl) (by simp), read]
  · rw [parts, ← List.append_assoc, PartAt.byteAt_add (i := 9) (partAt_append (by simp [toLE])) (by simp), read]

/-- A far end as written, absent or not (R188). -/
theorem farBytes_fields (f : Option CableEnd) : leField (farBytes f) 0 2 = (f.map fun f => f.chassis.toNat).getD 0 ∧
    (byteAt (farBytes f) 2).toNat = (f.map fun f => f.port.toNat).getD 255 := by
  rcases f with _ | f
  · exact ⟨rfl, rfl⟩
  · refine ⟨leField_word rfl, ?_⟩
    show (f.port.zeroExtend 8).toNat = f.port.toNat
    bv_omega

theorem planBytes_fields : let b := planBytes c epoch
    (byteAt b 0).toNat = c.gradeCeil % 256 ∧ (byteAt b 1).toNat = c.widthCeil % 256 ∧ leField b 2 2 = epoch.toNat ∧
    PartAt b 4 (farBytes c.far) ∧ byteAt b 7 = c.usable.zeroExtend 8 ∧ PartAt b 8 (zeros 24) := by
  refine ⟨BitVec.toNat_ofNat _ _, BitVec.toNat_ofNat _ _, leField_word rfl, ?_⟩
  unfold planBytes
  cases c.far <;> exact ⟨rfl, rfl, rfl⟩

theorem lanePart_fields (l : Lane) : let b := lanePart l stuck
    byteAt b 0 = l.st.code ∧ (byteAt b 1).getLsbD 0 = decide (l.polarity = .inverted) ∧
    (byteAt b 1).getLsbD 1 = l.far.isSome ∧ (byteAt b 1).getLsbD 2 = stuck ∧ (byteAt b 1).extractLsb' 3 5 = 0 ∧
    PartAt b 2 (farBytes (l.far.map fun f => ⟨f.chassis, f.port⟩)) ∧
    (byteAt b 5).toNat = (l.far.map fun f => f.lane.toNat).getD 255 ∧
    leField b 6 2 = (l.far.map fun f => f.epoch.toNat).getD 0 ∧ leField b 8 2 = l.beaconErrs % 2 ^ 16 ∧
    leField b 10 4 = l.lineErrs % 2 ^ 32 ∧ leField b 14 2 = 0 := by
  obtain ⟨inverted, found, branch, reserved⟩ := laneFlags_bits (l.polarity = .inverted) l.far.isSome stuck
  refine ⟨rfl, inverted, found, branch, reserved, ?_⟩
  unfold lanePart
  rcases l.far with _ | f
  · exact ⟨rfl, rfl, rfl, leField_of_toLE (n := 2) rfl, leField_of_toLE (n := 4) rfl,
      leField_of_toLE (n := 2) (v := 0) rfl⟩
  · refine ⟨rfl, ?_, leField_word rfl, leField_of_toLE (n := 2) rfl, leField_of_toLE (n := 4) rfl,
      leField_of_toLE (n := 2) (v := 0) rfl⟩
    show (f.lane.zeroExtend 8).toNat = f.lane.toNat
    bv_omega

/-- A far end in a part of the snapshot. -/
theorem PartAt.far {b part : List Byte} {i k : Nat} {f : Option CableEnd} (h : PartAt b i part)
    (inner : PartAt part k (farBytes f)) (room : k + 3 ≤ part.length) :
    leField b (i + k) 2 = (f.map fun f => f.chassis.toNat).getD 0 ∧
    (byteAt b (i + k + 2)).toNat = (f.map fun f => f.port.toNat).getD 255 := by
  have len : (farBytes f).length = 3 := by cases f <;> rfl
  obtain ⟨chassis, port⟩ := farBytes_fields f
  refine ⟨?_, ?_⟩
  · rw [h.leField_add (by omega), ← Nat.add_zero k, inner.leField_add (by omega), chassis]
  · rw [Nat.add_assoc, h.byteAt_add (by omega), inner.byteAt_add (by omega), port]

theorem snapshot_laidOut : SnapshotLaidOut (snapshot c stuck epoch) c stuck epoch := by
  obtain ⟨present, known, plan, held, reserved⟩ := snapshotFlags_bits c.present c.ident.isSome c.holdOnDrop c.plan
  obtain ⟨grade, width, epochField, far, usable, unused⟩ := planBytes_fields c epoch
  have module := snapshot_module c stuck epoch
  have tail := snapshot_plan c stuck epoch
  have len := planBytes_length c epoch
  have at32 {k : Nat} (hk : k < 32) : byteAt (snapshot c stuck epoch) (32 + k) = byteAt (planBytes c epoch) k :=
    tail.byteAt_add (by omega)
  refine ⟨snapshot_length c stuck epoch, rfl, rfl, rfl, rfl, rfl, rfl, BitVec.toNat_ofNat _ _, BitVec.toNat_ofNat _ _,
    gradeByte_toNat c.agreed, BitVec.extractLsb'_append_eq_right, BitVec.extractLsb'_append_eq_left, present, known,
    plan, held, reserved, snapshot_noModule c stuck epoch, fun m known => ?_, ?_, ?_, ?_, tail.far far (by omega), ?_,
    fun k low high => ?_, fun i => ?_⟩
  · rw [known] at module
    have at11 {k : Nat} (hk : k < 21) : byteAt (snapshot c stuck epoch) (11 + k) = byteAt (moduleBytes (some m)) k :=
      module.byteAt_add (by rw [moduleBytes_length]; exact hk)
    obtain ⟨kind, lanes, grade, length, maker, serial⟩ := moduleBytes_fields m
    refine ⟨(at11 (k := 0) (by omega)).trans kind, (congrArg _ (at11 (k := 1) (by omega))).trans lanes,
      (congrArg _ (at11 (k := 2) (by omega))).trans grade,
      (module.leField_add (k := 3) (n := 2) (by rw [moduleBytes_length]; omega)).trans length, fun k => ?_, fun k => ?_⟩
    · exact (congrArg _ (Nat.add_assoc 11 5 _)).trans ((at11 (by omega)).trans (maker k))
    · exact (congrArg _ (Nat.add_assoc 11 9 _)).trans ((at11 (by omega)).trans (serial k))
  · exact (congrArg _ (at32 (k := 0) (by omega))).trans grade
  · exact (congrArg _ (at32 (k := 1) (by omega))).trans width
  · exact (tail.leField_add (k := 2) (n := 2) (by omega)).trans epochField
  · exact (at32 (k := 7) (by omega)).trans usable
  · obtain ⟨j, rfl⟩ := Nat.exists_eq_add_of_le (show 32 ≤ k by omega)
    rw [at32 (by omega)]
    exact unused.reserved (by omega) (by omega)
  · intro l k
    have part := snapshot_lane c stuck epoch i
    have len := lanePart_length l stuck
    have at64 {j : Nat} (hj : j < 16) : byteAt (snapshot c stuck epoch) (k + j) = byteAt (lanePart l stuck) j :=
      part.byteAt_add (len.symm ▸ hj)
    have field {j n : Nat} (hj : j + n ≤ 16) :
        leField (snapshot c stuck epoch) (k + j) n = leField (lanePart l stuck) j n :=
      part.leField_add (len.symm ▸ hj)
    obtain ⟨st, inverted, found, branch, reserved, far, lane, epochField, beacon, line, rest⟩ := lanePart_fields stuck l
    rw [at64 (j := 1) (by omega), at64 (j := 5) (by omega), field (j := 6) (by omega), field (j := 8) (by omega),
      field (j := 10) (by omega), field (j := 14) (by omega)]
    exact ⟨(at64 (j := 0) (by omega)).trans st, inverted, found, branch, reserved, part.far far (len.symm ▸ by omega), lane,
      epochField, beacon, line, rest⟩

end

/-! ## The request -/

theorem exec_portQuery (r : Request) (s : State) :
    exec (.portQuery r) s = act s fun s => s.takeRequest .portQuery r fun s => s.startQuery r := rfl

section
variable {s : State} {r : Request} {p : PortNo} (names : Names r p)
include names

theorem State.startQuery_short (short : r.bufLen.toNat < 128) : s.startQuery r = s.completeReq r [] .shortBuffer 0 := by
  unfold State.startQuery
  rw [State.onPort_of_names names]
  exact if_pos short

theorem State.startQuery_long (long : 128 ≤ r.bufLen.toNat) : s.startQuery r = s.completeReq r
    [.bufferWrite r.bufAddr.toNat (snapshot (s.port p) s.bus.stuck[p] s.cache.epoch)] .ok 128 := by
  unfold State.startQuery
  rw [State.onPort_of_names names]
  exact if_neg (Nat.not_lt.2 long)

end

/-- Settles O47: the layout part by part, and the request by the length of its buffer. -/
theorem queryWritesTheSnapshot : Obligations.QueryWritesTheSnapshot := by
  intro p r s hs take names snap
  refine ⟨snapshot_laidOut _ _ _, fun short => ?_, fun long => ?_⟩
  · rw [exec_portQuery, act_takeRequest take]
    obtain ⟨t, answer, ⟨ports, done, frame⟩, message⟩ := act_completeReq (fun s => s.startQuery r) s.ports hs
      (State.startQuery_short (s := { s with out := [] }) names short)
    exact ⟨t, answer, done, ports, frame, message⟩
  · rw [exec_portQuery, act_takeRequest take]
    obtain ⟨t, answer, ⟨ports, done, frame⟩, message⟩ := act_completeReq (fun s => s.startQuery r) s.ports hs
      (State.startQuery_long (s := { s with out := [] }) names long)
    exact ⟨t, answer, done, ports, frame, message⟩

end Sys2Proof.Machine


/-!
# PORT_AWAIT: its word, its slot and its completion (R161, R162, R167)
-/

namespace Sys2Proof.Machine

/-! ## Awaited states and the result word (Formats) -/

theorem PortState.settled_iff (st : PortState) :
    st.settled = true ↔ st = .active ∨ st = .held ∨ st = .empty ∨ st = .off := by
  cases st <;> simp [PortState.settled]

theorem PortState.unsettled_of {st : PortState} (h : ¬ (st = .active ∨ st = .held ∨ st = .empty ∨ st = .off)) :
    st.settled = false := by
  rw [← st.settled_iff, Bool.not_eq_true] at h
  exact h

theorem Port.awaitWord_eq (c : Port) : c.awaitWord = c.st.code.toNat + 256 * c.holdReason.code.toNat +
    65536 * c.verdict.code.toNat + 16777216 * c.attempt.toNat := by
  unfold Port.awaitWord
  simp only [leField_succ, leField_zero]
  simp only [byteAt, List.getD_cons_zero, List.getD_cons_succ]
  omega

/-- The word is read off four fields of the port. -/
theorem Port.awaitWord_congr {c d : Port} (st : c.st = d.st) (reason : c.holdReason = d.holdReason)
    (verdict : c.verdict = d.verdict) (attempt : c.attempt = d.attempt) : c.awaitWord = d.awaitWord := by
  unfold Port.awaitWord
  rw [st, reason, verdict, attempt]

/-! ## An await that has been answered -/

/-- The await that held slot k is complete: its slot is free, and its writes stand in the list. -/
def AwaitAnswered (k : Fin 16) (tag : JobTag) (st : Status) (result : Nat) (s t : State) : Prop :=
  t.we.slots[k] = none ∧ completionOps s tag.index tag.iFlag [] st result <:+: t.mm.ops

theorem completionOps_anchor {s t : State} (anchor : t.we.anchor = s.we.anchor) (i : Nat) (b : Bool) (bufs : List MemOp)
    (st : Status) (n : Nat) : completionOps t i b bufs st n = completionOps s i b bufs st n := by
  unfold completionOps
  rw [anchor]

theorem SharedFrame.anchor {s t : State} (h : SharedFrame s t) : t.we.anchor = s.we.anchor := by
  obtain ⟨-, -, -, -, ⟨-, -, -, -, anchor, -⟩, -⟩ := h
  exact anchor

theorem SharedFrame.list {s t : State} (h : SharedFrame s t) : s.mm.ops <+: t.mm.ops := by
  obtain ⟨-, -, -, -, -, list, -⟩ := h
  exact list

section
variable {k : Fin 16} {tag : JobTag} {st : Status} {n : Nat} {s t u : State}

/-- Nothing that follows takes the answer back. -/
theorem AwaitAnswered.later (h : AwaitAnswered k tag st n s t) (g : SharedFrame t u) :
    AwaitAnswered k tag st n s u := by
  obtain ⟨free, writes⟩ := h
  exact ⟨slot_free_later free g, writes.trans g.list.isInfix⟩

theorem AwaitAnswered.of_anchor (h : AwaitAnswered k tag st n u t) (anchor : u.we.anchor = s.we.anchor) :
    AwaitAnswered k tag st n s t := by
  obtain ⟨free, writes⟩ := h
  exact ⟨free, by rwa [completionOps_anchor anchor] at writes⟩

/-- A job in a slot that completes is answered (R161, R162). -/
theorem State.completeSlot_answers (s : State) (k : Fin 16) (j : Job) (st : Status) (n : Nat) :
    AwaitAnswered k j.tag st n s (s.completeSlot k j [] st n) := by
  obtain ⟨⟨more, ops, -⟩, free⟩ := s.completeSlot_completed k j [] st n
  exact ⟨free, ops ▸ ⟨s.mm.ops, more, rfl⟩⟩

end

/-! ## A port's entry into an awaited state (R167) -/

/-- The status that an entry into an awaited state gives. -/
def PortState.awaitStatus (st : PortState) : Status := if st = .off then .portDisabled else .ok

/-- One slot at a port's entry into an awaited state. -/
def State.answerSlot (p : PortNo) (s : State) (k : Fin 16) : State :=
  match s.we.slots[k] with
  | some j => match j.kind with
    | .await _ =>
      if j.port = p then s.completeSlot k j [] (s.port p).st.awaitStatus (s.port p).awaitWord else s
    | .laneTest => s
  | none => s

theorem State.finishAwaits_eq (s : State) (p : PortNo) : s.finishAwaits p = allSlots.foldl (State.answerSlot p) s := rfl

section
variable {s : State} {p q : PortNo} {j k : Fin 16} {tag : JobTag} {timer : Timer}

theorem State.answerSlot_own (slot : s.we.slots[k] = some ⟨tag, p, .await timer⟩) :
    s.answerSlot p k = s.completeSlot k ⟨tag, p, .await timer⟩ [] (s.port p).st.awaitStatus (s.port p).awaitWord := by
  unfold State.answerSlot
  rw [slot]
  exact if_pos rfl

theorem State.answerSlot_elsewhere (slot : s.we.slots[k] = some ⟨tag, q, .await timer⟩) (other : q ≠ p) :
    s.answerSlot p k = s := by
  unfold State.answerSlot
  rw [slot]
  exact if_neg other

/-- One slot's answer either leaves the state alone or completes that slot's job. -/
theorem State.answerSlot_cases (s : State) (p : PortNo) (k : Fin 16) :
    s.answerSlot p k = s ∨ ∃ x st n, s.answerSlot p k = s.completeSlot k x [] st n := by
  unfold State.answerSlot
  split
  · split
    · split_ifs
      · exact .inr ⟨_, _, _, rfl⟩
      · exact .inl rfl
    · exact .inl rfl
  · exact .inl rfl

@[simp] theorem State.answerSlot_ports (s : State) (p : PortNo) (k : Fin 16) : (s.answerSlot p k).ports = s.ports := by
  rcases s.answerSlot_cases p k with e | ⟨x, st, n, e⟩ <;> simp [e]

theorem SharedFrame.answerSlot (s : State) (p : PortNo) (k : Fin 16) : SharedFrame s (s.answerSlot p k) := by
  rcases s.answerSlot_cases p k with e | ⟨x, st, n, e⟩ <;> rw [e]
  · exact .refl s
  · exact .completeSlot _ _ _ _ _ _

theorem State.answerSlot_others (other : k ≠ j) : (s.answerSlot p j).we.slots[k] = s.we.slots[k] := by
  rcases s.answerSlot_cases p j with e | ⟨x, st, n, e⟩ <;> rw [e]
  rw [State.completeSlot_slots, slots_set_getElem, if_neg other]

/-- Of the slots looked at, the await's own answers it, and the others leave it alone. -/
theorem State.answerSlots_answer {c : Port} (l : List (Fin 16)) (port : s.port p = c) {base : State}
    (anchor : s.we.anchor = base.we.anchor)
    (h : AwaitAnswered k tag c.st.awaitStatus c.awaitWord base s ∨
      k ∈ l ∧ s.we.slots[k] = some ⟨tag, p, .await timer⟩) :
    AwaitAnswered k tag c.st.awaitStatus c.awaitWord base (l.foldl (State.answerSlot p) s) := by
  induction l generalizing s with
  | nil =>
    rcases h with answered | ⟨mem, -⟩
    · exact answered
    · cases mem
  | cons j l ih =>
    rw [List.foldl_cons]
    refine ih ((State.port_congr (State.answerSlot_ports _ _ _) p).trans port)
      ((SharedFrame.answerSlot s p j).anchor.trans anchor) ?_
    rcases h with answered | ⟨mem, slot⟩
    · exact .inl (answered.later (.answerSlot _ _ _))
    · by_cases own : k = j
      · subst own
        rw [State.answerSlot_own slot, port]
        exact .inl ((State.completeSlot_answers s k ⟨tag, p, .await timer⟩ _ _).of_anchor anchor)
      · exact .inr ⟨List.mem_of_ne_of_mem own mem, (State.answerSlot_others own).trans slot⟩

/-- An await of the port is answered with the port's status and word. -/
theorem State.finishAwaits_answers (slot : s.we.slots[k] = some ⟨tag, p, .await timer⟩) :
    AwaitAnswered k tag (s.port p).st.awaitStatus (s.port p).awaitWord s (s.finishAwaits p) := by
  rw [State.finishAwaits_eq]
  exact State.answerSlots_answer allSlots rfl rfl (.inr ⟨List.mem_finRange k, slot⟩)

/-- The awaits of other ports wait on. -/
theorem State.finishAwaits_elsewhere (slot : s.we.slots[k] = some ⟨tag, p, .await timer⟩) (other : p ≠ q) :
    (s.finishAwaits q).we.slots[k] = some ⟨tag, p, .await timer⟩ := by
  rw [State.finishAwaits_eq]
  induction allSlots generalizing s with
  | nil => exact slot
  | cons j l ih =>
    rw [List.foldl_cons]
    refine ih ?_
    by_cases own : k = j
    · subst own
      rw [State.answerSlot_elsewhere slot other]
      exact slot
    · exact (State.answerSlot_others own).trans slot

end

/-! ## What an event of a port makes of an await -/

/-- What an event of port p hands over before the work engine hears of its state: the results of an ended LANE_TEST and
the changes (R30, R128). -/
def State.handsOver (s : State) (p : PortNo) (c : Ctl) : State :=
  let s := (s.setPort p c.port).emit c.out
  let s := match c.ended with
    | none => s
    | some e => s.finishLaneTest p e
  if c.kinds = 0 then s else s.handOver p c.kinds

theorem State.settle_steps (s : State) (p : PortNo) (c : Ctl) : s.settle p c =
    if c.port.st.settled ∧ c.port.st ≠ (s.port p).st then (s.handsOver p c).finishAwaits p else s.handsOver p c := rfl

/-- The slot of a port's LANE_TEST holds no await. -/
theorem State.laneTestSlot_kind {s : State} {p : PortNo} {k : Fin 16} {j : Job} (h : s.laneTestSlot p = some (k, j)) :
    s.we.slots[k] = some j ∧ j.kind = .laneTest := by
  obtain ⟨k', -, holds⟩ := List.exists_of_findSome?_eq_some h
  split at holds
  · split_ifs at holds with mine
    cases holds
    exact ⟨by assumption, mine.2⟩
  · cases holds

section
variable {s : State} {p q : PortNo} {k : Fin 16} {tag : JobTag} {timer : Timer} {c : Ctl}

theorem State.finishLaneTest_keepsAwait (e : TestEnd) (slot : s.we.slots[k] = some ⟨tag, p, .await timer⟩) :
    (s.finishLaneTest q e).we.slots[k] = some ⟨tag, p, .await timer⟩ := by
  unfold State.finishLaneTest
  split
  · exact slot
  · rename_i k' j found
    obtain ⟨held, kind⟩ := State.laneTestSlot_kind found
    rw [State.completeSlot_slots, slots_set_getElem, if_neg]
    · exact slot
    · rintro rfl
      rw [← Option.some_inj.1 (slot.symm.trans held)] at kind
      cases kind

theorem State.handsOver_keepsAwait (slot : s.we.slots[k] = some ⟨tag, p, .await timer⟩) :
    (s.handsOver q c).we.slots[k] = some ⟨tag, p, .await timer⟩ := by
  unfold State.handsOver
  cases c.ended with
  | none => dsimp only; split_ifs <;> simpa using slot
  | some e =>
    have kept := State.finishLaneTest_keepsAwait (s := (s.setPort q c.port).emit c.out) (q := q) e slot
    dsimp only
    split_ifs <;> simpa using kept

theorem State.handsOver_port (s : State) (p : PortNo) (c : Ctl) : (s.handsOver p c).port p = c.port := by
  unfold State.handsOver
  cases c.ended <;> dsimp only <;> split_ifs <;> simp [State.port, State.setPort]

theorem SharedFrame.handsOver (s : State) (p : PortNo) (c : Ctl) : SharedFrame s (s.handsOver p c) := by
  have base : SharedFrame s ((s.setPort p c.port).emit c.out) := (SharedFrame.setPort _ _ _).trans (.emit _ _)
  unfold State.handsOver
  cases c.ended with
  | none => exact base.trans (.ite (.refl _) (.handOver _ _ _))
  | some e => exact (base.trans (.finishLaneTest _ _ _)).trans (.ite (.refl _) (.handOver _ _ _))

/-- An await waits on through an event of another port, and of its own port in no awaited state. -/
theorem State.settle_keepsAwait (slot : s.we.slots[k] = some ⟨tag, p, .await timer⟩)
    (waits : q = p → c.port.st.settled = false) : (s.settle q c).we.slots[k] = some ⟨tag, p, .await timer⟩ := by
  rw [State.settle_steps]
  split_ifs with enters
  · refine State.finishAwaits_elsewhere (State.handsOver_keepsAwait slot) fun own => ?_
    rw [waits own.symm] at enters
    exact Bool.noConfusion enters.1
  · exact State.handsOver_keepsAwait slot

/-- An entry into an awaited state answers the port's awaits (R167). -/
theorem State.settle_answers (slot : s.we.slots[k] = some ⟨tag, p, .await timer⟩)
    (before : (s.port p).st.settled = false) (after : c.port.st.settled = true) :
    AwaitAnswered k tag c.port.st.awaitStatus c.port.awaitWord s (s.settle p c) := by
  have enters : c.port.st.settled = true ∧ c.port.st ≠ (s.port p).st :=
    ⟨after, fun same => by rw [same, before] at after; cases after⟩
  rw [State.settle_steps, if_pos enters]
  have answered := State.finishAwaits_answers (State.handsOver_keepsAwait (q := p) (c := c) slot)
  rw [State.handsOver_port] at answered
  exact answered.of_anchor (SharedFrame.handsOver s p c).anchor

end

section
variable {s : State} {p q : PortNo} {k : Fin 16} {tag : JobTag} {timer : Timer} {f : Env → Ctl → Ctl}

/-- An event of one port is handed over; what follows an entry into ACTIVE is the same port's lock lost (R36). -/
theorem State.runPort_cases (s : State) (q : PortNo) (f : Env → Ctl → Ctl) : s.runPort q f = s.settle q (s.ctl q f) ∨
    (s.ctl q f).port.st = .active ∧
      s.runPort q f = allLanes.foldl (State.lockLostAt (s.port q).unlockedSet q) (s.settle q (s.ctl q f)) := by
  by_cases after : (s.ctl q f).port.st = .active
  · by_cases before : (s.port q).st = .active
    · exact .inl (State.runPort_of_active s q f before)
    · exact .inr ⟨after, State.runPort_activates s q f before after⟩
  · exact .inl (State.runPort_of_not_active s q f after)

/-- An await waits on through any event of another port. -/
theorem State.runPort_keepsAwait (slot : s.we.slots[k] = some ⟨tag, p, .await timer⟩) (other : q ≠ p) :
    (s.runPort q f).we.slots[k] = some ⟨tag, p, .await timer⟩ := by
  have handed := State.settle_keepsAwait (c := s.ctl q f) slot fun own => absurd own other
  rcases s.runPort_cases q f with e | ⟨-, e⟩ <;> rw [e]
  · exact handed
  · generalize s.settle q _ = t at handed
    induction allLanes generalizing t with
    | nil => exact handed
    | cons i l ih =>
      refine ih _ ?_
      unfold State.lockLostAt
      split_ifs
      · exact State.settle_keepsAwait handed fun own => absurd own other
      · exact handed

/-- An event that takes the port into an awaited state answers its awaits, with the port as it enters (R167). -/
theorem State.runPort_answers (slot : s.we.slots[k] = some ⟨tag, p, .await timer⟩)
    (before : (s.port p).st.settled = false) (after : (s.ctl p f).port.st.settled = true) :
    AwaitAnswered k tag (s.ctl p f).port.st.awaitStatus (s.ctl p f).port.awaitWord s (s.runPort p f) := by
  have answered := State.settle_answers (c := s.ctl p f) slot before after
  rcases s.runPort_cases p f with e | ⟨-, e⟩ <;> rw [e]
  · exact answered
  · refine answered.later (SharedFrame.foldl _ (fun t i => ?_) _ _)
    exact .ite (.settle _ _ _) (.refl _)

end

end Sys2Proof.Machine


/-!
# What keeps a port short of ACTIVE

A port short of ACTIVE has its module and is in bring-up or held. Every event of an attempt but the COMMIT burst sent
and a COMMIT word keeps it there, so that HELD is the one awaited state it can enter.
-/

namespace Sys2Proof.Machine

/-- The states from IDENTIFY to CONFIRM, and HELD. -/
def Port.ShortOfActive (c : Port) : Prop := c.st ≠ .active ∧ c.st ≠ .off ∧ c.st ≠ .empty

theorem Port.ShortOfActive.of_st {c d : Port} (h : c.ShortOfActive) (st : d.st = c.st) : d.ShortOfActive := by
  unfold Port.ShortOfActive at *
  rw [st]
  exact h

/-- A port that waits is short of ACTIVE. -/
theorem Port.ShortOfActive.of_unsettled {c : Port} (h : c.st.settled = false) : c.ShortOfActive := by
  refine ⟨fun st => ?_, fun st => ?_, fun st => ?_⟩ <;> (rw [st] at h; cases h)

/-- A port short of ACTIVE that is in an awaited state is in HELD. -/
theorem Port.ShortOfActive.held {c : Port} (h : c.ShortOfActive) (settled : c.st.settled = true) : c.st = .held := by
  obtain ⟨active, off, empty⟩ := h
  rcases (PortState.settled_iff _).1 settled with st | st | st | st
  · exact absurd st active
  · exact st
  · exact absurd st empty
  · exact absurd st off

/-! ## The operations that leave the state alone -/

theorem Ctl.commandAll_st (self : PortNo) (f : LaneNo → LaneCmd) (c : Ctl) :
    (c.commandAll self f).port.st = c.port.st := by
  rw [Ctl.commandAll_port]
  rfl

theorem Ctl.command_st (self : PortNo) (i : LaneNo) (cmd : LaneCmd) (c : Ctl) :
    (c.command self i cmd).port.st = c.port.st := by
  rw [Ctl.command_port]
  rfl

theorem Ctl.goTo_st (st : PortState) (c : Ctl) : (c.goTo st).port.st = st := by rw [Ctl.goTo_port]

theorem Port.closeFailed_st (c : Port) (G : LaneSet) : (c.closeFailed G).st = c.st := by
  unfold Port.closeFailed
  split <;> rfl

theorem Port.examine_st (env : Env) (a g : Byte) (S : LaneSet) (c : Port) : (c.examine env a g S).st = c.st := by
  unfold Port.examine
  dsimp only
  split
  · split_ifs <;> rfl
  · rfl

theorem Ctl.decideFailed_st (env : Env) (G : LaneSet) (c : Ctl) : (c.decideFailed env G).port.st = c.port.st := by
  have closed : ({ c.port with good := G }.closeFailed G).st = c.port.st := Port.closeFailed_st _ G
  unfold Ctl.decideFailed
  dsimp only [Ctl.mod_port]
  split_ifs <;> exact closed

theorem Ctl.decide_st (env : Env) (F : LaneSet) (c : Ctl) : (c.decide env F).port.st = c.port.st := by
  unfold Ctl.decide
  dsimp only
  split_ifs
  · rfl
  · exact c.decideFailed_st env _

theorem Ctl.endLaneTest_st (st : Status) (f : PortTest → LaneNo → TestRecord → LaneVerdict) (c : Ctl) :
    (c.endLaneTest st f).port.st = c.port.st := by
  obtain ⟨lanes, test, dwell, timer, port⟩ := Ctl.endLaneTest_port st f c
  rw [port]

theorem Port.loseRunning_st (i : LaneNo) (c : Port) : (c.loseRunning i).st = c.st := by
  unfold Port.loseRunning
  split <;> rfl

/-! ## The entries -/

namespace Ctl

variable (env : Env)

theorem enterHeld_short (self : PortNo) (why : HoldReason) (c : Ctl) : (c.enterHeld self why).port.ShortOfActive := by
  obtain ⟨st, -⟩ := c.enterHeld_is self why
  unfold Port.ShortOfActive
  rw [st]
  decide

theorem enterSignal_short (c : Ctl) : (c.enterSignal env).port.ShortOfActive := by
  obtain ⟨st, -⟩ := c.enterSignal_is env
  unfold Port.ShortOfActive
  rw [st]
  decide

theorem enterTrain_short (c : Ctl) : (c.enterTrain env).port.ShortOfActive := by
  unfold Port.ShortOfActive
  rw [Ctl.enterTrain_st]
  decide

/-- A change of state to one short of ACTIVE. -/
theorem goTo_short {st : PortState} (short : st ≠ .active ∧ st ≠ .off ∧ st ≠ .empty) (c : Ctl) :
    (c.goTo st).port.ShortOfActive := by
  unfold Port.ShortOfActive
  rw [Ctl.goTo_st]
  exact short

theorem returnToSignal_short (c : Ctl) : (c.returnToSignal env).port.ShortOfActive :=
  (c.goTo_short (st := .signal) (by decide)).of_st rfl

theorem enterWait_short (c : Ctl) : (c.enterWait env).port.ShortOfActive :=
  (c.goTo_short (st := .signal) (by decide)).of_st rfl

theorem enterDark_short (c : Ctl) : c.enterDark.port.ShortOfActive :=
  (c.goTo_short (st := .dark) (by decide)).of_st rfl

theorem enterQualify_short (c : Ctl) : (c.enterQualify env).port.ShortOfActive := by
  refine (c.goTo_short (st := .qualify) (by decide)).of_st ?_
  unfold Ctl.enterQualify
  dsimp only [Ctl.mod_port]
  split <;> rfl

theorem enterConfirm_short (c : Ctl) : (c.enterConfirm env).port.ShortOfActive := by
  have entry : ((c.goTo .confirm).mod fun p =>
      { p.setPhase .result .noReason with
        good := p.ownGood, phaseTimer := some env.cfg.phaseWait }).port.ShortOfActive :=
    (c.goTo_short (st := .confirm) (by decide)).of_st rfl
  unfold Ctl.enterConfirm
  dsimp only
  split
  · split
    · exact entry.of_st (Ctl.decide_st env _ _)
    · exact entry
  · exact entry.of_st (Ctl.decide_st env _ _)
  · exact entry
  · exact entry

theorem enterAgreeLead_short (c : Ctl) : (c.enterAgreeLead env).port.ShortOfActive := by
  have opened : (c.openAgree env).port.ShortOfActive := by
    refine (c.goTo_short (st := .agree) (by decide)).of_st ?_
    simp [Ctl.openAgree, Ctl.commandAll_st]
  rw [Ctl.enterAgreeLead_steps]
  generalize c.openAgree env = d at opened
  dsimp only
  split
  · exact Ctl.enterHeld_short _ _ _
  · split
    · exact Ctl.enterHeld_short _ _ _
    · split
      · exact Ctl.enterHeld_short _ _ _
      · split
        · exact Ctl.enterTrain_short env _
        · refine opened.of_st ?_
          simp [Port.propose, Port.choose, Port.spendAttempt, Port.setPhase]

theorem enterAgreeFollow_short (c : Ctl) : (c.enterAgreeFollow env).port.ShortOfActive := by
  refine (c.goTo_short (st := .agree) (by decide)).of_st ?_
  unfold Ctl.enterAgreeFollow
  dsimp only [Ctl.mod_port]
  split
  · rw [Port.examine_st]
    simp [Port.setPhase, Ctl.commandAll_st]
  · simp [Port.setPhase, Ctl.commandAll_st]

theorem goOn_short (c : Ctl) : (c.goOn env).port.ShortOfActive := Ctl.enterSignal_short env _

/-! ## The events -/

variable {c : Ctl} (h : c.port.ShortOfActive)
include h

theorem enterAgree_short : (c.enterAgree env).port.ShortOfActive := by
  unfold Ctl.enterAgree
  split
  · exact c.enterAgreeLead_short env
  · exact c.enterAgreeLead_short env
  · exact c.enterAgreeFollow_short env
  · exact h

omit h in
theorem attemptFailed_short (c : Ctl) : (c.attemptFailed env).port.ShortOfActive := by
  unfold Ctl.attemptFailed
  split
  · exact Ctl.enterAgreeLead_short env _
  · exact Ctl.enterAgreeLead_short env _
  · exact c.enterSignal_short env
  · exact c.enterSignal_short env

theorem checkTrain_short : (c.checkTrain env).port.ShortOfActive := by
  unfold Ctl.checkTrain
  split_ifs
  · exact c.enterQualify_short env
  · exact h

theorem leadHears_short (r : NegRecord) (b : BeaconPart) : (c.leadHears env r b).port.ShortOfActive := by
  unfold Ctl.leadHears
  split_ifs
  · exact c.enterHeld_short _ _
  · exact h.of_st rfl
  · exact h
  · exact c.enterHeld_short _ _
  · exact h

theorem followHears_short (r : NegRecord) (b : BeaconPart) : (c.followHears env r b).port.ShortOfActive := by
  unfold Ctl.followHears
  split_ifs
  · exact c.enterHeld_short _ _
  · exact h
  · exact h.of_st (Port.examine_st env _ _ _ _)
  · exact c.enterTrain_short env
  · exact h

theorem agreeHears_short (r : NegRecord) : (c.agreeHears env r).port.ShortOfActive := by
  unfold Ctl.agreeHears
  split
  · exact h
  · split_ifs
    · split
      · exact leadHears_short env h r _
      · exact followHears_short env h r _
      · exact h
      · exact h
    · exact h

/-- A word that is no COMMIT (R105 to R108). -/
theorem wordHears_short {r : NegRecord} (phase : r.phase ≠ .commit) : (c.wordHears env r).port.ShortOfActive := by
  unfold Ctl.wordHears
  split
  · split
    · exact c.enterHeld_short _ _
    · exact c.enterHeld_short _ _
    · exact Ctl.enterAgreeFollow_short env _
    · rename_i commit
      exact absurd commit phase
    · split_ifs
      · exact h.of_st (c.decide_st env _)
      · exact h
    · split_ifs
      · exact h.of_st rfl
      · exact h
    · split_ifs
      · exact h.of_st rfl
      · exact h
    · exact h
  · exact h

/-- The end of a burst that is no COMMIT (R98, R101, R106). -/
theorem burstDone_short (phase : c.port.phase ≠ .commit) : (c.burstDone env).port.ShortOfActive := by
  unfold Ctl.burstDone
  split
  · exact c.enterTrain_short env
  · exact c.enterHeld_short _ _
  · rename_i commit
    exact absurd commit phase
  · exact c.enterAgreeLead_short env
  · exact c.enterHeld_short _ _
  · exact h

theorem phaseWaitOver_short : (c.phaseWaitOver env).port.ShortOfActive := by
  have closing : (match c.port.phase with
      | .retry => c.enterAgreeLead env
      | .heldWord => c.enterHeld env.self c.port.phaseReason
      | _ => c.decideFailed env 0).port.ShortOfActive := by
    split
    · exact c.enterAgreeLead_short env
    · exact c.enterHeld_short _ _
    · exact h.of_st (c.decideFailed_st env 0)
  unfold Ctl.phaseWaitOver
  split
  · split_ifs
    · exact c.enterHeld_short _ _
    · exact c.enterSignal_short env
  · exact c.enterAgreeLead_short env
  · exact c.enterAgreeLead_short env
  · exact c.enterAgreeFollow_short env
  · exact closing
  · exact closing
  · exact h

omit h in
theorem trainOver_short (c : Ctl) : (c.trainOver env).port.ShortOfActive := by
  unfold Ctl.trainOver
  dsimp only
  split_ifs
  · exact Ctl.enterQualify_short env _
  · exact Ctl.attemptFailed_short env _

omit h in
theorem bringUpOver_short (c : Ctl) : (c.bringUpOver env).port.ShortOfActive := Ctl.enterConfirm_short env _

theorem lockLossInAttempt_short : (c.lockLossInAttempt env).port.ShortOfActive := by
  unfold Ctl.lockLossInAttempt
  split
  · split_ifs with closing
    · obtain ⟨-, -, phase⟩ := closing
      refine burstDone_short env h fun commit => ?_
      rw [commit] at phase
      rcases phase with phase | phase <;> cases phase
    · exact c.attemptFailed_short env
  · split
    · exact checkTrain_short env h
    · split_ifs
      · exact c.bringUpOver_short env
      · exact h
    · exact h

theorem proceed_short (waiting : Bool) (v : Verdict) : (c.proceed env waiting v).port.ShortOfActive := by
  unfold Ctl.proceed
  split_ifs
  · refine enterAgree_short env ?_
    exact h.of_st rfl
  · exact enterAgree_short env h
  · exact c.enterWait_short env
  · exact h
  · exact h
  · exact h.of_st rfl
  · exact c.enterHeld_short _ _

theorem verify_short (vs : LaneSet) : (c.verify env vs).port.ShortOfActive := by
  unfold Ctl.verify
  split
  · exact h
  · refine proceed_short env ?_ _ _
    exact h.of_st rfl

theorem arrival_short (mark : ArrivalMark) (r : NegRecord) : (c.arrival env mark r).port.ShortOfActive := by
  unfold Ctl.arrival
  split
  · unfold Ctl.waitHears Ctl.signalHears
    split_ifs
    · exact c.enterHeld_short _ _
    · exact h
    · exact verify_short env h _
    · exact c.enterHeld_short _ _
    · exact verify_short env h _
    · exact h
  · unfold Ctl.darkHears
    dsimp only
    split_ifs
    · exact verify_short env (c.returnToSignal_short env) _
    · exact c.returnToSignal_short env
    · exact h
  · exact agreeHears_short env h r
  · unfold Ctl.heldHears
    split_ifs
    · exact h
    · exact verify_short env h _
    · exact c.enterSignal_short env
    · exact h
  all_goals exact h

theorem windowOver_short : (c.windowOver env).port.ShortOfActive := by
  unfold Ctl.windowOver
  dsimp only
  split
  · exact c.enterDark_short
  · split_ifs
    · exact verify_short env h _
    · exact Ctl.enterHeld_short _ _ _

theorem drop_short (i : LaneNo) : (c.drop env i).port.ShortOfActive := by
  rw [Ctl.drop_idle _ _ _ fun on => h.1 on.1]
  exact h

theorem loseLock_short (i : LaneNo) : (c.loseLock i env).port.ShortOfActive := by
  have failed : ((c.mod fun p => p.loseRunning i).command env.self i .failed).port.ShortOfActive := by
    refine h.of_st ?_
    rw [Ctl.command_st, Ctl.mod_port, Port.loseRunning_st]
  unfold Ctl.loseLock
  dsimp only
  split_ifs
  · exact lockLossInAttempt_short env failed
  · exact failed

theorem hearBeacon_short (i : LaneNo) (id : Ident) (r : NegRecord) : (c.hearBeacon i id r env).port.ShortOfActive := by
  unfold Ctl.hearBeacon
  dsimp only
  split_ifs
  · refine arrival_short env ?_ _ r
    exact h.of_st rfl
  · exact h.of_st rfl

theorem hearWord_short (i : LaneNo) {r : NegRecord} (phase : r.phase ≠ .commit) :
    (c.hearWord i r env).port.ShortOfActive :=
  wordHears_short env (c := c.mod _) (h.of_st rfl) phase

theorem laneFailed_short (t : PortTest) : (c.laneFailed t env).port.ShortOfActive := by
  unfold Ctl.laneFailed
  split
  · split_ifs
    · exact c.bringUpOver_short env
    · exact h
  · split_ifs
    · exact Ctl.enterHeld_short _ _ _
    · exact h.of_st (c.endLaneTest_st _ _)
    · exact h

theorem countErrors_short (i : LaneNo) (n : Nat) : (c.countErrors i n env).port.ShortOfActive := by
  unfold Ctl.countErrors Ctl.addToTest
  dsimp only
  split
  · split_ifs
    · refine laneFailed_short env ?_ _
      exact h.of_st rfl
    · exact h.of_st rfl
  · exact h.of_st rfl

theorem endBurst_short (phase : c.port.phase ≠ .commit) : (c.endBurst env).port.ShortOfActive :=
  burstDone_short env (c := c.mod _) (h.of_st rfl) phase

end Ctl

end Sys2Proof.Machine


/-!
# What a command makes of a PORT_AWAIT (R13, R14, R61, R138, R167)
-/

namespace Sys2Proof.Machine

/-! ## The await and its port -/

/-- Since `s` the await in slot k has waited on with its port, or the port has entered HELD and the await is answered
with OK and the port's word. -/
structure AwaitFollows (p : PortNo) (k : Fin 16) (tag : JobTag) (timer : Timer) (s t : State) : Prop where
  anchor : t.we.anchor = s.we.anchor
  outcome : t.we.slots[k] = some ⟨tag, p, .await timer⟩ ∧ (t.port p).st.settled = false ∨
    (t.port p).st = .held ∧ AwaitAnswered k tag .ok (t.port p).awaitWord s t

namespace AwaitFollows

variable {p q : PortNo} {k : Fin 16} {tag : JobTag} {timer : Timer} {s t u : State}

theorem start (slot : s.we.slots[k] = some ⟨tag, p, .await timer⟩) (waits : (s.port p).st.settled = false) :
    AwaitFollows p k tag timer s s := ⟨rfl, .inl ⟨slot, waits⟩⟩

/-- While the port is in no awaited state the await waits on. -/
theorem slot (h : AwaitFollows p k tag timer s t) (waits : (t.port p).st.settled = false) :
    t.we.slots[k] = some ⟨tag, p, .await timer⟩ := by
  rcases h.outcome with ⟨slot, -⟩ | ⟨held, -⟩
  · exact slot
  · rw [held] at waits; cases waits

theorem answered (h : AwaitFollows p k tag timer s t) (held : (t.port p).st = .held) :
    AwaitAnswered k tag .ok (t.port p).awaitWord s t := by
  rcases h.outcome with ⟨-, waits⟩ | ⟨-, answered⟩
  · rw [held] at waits; cases waits
  · exact answered

/-! ### Changes in which the port and the slots take no part -/

theorem elsewhere (h : AwaitFollows p k tag timer s t) (port : u.port p = t.port p) (anchor : u.we.anchor = t.we.anchor)
    (slots : u.we.slots = t.we.slots) (list : t.mm.ops <+: u.mm.ops) : AwaitFollows p k tag timer s u := by
  refine ⟨anchor.trans h.anchor, ?_⟩
  rw [port, slots]
  refine h.outcome.imp id fun ⟨held, free, writes⟩ => ⟨held, ?_, writes.trans list.isInfix⟩
  rw [slots]
  exact free

/-- A change to the port that leaves its state, while it is in no awaited state. -/
theorem setPort (h : AwaitFollows p k tag timer s t) {c : Port} (waits : (t.port q).st.settled = false)
    (st : c.st = (t.port q).st) : AwaitFollows p k tag timer s (t.setPort q c) := by
  by_cases own : q = p
  · subst own
    exact ⟨h.anchor, .inl ⟨h.slot waits, by rw [State.port_setPort, st]; exact waits⟩⟩
  · exact h.elsewhere (State.port_setPort_of_ne _ _ _ _ fun e => own e.symm) rfl rfl List.prefix_rfl

/-- One event of one port; at the await's own port one that keeps it short of ACTIVE. -/
theorem runPort (h : AwaitFollows p k tag timer s t) {f : Env → Ctl → Ctl}
    (waits : q = p → (t.port p).st.settled = false) (short : q = p → (t.ctl p f).port.ShortOfActive) :
    AwaitFollows p k tag timer s (t.runPort q f) := by
  obtain ⟨others, shared⟩ := t.runPort_frame q f
  refine ⟨shared.anchor.trans h.anchor, ?_⟩
  by_cases own : q = p
  · subst own
    have slot := h.slot (waits rfl)
    have port := State.runPort_port t q f (short rfl).1
    rw [port]
    by_cases settled : (t.ctl q f).port.st.settled = true
    · have held := (short rfl).held settled
      have answer := State.runPort_answers slot (waits rfl) settled
      rw [held] at answer
      exact .inr ⟨held, answer.of_anchor h.anchor⟩
    · have goesOn := Bool.eq_false_iff.2 settled
      rw [State.runPort_of_not_active t q f (short rfl).1]
      exact .inl ⟨State.settle_keepsAwait slot fun _ => goesOn, goesOn⟩
  · rw [others p fun e => own e.symm]
    exact h.outcome.imp (fun ⟨slot, waits⟩ => ⟨State.runPort_keepsAwait slot own, waits⟩)
      fun ⟨held, answered⟩ => ⟨held, answered.later shared⟩

/-! ### PLANNING (R14) -/

section
variable (waits : q = p → (t.port p).st.settled = false)
include waits

theorem holdPort (h : AwaitFollows p k tag timer s t) (why : HoldReason) :
    AwaitFollows p k tag timer s (t.holdPort q why) :=
  h.runPort waits fun _ => Ctl.enterHeld_short _ _ _

theorem unplannedPort (h : AwaitFollows p k tag timer s t) : AwaitFollows p k tag timer s (t.unplannedPort q) := by
  refine h.runPort waits fun _ => ?_
  unfold State.ctl
  dsimp only
  split_ifs
  · exact Ctl.goOn_short _ _
  · exact Ctl.enterHeld_short _ _ _

theorem givePlan (h : AwaitFollows p k tag timer s t) (entry : List Byte) :
    AwaitFollows p k tag timer s (t.givePlan q entry) := by
  unfold State.givePlan
  split_ifs
  · exact h.runPort waits fun _ => Ctl.goOn_short _ _
  · exact h.unplannedPort waits

theorem lookup (h : AwaitFollows p k tag timer s t) : AwaitFollows p k tag timer s (t.lookup q) := by
  have pending : AwaitFollows p k tag timer s (t.setFillPending q true) := h.elsewhere rfl rfl rfl List.prefix_rfl
  unfold State.lookup
  split
  · split
    · exact h.unplannedPort waits
    · split
      · rename_i e _
        exact givePlan (t := { t with cache := t.cache.touch e }) waits (h.elsewhere rfl rfl rfl List.prefix_rfl) _
      · dsimp only
        split
        · exact pending.elsewhere rfl rfl rfl (List.prefix_append _ _)
        · exact pending
  · exact h.holdPort waits _

/-- A fill that returns (R61). -/
theorem fillReturned (h : AwaitFollows p k tag timer s t) (g : BitVec 32) (entry : Vector Byte 16) :
    AwaitFollows p k tag timer s (t.fillReturned q g entry) := by
  have taken : AwaitFollows p k tag timer s (t.setFillPending q false) := h.elsewhere rfl rfl rfl List.prefix_rfl
  have placed : AwaitFollows p k tag timer s ((t.setFillPending q false).placePlan q entry) :=
    taken.elsewhere rfl rfl rfl List.prefix_rfl
  unfold State.fillReturned
  split
  · split
    · exact h.elsewhere rfl rfl rfl (List.prefix_append _ _)
    · dsimp only
      split
      · exact givePlan (t := (t.setFillPending q false).placePlan q entry) waits placed _
      · exact unplannedPort (t := t.setFillPending q false) waits taken
  · exact h

end

/-! ### Outcomes at the module bus (R13, R138, R146, R168) -/

/-- The outcome of an identity read acts on its port in IDENTIFY alone. -/
theorem identityOutcome (h : AwaitFollows p k tag timer s t) (q : PortNo) (o : BusOutcome) :
    AwaitFollows p k tag timer s (t.identityOutcome q o) := by
  unfold State.identityOutcome
  split_ifs with reading
  · have waits : (t.port q).st.settled = false := by rw [reading.1]; rfl
    have own : q = p → (t.port p).st.settled = false := fun e => e ▸ waits
    split
    · exact h.holdPort own _
    · exact h.holdPort own _
    · refine lookup (fun e => ?_) (h.setPort waits rfl)
      subst e
      rw [State.port_setPort]
      exact waits
  · exact h.holdPort (fun e => by rw [← e, reading.1]; rfl) _
  · exact h

/-- The outcome of a job completes it outside the slots. -/
theorem jobOutcome (h : AwaitFollows p k tag timer s t) (job : JobTag) (x : Transfer) (o : BusOutcome) :
    AwaitFollows p k tag timer s (t.jobOutcome job x o) := by
  have shared : SharedFrame t (t.jobOutcome job x o) := by
    unfold State.jobOutcome
    exact (SharedFrame.complete _ _ _ _ _ _).trans (.meetStall _ _)
  refine h.elsewhere (State.port_congr (State.jobOutcome_ports _ _ _ _) p) shared.anchor ?_ shared.list
  unfold State.jobOutcome
  simp

theorem deliver (h : AwaitFollows p k tag timer s t) (r : Requester) (q : PortNo) (x : Transfer) (o : BusOutcome) :
    AwaitFollows p k tag timer s (t.deliver r q x o) := by
  cases r with
  | port => exact h.identityOutcome q o
  | job tag => exact h.jobOutcome tag x o

theorem takeGrant (h : AwaitFollows p k tag timer s t) (g : Grant) : AwaitFollows p k tag timer s (t.takeGrant g) := by
  cases g with
  | port q => exact h.elsewhere rfl rfl rfl List.prefix_rfl
  | job j =>
    have shared := SharedFrame.meetStall { t with arb := t.arb.granted (.job j) } (fun st => st = Stall.place)
    refine h.elsewhere ?_ shared.anchor (State.meetStall_slots _ _) shared.list
    exact State.port_congr (State.meetStall_ports _ _) p

theorem grant (h : AwaitFollows p k tag timer s t) (g : Grant) : AwaitFollows p k tag timer s (t.grant g) := by
  have taken := h.takeGrant g
  have atOnce (x : Txn) (st : Status) : AwaitFollows p k tag timer s ((t.takeGrant g).endAtOnce x st) :=
    deliver (taken.elsewhere (u := (t.takeGrant g).emit [.busStop]) rfl rfl rfl List.prefix_rfl) _ _ _ _
  rw [State.grant_steps]
  dsimp only
  split_ifs
  · exact atOnce _ _
  · exact atOnce _ _
  · exact taken.elsewhere rfl rfl rfl List.prefix_rfl

theorem grantLoop (n : Nat) (h : AwaitFollows p k tag timer s t) :
    AwaitFollows p k tag timer s (State.grantLoop n t) := by
  induction n generalizing t with
  | zero => exact h
  | succ n ih =>
    unfold State.grantLoop
    split_ifs
    · split
      · exact h
      · exact ih (h.grant _)
    · exact h

theorem grants (h : AwaitFollows p k tag timer s t) : AwaitFollows p k tag timer s t.grants := h.grantLoop 37

theorem endTxn (h : AwaitFollows p k tag timer s t) (x : Txn) (st : Status) (data : List Byte) :
    AwaitFollows p k tag timer s (t.endTxn x st data) := by
  unfold State.endTxn State.txnOutcome
  refine grants ?_
  have released : AwaitFollows p k tag timer s
      { t with bus := { t.bus with st := .idle, current := none, selected := none, watchdog := none } } :=
    h.elsewhere rfl rfl rfl List.prefix_rfl
  split
  · exact released
  · split
    · exact released.deliver _ _ _ _
    · split
      · exact released.deliver _ _ _ _
      · exact released.deliver _ _ _ _

end AwaitFollows

/-! ## The rows that can take a port to HELD -/

section
variable {p : PortNo} {k : Fin 16} {tag : JobTag} {timer : Timer} {s : State}
variable (start : AwaitFollows p k tag timer s s) (waits : (s.port p).st.settled = false)
include start waits

/-- An event of the await's own port that keeps it short of ACTIVE. -/
theorem AwaitFollows.ownEvent {f : Env → Ctl → Ctl}
    (short : ∀ env c, c.port.ShortOfActive → (f env c).port.ShortOfActive) :
    AwaitFollows p k tag timer s (s.runPort p f) :=
  start.runPort (fun _ => waits) fun _ => short _ (Ctl.start (s.port p)) (.of_unsettled waits)

theorem AwaitFollows.settleOver : AwaitFollows p k tag timer s (s.settleOver p) := by
  have reads : AwaitFollows p k tag timer s (s.setPort p (s.port p).reads) := start.setPort waits rfl
  unfold State.settleOver
  split_ifs
  · exact AwaitFollows.grants (reads.elsewhere rfl rfl rfl List.prefix_rfl)
  · exact start

theorem AwaitFollows.takeBeacon (i : LaneNo) (b : List Byte) : AwaitFollows p k tag timer s (s.takeBeacon p i b) := by
  have hunts : AwaitFollows p k tag timer s (s.setPort p ((s.port p).hunts i)) := start.setPort waits rfl
  have still : ((s.setPort p ((s.port p).hunts i)).port p).st.settled = false := by
    rw [State.port_setPort]
    exact waits
  unfold State.takeBeacon
  dsimp only
  split
  · split
    · exact hunts.runPort (fun _ => still) fun _ =>
        Ctl.hearBeacon_short _ (c := Ctl.start _) (.of_unsettled still) _ _ _
    · exact hunts
    · exact hunts
  · exact hunts.setPort still rfl

/-- A word that is no COMMIT. -/
theorem AwaitFollows.takeWord (i : LaneNo) {b : List Byte} (phase : byteAt b 0 ≠ 0x13) :
    AwaitFollows p k tag timer s (s.takeWord p i b) := by
  unfold State.takeWord
  dsimp only
  split
  · split
    · exact start
    · rename_i ph word
      have other : ph ≠ .commit := by
        rintro rfl
        have code := List.find?_some word
        exact phase (of_decide_eq_true code).symm
      split_ifs
      · exact start.ownEvent waits fun env c h => Ctl.hearWord_short env h i other
      · exact start
  · exact start.setPort waits rfl

omit waits in
theorem AwaitFollows.addressNacked : AwaitFollows p k tag timer s s.addressNacked := by
  have lines : AwaitFollows p k tag timer s (s.emit [.busStop]) := start.elsewhere rfl rfl rfl List.prefix_rfl
  unfold State.addressNacked
  split
  · exact start
  · dsimp only
    split_ifs
    · exact lines.elsewhere rfl rfl rfl List.prefix_rfl
    · exact lines.endTxn _ _ _

omit waits in
theorem AwaitFollows.byteNacked (n : Nat) : AwaitFollows p k tag timer s (s.byteNacked n) := by
  have lines : AwaitFollows p k tag timer s (s.emit [.busStop]) := start.elsewhere rfl rfl rfl List.prefix_rfl
  unfold State.byteNacked
  split
  · exact start
  · exact lines.endTxn _ _ _

omit waits in
theorem AwaitFollows.tryCompleted (data : List Byte) : AwaitFollows p k tag timer s (s.tryCompleted data) := by
  unfold State.tryCompleted
  split
  · exact start
  · split
    · exact start.endTxn _ _ _
    · exact start

omit waits in
theorem AwaitFollows.recovered (high : Bool) : AwaitFollows p k tag timer s (s.recovered high) := by
  have stuck (x : Txn) : AwaitFollows p k tag timer s (s.setStuck x) :=
    start.elsewhere (State.port_congr (State.setStuck_ports s x) p) (by simp) (by simp) (by simp)
  unfold State.recovered
  split
  · exact start
  · split_ifs
    · exact start.endTxn _ _ _
    · exact (stuck _).endTxn _ _ _

end

end Sys2Proof.Machine


/-!
# PORT_AWAIT, AWAIT_TIMEOUT and the rows that answer an await (R161, R162, R167)
-/

namespace Sys2Proof.Machine

/-! ## PORT_AWAIT (R161, R167) -/

theorem exec_portAwait (r : Request) (s : State) :
    exec (.portAwait r) s = act s fun s => s.takeRequest .portAwait r fun s => s.startAwait r := rfl

section
variable {s : State} {r : Request} {p : PortNo} (names : Names r p)
include names

theorem State.startAwait_settled (settled : (s.port p).st.settled = true) :
    s.startAwait r = s.completeReq r [] .ok (s.port p).awaitWord := by
  unfold State.startAwait
  rw [State.onPort_of_names names]
  exact if_pos settled

theorem State.startAwait_waits {k : Fin 16} (waits : (s.port p).st.settled = false) (free : s.freeSlot = some k) :
    s.startAwait r = { s with we := { s.we with slots := s.we.slots.set k (some
      ⟨⟨r.index, r.iFlag, r.bufAddr⟩, p, .await (if r.argA = 0 then none else some r.argA.toNat)⟩) } } := by
  unfold State.startAwait
  rw [State.onPort_of_names names, if_neg (by rw [waits]; decide)]
  exact State.occupy_of_free _ free

end

/-! ## AWAIT_TIMEOUT (R167) -/

/-- An await's timeout, when it is due. -/
def State.awaitOver (s : State) (k : Fin 16) : State :=
  match s.we.slots[k] with
  | none => s
  | some j => if j.kind = .await (some 0) then s.completeSlot k j [] .timedOut (s.port j.port).awaitWord else s

theorem exec_awaitTimeout (k : Fin 16) (s : State) : exec (.awaitTimeout k) s = act s fun s => s.awaitOver k := rfl

section
variable {s : State} {k : Fin 16}

theorem State.awaitOver_due {tag : JobTag} {p : PortNo} (slot : s.we.slots[k] = some ⟨tag, p, .await (some 0)⟩) :
    s.awaitOver k = s.completeSlot k ⟨tag, p, .await (some 0)⟩ [] .timedOut (s.port p).awaitWord := by
  unfold State.awaitOver
  rw [slot]
  exact if_pos rfl

theorem State.awaitOver_idle (none : ∀ tag q, s.we.slots[k] ≠ some ⟨tag, q, .await (some 0)⟩) : s.awaitOver k = s := by
  unfold State.awaitOver
  cases slot : s.we.slots[k] with
  | none => rfl
  | some j =>
    refine if_neg fun due => none j.tag j.port ?_
    rw [slot, ← due]

end

/-! ## The entries of a port (R167) -/

/-- The word of a port that enters ACTIVE. -/
theorem Ctl.enterActive_awaitWord (env : Env) (c : Ctl) : (c.enterActive env).port.awaitWord =
    ({ c.port with st := .active, holdReason := .noReason } : Port).awaitWord := by
  refine Port.awaitWord_congr ?_ ?_ ?_ ?_ <;>
    simp [Ctl.enterActive, Ctl.commandAll_port, Port.mapLanes, Ctl.goTo_port, Port.closeTest]

section
variable {s : State} {p : PortNo} {k : Fin 16} {tag : JobTag} {timer : Timer}
variable (slot : s.we.slots[k] = some ⟨tag, p, .await timer⟩) (waits : (s.port p).st.settled = false)
include slot waits

/-- An entry into ACTIVE answers the port's awaits with OK and its word there, also when lock lost follows (R36). -/
theorem State.runPort_answersActive {f : Env → Ctl → Ctl} {x : Ctl} (ctl : s.ctl p f = x.enterActive (s.env p))
    (verdict : x.port.verdict = (s.port p).verdict) (attempt : x.port.attempt = (s.port p).attempt) :
    AwaitAnswered k tag .ok ({ s.port p with st := .active, holdReason := .noReason } : Port).awaitWord s
      (s.runPort p f) := by
  obtain ⟨active, -⟩ := x.enterActive_is (s.env p)
  rw [← ctl] at active
  have answer := State.runPort_answers slot waits (f := f) (by rw [active]; rfl)
  have word : (s.ctl p f).port.awaitWord =
      ({ s.port p with st := .active, holdReason := .noReason } : Port).awaitWord := by
    rw [ctl, Ctl.enterActive_awaitWord]
    exact Port.awaitWord_congr rfl rfl verdict attempt
  rwa [word, active] at answer

/-- An entry into EMPTY or OFF answers the port's awaits with the port as it is then. -/
theorem State.runPort_answersLeft {f : Env → Ctl → Ctl} {st : PortState} (enters : (s.ctl p f).port.st = st)
    (left : st = .empty ∨ st = .off) :
    AwaitAnswered k tag st.awaitStatus ((s.runPort p f).port p).awaitWord s (s.runPort p f) := by
  have settled : st.settled = true := by rcases left with rfl | rfl <;> rfl
  have inactive : (s.ctl p f).port.st ≠ .active := by
    rw [enters]
    rcases left with rfl | rfl <;> decide
  have answer := State.runPort_answers slot waits (f := f) (by rw [enters]; exact settled)
  rw [State.runPort_port s p f inactive]
  rwa [enters] at answer

/-- Presence lost takes a port that waits to EMPTY (R10). -/
theorem State.presenceLost_answers :
    AwaitAnswered k tag .ok ((s.presenceLost p).port p).awaitWord s (s.presenceLost p) := by
  have off : (s.port p).st ≠ .off := fun st => by rw [st] at waits; cases waits
  have empty : (s.port p).st ≠ .empty := fun st => by rw [st] at waits; cases waits
  have steps : s.presenceLost p = ((s.clearStuck p).leaveBus p Txn.losesPresence).runPort p Ctl.loseModule :=
    if_neg (not_or.2 ⟨off, empty⟩)
  obtain ⟨enters, -⟩ := Ctl.loseModule_is (s.env p) (s.port p)
  rw [steps]
  exact (State.runPort_answersLeft (s := (s.clearStuck p).leaveBus p Txn.losesPresence) (f := Ctl.loseModule) slot waits
    enters (.inl rfl)).of_anchor rfl

/-- PORT_DISABLE takes a port that waits to OFF (R8). -/
theorem State.startDisable_answers {r : Request} (names : Names r p) :
    AwaitAnswered k tag .portDisabled ((s.startDisable r).port p).awaitWord s (s.startDisable r) := by
  have off : (s.port p).st ≠ .off := fun st => by rw [st] at waits; cases waits
  obtain ⟨enters, -⟩ := Ctl.disable_is (s.env p) (s.port p)
  have answer := (State.runPort_answersLeft (s := s.leftByRequest p) (f := Ctl.disable) slot waits enters
    (.inr rfl)).of_anchor (s := s) rfl
  rw [State.startDisable, State.onPort_of_names names, State.disablePort_on off,
    State.port_congr (State.completeReq_ports _ _ _ _ _)]
  exact answer.later (.completeReq _ _ _ _ _)

/-- The COMMIT burst sent (R106). -/
theorem State.endBurst_answers (st : (s.port p).st = .confirm) (phase : (s.port p).phase = .commit) :
    AwaitAnswered k tag .ok ({ s.port p with st := .active, holdReason := .noReason } : Port).awaitWord s
      (s.runPort p Ctl.endBurst) :=
  State.runPort_answersActive slot waits (x := Ctl.start (s.port p).quitBurst) (Ctl.burstDone_commit st phase) rfl rfl

/-- A COMMIT word at a follower in CONFIRM (R108). -/
theorem State.hearWord_answers {i : LaneNo} {r : NegRecord} (acts : (s.port p).ActsOnWord r)
    (st : (s.port p).st = .confirm) (role : (s.port p).role = .follow) (phase : r.phase = .commit) :
    AwaitAnswered k tag .ok ({ s.port p with st := .active, holdReason := .noReason } : Port).awaitWord s
      (s.runPort p (Ctl.hearWord i r)) := by
  have ctl : s.ctl p (Ctl.hearWord i r) =
      (Ctl.start (((s.port p).withRecord i r).recordWordMask r.good)).enterActive (s.env p) :=
    Ctl.wordHears_commit acts role phase st
  rw [Port.recordWordMask_confirm (show ((s.port p).withRecord i r).st = .confirm from st)] at ctl
  exact State.runPort_answersActive slot waits ctl rfl rfl

end

/-! ## From the rows' effects to their answers -/

section
variable {p : PortNo} {k : Fin 16} {tag : JobTag} {timer : Timer} {s : State}

theorem AwaitFollows.onlyIf {P : Prop} [Decidable P] {t : State} (start : AwaitFollows p k tag timer s s)
    (h : P → AwaitFollows p k tag timer s t) : AwaitFollows p k tag timer s (if P then t else s) := by
  split_ifs with taken
  · exact h taken
  · exact start

/-- A fill that ends leaves the list first. -/
theorem AwaitFollows.fillDone (slot : s.we.slots[k] = some ⟨tag, p, .await timer⟩)
    (waits : (s.port p).st.settled = false) (e : Vector Byte 16) : AwaitFollows p k tag timer s (s.fillDone e) := by
  have popped : AwaitFollows p k tag timer s s.popMem := ⟨rfl, .inl ⟨slot, waits⟩⟩
  unfold State.fillDone
  split
  · exact AwaitFollows.fillReturned (t := s.popMem) (fun _ => waits) popped _ _
  · exact .start slot waits

/-- A row that takes the port to no other awaited state than HELD. -/
theorem act_followsAwait {eff : State → State} (hs : s.hold = .released)
    (follows : AwaitFollows p k tag timer { s with out := [] } (eff { s with out := [] })) :
    ∃ t, act s eff = .next t ∧ ((t.port p).st = .held → AwaitAnswered k tag .ok (t.port p).awaitWord s t) :=
  act_effect hs rfl (fun _ _ h => h) fun held => follows.answered held

end

/-- The rows that can take port p to HELD while it waits. -/
def HoldRow (p : PortNo) (c : Port) (cmd : Instr) : Prop :=
  cmd ∈ [.settleExpiry p, .signalWindowExpiry p, .phaseWaitExpiry p, .trainTimeout p, .addressNack] ∨
  (cmd = .burstSent p ∧ c.phase ≠ .commit) ∨ (∃ i, cmd = .lockLost p i) ∨ (∃ i b, cmd = .beaconFrame p i b) ∨
  (∃ i b, cmd = .trainingWord p i b ∧ byteAt b.toList 0 ≠ 0x13) ∨ (∃ i n, cmd = .lineErrorIncrement p i n) ∨
  (∃ n, cmd = .byteNack n) ∨ (∃ b, cmd = .tryComplete b) ∨ (∃ h, cmd = .recoveryEnd h) ∨ ∃ e, cmd = .fillComplete e

/-- Each of them answers the await when the port has entered HELD. -/
theorem followsAwait_row {p : PortNo} {k : Fin 16} {tag : JobTag} {timer : Timer} {s : State} {cmd : Instr}
    (hs : s.hold = .released) (slot : s.we.slots[k] = some ⟨tag, p, .await timer⟩)
    (waits : (s.port p).st.settled = false) (row : HoldRow p (s.port p) cmd) :
    ∃ t, exec cmd s = .next t ∧ ((t.port p).st = .held → AwaitAnswered k tag .ok (t.port p).awaitWord s t) := by
  have start : AwaitFollows p k tag timer { s with out := [] } { s with out := [] } := .start slot waits
  have own {f : Env → Ctl → Ctl} (short : ∀ env c, c.port.ShortOfActive → (f env c).port.ShortOfActive) :=
    start.ownEvent waits short
  rcases row with timers | ⟨rfl, phase⟩ | ⟨i, rfl⟩ | ⟨i, b, rfl⟩ | ⟨i, b, rfl, phase⟩ | ⟨i, n, rfl⟩ | ⟨n, rfl⟩ |
    ⟨b, rfl⟩ | ⟨high, rfl⟩ | ⟨e, rfl⟩
  · simp only [List.mem_cons, List.not_mem_nil, or_false] at timers
    rcases timers with rfl | rfl | rfl | rfl | rfl
    · rw [exec_settleExpiry]
      exact act_followsAwait hs (start.settleOver waits)
    · rw [exec_signalWindowExpiry]
      exact act_followsAwait hs (start.onlyIf fun _ => own fun env c h => Ctl.windowOver_short env (h.of_st rfl))
    · rw [exec_phaseWaitExpiry]
      exact act_followsAwait hs (start.onlyIf fun _ => own fun env c h => Ctl.phaseWaitOver_short env (h.of_st rfl))
    · rw [exec_trainTimeout]
      exact act_followsAwait hs (start.onlyIf fun _ => own fun env c _ => Ctl.trainOver_short env _)
    · rw [exec_addressNack]
      exact act_followsAwait hs start.addressNacked
  · rw [exec_burstSent]
    refine act_followsAwait hs (start.onlyIf fun _ => start.runPort (fun _ => waits) fun _ => ?_)
    exact Ctl.endBurst_short _ (c := Ctl.start _) (.of_unsettled waits) phase
  · rw [exec_lockLost]
    refine act_followsAwait (timer := timer) hs ?_
    split
    · exact own fun env c h => Ctl.loseLock_short env h i
    · exact own fun env c h => Ctl.drop_short env h i
    all_goals exact start
  · rw [exec_beaconFrame]
    exact act_followsAwait hs (start.onlyIf fun _ => start.takeBeacon waits i b.toList)
  · rw [exec_trainingWord]
    exact act_followsAwait hs (start.onlyIf fun _ => start.takeWord waits i phase)
  · rw [exec_lineErrorIncrement]
    exact act_followsAwait hs (own fun env c h => Ctl.countErrors_short env h i n)
  · rw [exec_byteNack]
    exact act_followsAwait hs (start.byteNacked n)
  · rw [exec_tryComplete]
    exact act_followsAwait hs (start.tryCompleted b)
  · rw [exec_recoveryEnd]
    exact act_followsAwait hs (start.recovered high)
  · rw [exec_fillComplete]
    exact act_followsAwait hs (AwaitFollows.fillDone (s := { s with out := [] }) slot waits e)

/-- Settles O50: a PORT_AWAIT by its port's state, its timeout, and the port's entries into the awaited states. -/
theorem awaitsAreAnsweredByStateOrTimeout : Obligations.AwaitsAreAnsweredByStateOrTimeout := by
  intro p s hs word settled
  have word_eq : word = Port.awaitWord := funext fun c => c.awaitWord_eq.symm
  clear_value word
  subst word_eq
  refine ⟨fun r take names at_once => ?_, fun r take names waits => ?_, fun k tag slot => ?_, fun k idle => ?_,
    fun k tag timer slot waits => ?_⟩
  · obtain ⟨t, answer, ⟨ports, done, frame⟩, message⟩ := act_completeReq (fun s => s.startAwait r) s.ports hs
      (State.startAwait_settled (s := { s with out := [] }) names ((PortState.settled_iff _).2 at_once))
    rw [exec_portAwait, act_takeRequest take]
    exact ⟨t, answer, done, ports, frame, message⟩
  · obtain ⟨k, free⟩ := take.freeSlot rfl names
    obtain ⟨empty, lowest⟩ := State.freeSlot_lowest free
    have effect := State.startAwait_waits (s := { s with out := [] }) names (PortState.unsettled_of waits) free
    refine ⟨k, empty, lowest, ?_⟩
    rw [exec_portAwait, act_takeRequest take, act_same_regs hs (by rw [effect]), effect]
  · have effect := State.awaitOver_due (s := { s with out := [] }) slot
    have done := State.completeSlot_completed { s with out := [] } k ⟨tag, p, .await (some 0)⟩ [] .timedOut
      (s.port p).awaitWord
    rw [exec_awaitTimeout]
    exact act_effect hs effect (fun _ _ h => h) ⟨done.1, State.completeSlot_slots _ _ _ _ _ _,
      State.completeSlot_ports _ _ _ _ _ _, State.completeSlot_rep _ _ _ _ _ _,
      SharedFrame.completeSlot { s with out := [] } k ⟨tag, p, .await (some 0)⟩ [] .timedOut (s.port p).awaitWord⟩
  · rw [exec_awaitTimeout]
    exact act_idle hs (State.awaitOver_idle (s := { s with out := [] }) idle)
  · intro c ended active
    have unsettled := PortState.unsettled_of waits
    refine ⟨fun present => ?_, fun r take names => ?_, fun burst st phase => ?_,
      fun i w b locked check commit far beacon sender attempt st role => ?_, fun cmd row => ?_⟩
    · have lost :
          (if (s.port p).present then State.presenceLost { s with out := [] } p else { s with out := [] }) = _ :=
        if_pos present
      rw [exec_presenceLost]
      exact act_effect hs lost (fun _ _ h => h) (State.presenceLost_answers (s := { s with out := [] }) slot unsettled)
    · rw [exec_portDisable, act_takeRequest take]
      exact act_effect hs rfl (fun _ _ h => h)
        (State.startDisable_answers (s := { s with out := [] }) slot unsettled names)
    · rw [exec_burstSent]
      exact act_effect hs (if_pos burst) (fun _ _ h => h)
        (State.endBurst_answers (s := { s with out := [] }) slot unsettled st phase)
    · have taken := State.takeWord_taken (s := { s with out := [] }) (p := p) (i := i) (ph := .commit) check
        (by rw [commit]; decide) (((s.port p).lane i).fromFarLane_iff w.toList |>.2 far)
      have acts : (s.port p).ActsOnWord (((s.port p).lane i).wordRecord .commit w.toList) :=
        ⟨.inr (.inr st), (Port.hears_iff _ _).2 ⟨b, beacon, sender⟩, attempt⟩
      rw [exec_trainingWord]
      exact act_effect hs ((if_pos locked).trans taken) (fun _ _ h => h)
        (State.hearWord_answers (s := { s with out := [] }) slot unsettled acts st role rfl)
    · exact followsAwait_row hs slot unsettled row

end Sys2Proof.Machine


/-!
# The rows of the table: what carries each out (R172, R179, R180, R185; logs 1, 2, 5)

Every row but the reset rows, the tick and the CONTROL write carrying DEVICE_RESET is an effect that `act` carries out.
What no command does to the part follows from the forms of a row alone.
-/

namespace Sys2Proof.Machine

/-! ## The rows of the register window and of the report read -/

theorem exec_eventsClear (v : Word) (s : State) : exec (.eventsClear v) s = act s fun s => s.clearEvents v := rfl

theorem exec_eventMaskWrite (v : Word) (s : State) : exec (.eventMaskWrite v) s = act s fun s => s.writeMask v := rfl

/-- A CONTROL write carrying DEVICE_RESET is that reset (R180, R185). -/
theorem exec_registerWrite_resets {offset : BitVec 6} {v : Word} (control : offset = 0x04) (reset : v.getLsbD 2 = true)
    (s : State) : exec (.registerWrite offset v) s = exec .deviceReset s := if_pos ⟨control, reset⟩

theorem exec_registerWrite_acts {offset : BitVec 6} {v : Word} (other : ¬ (offset = 0x04 ∧ v.getLsbD 2 = true))
    (s : State) : exec (.registerWrite offset v) s = act s fun s => s.writeRegister offset v := if_neg other

/-- The end of a report read, when it is the operation in progress (R176 to R178). -/
def State.reportDone (s : State) (owner : Byte) : State :=
  match s.memHead with
  | some ⟨.reportRead _, abandoned⟩ => if abandoned then s.popMem else s.popMem.reportReturned owner
  | _ => s

theorem exec_reportReadDone (owner : Byte) (s : State) :
    exec (.reportReadDone owner) s = act s fun s => s.reportDone owner := rfl

/-! ## The queue of commands -/

/-- An effect leaves the queue of commands alone (log 1). -/
def KeepsQueue (f : State → State) : Prop := ∀ s, (f s).pending = s.pending

/-- An effect that is taken under a condition. -/
theorem KeepsQueue.onlyIf {P : State → Prop} [DecidablePred P] {f : State → State} (h : KeepsQueue f) :
    KeepsQueue fun s => if P s then f s else s := by
  intro s
  dsimp only
  split_ifs
  · exact h s
  · rfl

section
variable (s : State)

theorem State.settleOver_pending (p : PortNo) : (s.settleOver p).pending = s.pending := by
  unfold State.settleOver; split_ifs <;> simp

theorem State.takeFrame_pending (p : PortNo) (i : LaneNo) (b : List Byte) : (s.takeFrame p i b).pending = s.pending := by
  unfold State.takeFrame; split_ifs <;> simp

theorem State.awaitOver_pending (k : Fin 16) : (s.awaitOver k).pending = s.pending := by
  unfold State.awaitOver; split <;> try split_ifs
  all_goals simp

theorem State.watchdogOver_pending (n : Nat) : (s.watchdogOver n).pending = s.pending := by
  unfold State.watchdogOver; split <;> try split_ifs
  all_goals simp

theorem State.recovered_pending (high : Bool) : (s.recovered high).pending = s.pending := by
  unfold State.recovered; split <;> try split_ifs
  all_goals simp

theorem State.addressNacked_pending : s.addressNacked.pending = s.pending := by
  unfold State.addressNacked; split <;> try split_ifs
  all_goals simp

theorem State.byteNacked_pending (n : Nat) : (s.byteNacked n).pending = s.pending := by
  unfold State.byteNacked; split <;> simp

theorem State.tryCompleted_pending (b : List Byte) : (s.tryCompleted b).pending = s.pending := by
  unfold State.tryCompleted; split <;> try split_ifs
  all_goals simp

theorem State.anchorDone_pending (b : Vector Byte 64) : (s.anchorDone b).pending = s.pending := by
  unfold State.anchorDone; split <;> try split_ifs
  all_goals simp

theorem State.configDone_pending (b : Vector Byte 64) : (s.configDone b).pending = s.pending := by
  unfold State.configDone; split <;> try split_ifs
  all_goals simp

theorem State.descDone_pending (d : Vector Byte 32) : (s.descDone d).pending = s.pending := by
  unfold State.descDone; split <;> try split_ifs
  all_goals simp

theorem State.bufferDone_pending (data : List Byte) : (s.bufferDone data).pending = s.pending := by
  unfold State.bufferDone; split <;> try split_ifs
  all_goals simp

theorem State.fillDone_pending (e : Vector Byte 16) : (s.fillDone e).pending = s.pending := by
  unfold State.fillDone; split <;> simp

theorem State.reportDone_pending (owner : Byte) : (s.reportDone owner).pending = s.pending := by
  unfold State.reportDone; split <;> try split_ifs
  all_goals simp

theorem State.reportWrote_pending : s.reportWrote.pending = s.pending := by
  unfold State.reportWrote; split <;> simp

theorem State.engineWrote_pending : s.engineWrote.pending = s.pending := by
  unfold State.engineWrote; split <;> try split
  all_goals simp

theorem State.takeRequest_pending (k : Kind) (r : Request) :
    (s.takeRequest k r fun s => s.startKind k r).pending = s.pending := by
  unfold State.takeRequest; split_ifs <;> simp

end

/-! ## The forms of a row -/

/-- What carries a row out. -/
inductive RowForm : Instr → Prop
  | powerOn : RowForm .powerOn
  | resetN : RowForm .resetN
  | resetEnd (straps : BitVec 12) (presence : BitVec 32) : RowForm (.resetEnd straps presence)
  | tick : RowForm .tick
  | resets {c : Instr} (row : ∀ s, exec c s = exec .deviceReset s) : RowForm c
  | acts {c : Instr} (f : State → State) (row : ∀ s, exec c s = act s f) (queue : KeepsQueue f) : RowForm c

/-- A write to the window is the reset, or an effect on the registers and on the engine (R180). -/
theorem registerWrite_form (offset : BitVec 6) (v : Word) : RowForm (.registerWrite offset v) := by
  by_cases reset : offset = 0x04 ∧ v.getLsbD 2 = true
  · exact .resets (exec_registerWrite_resets reset.1 reset.2)
  · exact .acts _ (exec_registerWrite_acts reset) fun s => s.writeRegister_pending offset v

/-- A request row hands its request over when the engine can take it (R157; log 7). -/
theorem request_form (k : Kind) (r : Request) : RowForm (k.row r) :=
  .acts _ (exec_row k r) fun s => s.takeRequest_pending k r

/-- An event of one port that occurs under a condition (log 2). -/
theorem portEvent_form {c : Instr} {P : State → Prop} [DecidablePred P] {p : PortNo} {f : Env → Ctl → Ctl}
    (row : ∀ s, exec c s = act s fun s => if P s then s.runPort p f else s) : RowForm c :=
  .acts _ row (.onlyIf fun s => s.runPort_pending p f)

theorem rowForm (c : Instr) : RowForm c := by
  cases c
  case powerOn => exact .powerOn
  case resetN => exact .resetN
  case resetEnd straps presence => exact .resetEnd straps presence
  case deviceReset => exact .resets fun _ => rfl
  case tick => exact .tick
  case engineRestart => exact .acts _ exec_engineRestart State.restartEngine_pending
  case runSet => exact .acts _ exec_runSet State.setRun_pending
  case runClear => exact .acts _ exec_runClear State.clearRun_pending
  case nudgeWork => exact .acts _ exec_nudgeWork State.nudgeWork_pending
  case nudgeReports => exact .acts _ exec_nudgeReports State.nudgeReports_pending
  case eventsClear v => exact .acts _ (exec_eventsClear v) fun s => s.clearEvents_pending v
  case eventMaskWrite v => exact .acts _ (exec_eventMaskWrite v) fun s => s.writeMask_pending v
  case registerWrite offset v => exact registerWrite_form offset v
  case presenceRaised p =>
    refine .acts _ (exec_presenceRaised p) fun s => ?_
    split_ifs
    · rfl
    · exact s.runPort_pending p _
  case presenceLost p => exact .acts _ (exec_presenceLost p) (.onlyIf fun s => s.presenceLost_pending p)
  case alertAsserted p => exact .acts _ (exec_alertAsserted p) fun s => s.handOver_pending p _
  case lockGained p i => exact portEvent_form (exec_lockGained p i)
  case lockLost p i =>
    refine .acts _ (exec_lockLost p i) fun s => ?_
    split
    · exact s.runPort_pending p _
    · exact s.runPort_pending p _
    all_goals rfl
  case delimiterFound p i sense => exact .acts _ (exec_delimiterFound p i sense) (.onlyIf fun s => s.setPort_pending p _)
  case beaconFrame p i bytes => exact .acts _ (exec_beaconFrame p i bytes) fun s => s.takeFrame_pending p i _
  case trainingWord p i bytes => exact .acts _ (exec_trainingWord p i bytes) (.onlyIf fun s => s.takeWord_pending p i _)
  case lineErrorIncrement p i n => exact .acts _ (exec_lineErrorIncrement p i n) fun s => s.runPort_pending p _
  case sendInstant p => exact portEvent_form (exec_sendInstant p)
  case burstSent p => exact portEvent_form (exec_burstSent p)
  case resetPulseExpiry p => exact .acts _ (exec_resetPulseExpiry p) (.onlyIf fun s => s.setPort_pending p _)
  case settleExpiry p => exact .acts _ (exec_settleExpiry p) fun s => s.settleOver_pending p
  case signalWindowExpiry p => exact portEvent_form (exec_signalWindowExpiry p)
  case phaseWaitExpiry p => exact portEvent_form (exec_phaseWaitExpiry p)
  case trainTimeout p => exact portEvent_form (exec_trainTimeout p)
  case dwellExpiry p => exact portEvent_form (exec_dwellExpiry p)
  case testTimerExpiry p => exact portEvent_form (exec_testTimerExpiry p)
  case testSaturated p => exact portEvent_form (exec_testSaturated p)
  case awaitTimeout slot => exact .acts _ (exec_awaitTimeout slot) fun s => s.awaitOver_pending slot
  case scanTimerExpiry => exact .acts _ exec_scanTimerExpiry (.onlyIf fun s => by simp)
  case watchdogExpiry n => exact .acts _ (exec_watchdogExpiry n) fun s => s.watchdogOver_pending n
  case recoveryEnd high => exact .acts _ (exec_recoveryEnd high) fun s => s.recovered_pending high
  case addressNack => exact .acts _ exec_addressNack State.addressNacked_pending
  case byteNack n => exact .acts _ (exec_byteNack n) fun s => s.byteNacked_pending n
  case tryComplete data => exact .acts _ (exec_tryComplete data) fun s => s.tryCompleted_pending data
  case anchorReadDone b => exact .acts _ (exec_anchorReadDone b) fun s => s.anchorDone_pending b
  case configReadDone b => exact .acts _ (exec_configReadDone b) fun s => s.configDone_pending b
  case descriptorReadDone d => exact .acts _ (exec_descriptorReadDone d) fun s => s.descDone_pending d
  case bufferReadDone data => exact .acts _ (exec_bufferReadDone data) fun s => s.bufferDone_pending data
  case fillComplete e => exact .acts _ (exec_fillComplete e) fun s => s.fillDone_pending e
  case reportReadDone owner => exact .acts _ (exec_reportReadDone owner) fun s => s.reportDone_pending owner
  case reportWriteDone => exact .acts _ exec_reportWriteDone State.reportWrote_pending
  case completionWriteDone => exact .acts _ exec_completionWriteDone State.engineWrote_pending
  case memoryFault cause => exact .acts _ (exec_memoryFault cause) (.onlyIf State.fault_pending)
  case drainEnd => exact .acts _ exec_drainEnd (.onlyIf State.finishDrain_pending)
  case portEnable r => exact request_form .portEnable r
  case portDisable r => exact request_form .portDisable r
  case portRestart r => exact request_form .portRestart r
  case portQuery r => exact request_form .portQuery r
  case laneTest r => exact request_form .laneTest r
  case laneTestStop r => exact request_form .laneTestStop r
  case portAwait r => exact request_form .portAwait r
  case moduleRead r => exact request_form .moduleRead r
  case moduleWrite r => exact request_form .moduleWrite r
  case planFlush r => exact request_form .planFlush r
  case capsLimit r => exact request_form .capsLimit r
  case setConfig r => exact request_form .setConfig r

/-! ## Every row answers (R172; logs 1, 2) -/

/-- A command answers a next state and leaves the queue of commands alone. -/
theorem act_keepsQueue {f : State → State} (queue : KeepsQueue f) (s : State) :
    ∃ t, act s f = .next t ∧ t.pending = s.pending := by
  by_cases hs : s.hold = .released
  · exact ⟨_, act_released s f hs, queue _⟩
  · exact ⟨_, act_held s f hs, rfl⟩

theorem exec_tick_pin {s : State} (hold : s.hold = .pin) : exec .tick s = .next { s with out := [] } := by
  show execTick s = _
  unfold execTick
  rw [hold]

theorem exec_tick_timed {s : State} {n : Nat} (hold : s.hold = .timed n) :
    exec .tick s = .next { s with hold := .timed (n - 1), out := [] } := by
  show execTick s = _
  unfold execTick
  rw [hold]

/-- Settles O2: by the form of the row; an effect never touches the queue, and a reset carries it over. -/
theorem everyCommandAnswersANextState : Obligations.EveryCommandAnswersANextState := by
  intro c s
  cases rowForm c with
  | powerOn => exact ⟨_, rfl, rfl⟩
  | resetN => exact ⟨_, rfl, rfl⟩
  | resetEnd straps presence =>
    refine ⟨_, exec_resetEnd straps presence s, ?_⟩
    split_ifs <;> rfl
  | tick =>
    cases hold : s.hold with
    | released => rw [exec_tick s hold]; exact act_keepsQueue State.tick_pending s
    | pin => exact ⟨_, exec_tick_pin hold, rfl⟩
    | timed n => exact ⟨_, exec_tick_timed hold, rfl⟩
  | resets row =>
    rw [row]
    by_cases hs : s.hold = .released
    · exact ⟨_, exec_deviceReset_released hs, rfl⟩
    · exact ⟨_, exec_deviceReset_held hs, rfl⟩
  | acts f row queue => rw [row]; exact act_keepsQueue queue s

/-! ## During a reset (R185; log 5) -/

/-- Settles O5: by the form of the row; the reset rows and the tick are excepted, and neither an effect nor a
DEVICE_RESET is taken while the part is held. -/
theorem nothingElseActsDuringAReset : Obligations.NothingElseActsDuringAReset := by
  refine ⟨fun c s held notPowerOn notResetN notEnd notTick => ?_, fun s hold => ⟨_, exec_tick_pin hold, rfl⟩,
    fun s n hold => exec_tick_timed hold⟩
  cases rowForm c with
  | powerOn => exact absurd rfl notPowerOn
  | resetN => exact absurd rfl notResetN
  | resetEnd straps presence => exact absurd rfl (notEnd straps presence)
  | tick => exact absurd rfl notTick
  | resets row => exact ⟨_, (row s).trans (exec_deviceReset_held held), rfl⟩
  | acts f row queue => exact ⟨_, (row s).trans (act_held s f held), rfl⟩

end Sys2Proof.Machine


/-!
# The register window (R155, R175, R179, R180, R185; logs 19, 34)
-/

namespace Sys2Proof.Machine

/-! ## Two effects, one after the other -/

/-- An effect that sends no message and leaves the hold alone. -/
def QuietEffect (f : State → State) : Prop := ∀ s, (f s).regs = s.regs ∧ (f s).hold = s.hold ∧ (f s).out = s.out

theorem QuietEffect.answers {f : State → State} (quiet : QuietEffect f) {s : State} (hs : s.hold = .released) :
    act s f = .next (f { s with out := [] }) := act_same_regs hs (quiet _).1

theorem State.lines_quiet {s : State} (quiet : s.out = []) : { s with out := [] } = s := by rw [← quiet]

/-- Two quiet effects in one command are the two commands in turn. -/
theorem QuietEffect.act_seq {f g : State → State} (first : QuietEffect f) (second : QuietEffect g) {s : State}
    (hs : s.hold = .released) :
    ∃ u t, act s f = .next u ∧ act u g = .next t ∧ act s (fun s => g (f s)) = .next t := by
  obtain ⟨regs, hold, out⟩ := first { s with out := [] }
  have next := second.answers (hold.trans hs)
  rw [State.lines_quiet out] at next
  have both : QuietEffect fun s => g (f s) := fun s => by
    obtain ⟨regs, hold, out⟩ := first s
    obtain ⟨regs', hold', out'⟩ := second (f s)
    exact ⟨regs'.trans regs, hold'.trans hold, out'.trans out⟩
  exact ⟨_, _, first.answers hs, next, both.answers hs⟩

theorem nudgeWork_quiet : QuietEffect State.nudgeWork :=
  fun s => ⟨s.nudgeWork_regs, s.nudgeWork_hold, s.nudgeWork_out⟩

theorem nudgeReports_quiet : QuietEffect State.nudgeReports :=
  fun s => ⟨s.nudgeReports_regs, s.nudgeReports_hold, s.nudgeReports_out⟩

/-! ## A write to NUDGE (R155, R175; log 19) -/

section
variable (s : State) {v : Word}

theorem State.writeNudge_work (work : v.getLsbD 0 = true) (noReports : v.getLsbD 1 = false) :
    s.writeNudge v = s.nudgeWork := by
  unfold State.writeNudge
  simp only [work, noReports, if_true, Bool.false_eq_true, if_false, ite_self]

theorem State.writeNudge_reports (noWork : v.getLsbD 0 = false) (reports : v.getLsbD 1 = true) :
    s.writeNudge v = s.nudgeReports := by
  unfold State.writeNudge
  simp only [noWork, reports, if_true, Bool.false_eq_true, if_false, ite_self]

theorem State.writeNudge_none (noWork : v.getLsbD 0 = false) (noReports : v.getLsbD 1 = false) : s.writeNudge v = s := by
  unfold State.writeNudge
  simp only [noWork, noReports, Bool.false_eq_true, if_false, ite_self]

theorem State.writeNudge_both (work : v.getLsbD 0 = true) (reports : v.getLsbD 1 = true) : s.writeNudge v =
    if Config.nudgeWorkFirst then s.nudgeWork.nudgeReports else s.nudgeReports.nudgeWork := by
  unfold State.writeNudge
  simp only [work, reports, if_true]

end

/-! ## A write by its offset (R180; log 34) -/

section
variable (s : State) (v : Word)

theorem exec_registerWrite_control : exec (.registerWrite 0x04 v) s =
    if v.getLsbD 2 then exec .deviceReset s
    else if v.getLsbD 1 then exec .engineRestart s
    else if v.getLsbD 0 then exec .runSet s
    else exec .runClear s := by
  by_cases reset : v.getLsbD 2 = true
  · rw [if_pos reset, exec_registerWrite_resets rfl reset]
  · have write : (fun s : State => s.writeRegister 0x04 v) = fun s => s.writeControl v := rfl
    rw [if_neg reset, exec_registerWrite_acts fun h => reset h.2, write]
    unfold State.writeControl
    split_ifs <;> rfl

theorem exec_registerWrite_anchor : exec (.registerWrite 0x08 v) s =
    act s fun s => { s with regs := { s.regs with anchorReg := v } } := rfl

theorem exec_registerWrite_nudge : exec (.registerWrite 0x0C v) s = act s fun s => s.writeNudge v := rfl

theorem exec_registerWrite_events : exec (.registerWrite 0x10 v) s = exec (.eventsClear v) s := rfl

theorem exec_registerWrite_mask : exec (.registerWrite 0x14 v) s = exec (.eventMaskWrite v) s := rfl

/-- IDENT and the offsets without a register ignore a write. -/
theorem State.writeRegister_ignored {offset : BitVec 6} (control : offset ≠ 0x04) (anchor : offset ≠ 0x08)
    (nudge : offset ≠ 0x0C) (events : offset ≠ 0x10) (mask : offset ≠ 0x14) : s.writeRegister offset v = s := by
  unfold State.writeRegister
  rw [if_neg control, if_neg anchor, if_neg nudge, if_neg events, if_neg mask]

end

/-- ANCHOR takes no part in the interrupt condition. -/
theorem irqMessage_anchorReg (s : State) (v : Word) :
    irqMessage s { s with regs := { s.regs with anchorReg := v }, out := [] } = [] := if_pos rfl

theorem act_writeAnchor {s : State} (hs : s.hold = .released) (v : Word) :
    act s (fun s => { s with regs := { s.regs with anchorReg := v } }) =
      .next { s with regs := { s.regs with anchorReg := v }, out := [] } := by
  rw [act_released s _ hs, irqMessage_anchorReg, List.append_nil]

/-- Both bits of one NUDGE write: the two nudges in turn, in the one order or the other (log 19). -/
theorem act_writeNudge_both {s : State} (hs : s.hold = .released) {v : Word} (work : v.getLsbD 0 = true)
    (reports : v.getLsbD 1 = true) :
    (∃ u t, exec .nudgeWork s = .next u ∧ exec .nudgeReports u = .next t ∧ act s (fun s => s.writeNudge v) = .next t) ∨
    ∃ u t, exec .nudgeReports s = .next u ∧ exec .nudgeWork u = .next t ∧ act s (fun s => s.writeNudge v) = .next t := by
  have write : (fun s : State => s.writeNudge v) = _ := funext fun s => s.writeNudge_both work reports
  rw [write]
  cases Config.nudgeWorkFirst with
  | true => exact .inl (nudgeWork_quiet.act_seq nudgeReports_quiet hs)
  | false => exact .inr (nudgeReports_quiet.act_seq nudgeWork_quiet hs)

/-- Settles O10: EVENTS and EVENT_MASK alone change, and the interrupt message with them; a write to the window is the
row of what its offset names. -/
theorem windowWritesActByOffset : Obligations.WindowWritesActByOffset := by
  refine ⟨fun v s hs => ⟨?_, ?_⟩, fun offset v s hs => ⟨?_, ?_, ?_, ?_, ?_, ?_, ?_, ?_, ?_⟩⟩
  · exact act_message (eff := fun s => s.clearEvents v) hs rfl fun o message => ⟨rfl, rfl, message⟩
  · exact act_message (eff := fun s => s.writeMask v) hs rfl fun o message => ⟨rfl, rfl, message⟩
  · rintro rfl; exact exec_registerWrite_control s v
  · rintro rfl; exact act_writeAnchor hs v
  · rintro rfl work noReports
    rw [exec_registerWrite_nudge, funext fun s : State => s.writeNudge_work work noReports]
    rfl
  · rintro rfl noWork reports
    rw [exec_registerWrite_nudge, funext fun s : State => s.writeNudge_reports noWork reports]
    rfl
  · rintro rfl noWork noReports
    exact act_unchanged s (fun s => s.writeNudge v) hs (State.writeNudge_none _ noWork noReports)
  · rintro rfl work reports; exact act_writeNudge_both hs work reports
  · rintro rfl; exact exec_registerWrite_events s v
  · rintro rfl; exact exec_registerWrite_mask s v
  · intro control anchor nudge events mask
    rw [exec_registerWrite_acts fun h => control h.1]
    exact act_unchanged s _ hs (State.writeRegister_ignored _ v control anchor nudge events mask)

end Sys2Proof.Machine


/-!
# The report read and the report entry (R175 to R179, R188)
-/

namespace Sys2Proof.Machine

/-! ## The layout of an entry (Formats, R188) -/

/-- The flags byte of a report entry; the reserved bit is 0 (R188). -/
theorem reportFlags_bits (lanes : LaneSet) (present : Bool) (role : Role) :
    let b := lanes.zeroExtend 8 ||| flagBit present 4 ||| (role.code <<< 5)
    b.extractLsb' 0 4 = lanes ∧ b.getLsbD 4 = present ∧ b.extractLsb' 5 2 = role.code.extractLsb' 0 2 ∧
    b.getLsbD 7 = false := by
  revert lanes present
  cases role <;> decide

section
variable (p : PortNo) (kinds : BitVec 5) (count : Nat) (c : Port) (ms : BitVec 32)

theorem reportEntry_parts : ∃ front : List Byte, front.length = 12 ∧ (2 : Byte) :: reportBytes p kinds count c ms =
    front ++ (toLE 4 ms.toNat ++ (farBytes c.far ++ (zeros 13 ++ []))) :=
  ⟨((2 : Byte) :: reportBytes p kinds count c ms).take 12, rfl, by simp [reportBytes]⟩

theorem farBytes_length (f : Option CableEnd) : (farBytes f).length = 3 := by cases f <;> rfl

/-- The far end of an entry, and the reserved bytes after it. -/
theorem reportEntry_tail : let e := (2 : Byte) :: reportBytes p kinds count c ms
    e.length = 32 ∧ leField e 12 4 = ms.toNat ∧ PartAt e 16 (farBytes c.far) ∧ PartAt e 19 (zeros 13) := by
  intro e
  obtain ⟨front, len, parts⟩ := reportEntry_parts p kinds count c ms
  have e_eq : e = _ := parts
  have word : (toLE 4 ms.toNat).length = 4 := rfl
  have far := farBytes_length c.far
  have time : PartAt e 12 (toLE 4 ms.toNat) := by rw [e_eq]; exact partAt_append len
  refine ⟨by rw [e_eq]; simp [len, word, far, zeros],
    (leField_of_toLE (n := 4) time).trans (Nat.mod_eq_of_lt ms.isLt), ?_, ?_⟩
  · rw [e_eq, ← List.append_assoc]
    exact partAt_append (by simp [len, word])
  · rw [e_eq, ← List.append_assoc, ← List.append_assoc]
    exact partAt_append (by simp [len, word, far])

end

/-! ## The end of a report read -/

/-- A command whose effect from quiet lines is known and leaves the registers alone answers that effect. -/
theorem act_eq_next {s u : State} {eff : State → State} (hs : s.hold = .released) (he : eff { s with out := [] } = u)
    (regs : u.regs = s.regs) : act s eff = .next u := by
  subst he
  exact act_same_regs hs regs

section
variable {s : State} {owner : Byte} {a : Nat}

theorem State.reportDone_idle (h : ∀ x y, ¬ InProgress s (.reportRead x) y) : s.reportDone owner = s := by
  unfold State.reportDone
  split
  · rename_i head
    exact absurd head (h _ _)
  · rfl

theorem State.reportDone_abandoned (h : InProgress s (.reportRead a) true) : s.reportDone owner = s.popMem := by
  unfold State.reportDone
  rw [show s.memHead = _ from h]
  rfl

theorem State.reportDone_returns (h : InProgress s (.reportRead a) false) :
    s.reportDone owner = s.popMem.reportReturned owner := by
  unfold State.reportDone
  rw [show s.memHead = _ from h]
  rfl

/-! ## What a read finds (R176, R177) -/

theorem State.reportReturned_idle (rests : s.we.st.working = false) : s.reportReturned owner = s.writerIdle :=
  if_neg (by rw [rests]; exact Bool.false_ne_true)

theorem State.reportReturned_empty {p : PortNo} {rest : List PortNo} (working : s.we.st.working = true)
    (empty : owner = 1) (queue : s.rep.queue = p :: rest) : s.reportReturned owner = s.writeReport p rest := by
  unfold State.reportReturned
  rw [if_pos working, if_pos (show owner = ownEmpty from empty), queue]

theorem State.reportReturned_other (working : s.we.st.working = true) (other : owner ≠ 1) :
    s.reportReturned owner = s.reportBlocked :=
  (if_pos working).trans (if_neg other)

theorem State.reportBlocked_again (again : s.rep.reread = true) : s.reportBlocked = { s with
    rep := { s.rep with phase := .reading, reread := false }
    mm := { s.mm with ops := s.mm.ops ++ [⟨.reportRead s.reportAddr, false⟩] } } := if_pos again

theorem State.reportBlocked_stalled (once : s.rep.reread = false) (stalled : s.rep.stallFlag = true) :
    s.reportBlocked = { s with rep := { s.rep with phase := .stalled } } := by
  unfold State.reportBlocked
  rw [if_neg (by simp [once]), if_pos stalled]

/-- The start of a stall's episode sets STALL (R177, R179). -/
theorem State.reportBlocked_stalls (once : s.rep.reread = false) (flows : s.rep.stallFlag = false) :
    s.reportBlocked = State.raise { s with rep := { s.rep with phase := .stalled, stallFlag := true } } evStall := by
  unfold State.reportBlocked
  rw [if_neg (by simp [once]), if_neg (by simp [flows])]

/-- A report written: its record empties, it joins those in flight, and the read for the next follows its two writes
(R175, R176). -/
theorem State.writeReport_eq (p : PortNo) (rest : List PortNo) (working : s.we.st.working = true) :
    s.writeReport p rest = { s with
      rep := { s.rep with
        recs := s.rep.recs.set p (⟨0, 0⟩ : ReportRec)
        queue := rest
        inflight := s.rep.inflight ++ [(⟨p, s.rep.recs[p].kinds, s.rep.recs[p].count, s.rep.cursor⟩ : InFlight)]
        cursor := (s.rep.cursor + 1) % s.we.anchor.reportCount
        phase := if rest = [] then .idle else .reading
        reread := false
        stallFlag := false }
      mm := { s.mm with ops := s.mm.ops ++
        [⟨.reportBody (s.reportAddr + 1)
            (reportBytes p s.rep.recs[p].kinds s.rep.recs[p].count (s.port p) s.ms), false⟩,
          ⟨.reportFilled s.reportAddr 2, false⟩] ++
        if rest = [] then [] else
          [⟨.reportRead (s.we.anchor.reportBase + 32 * ((s.rep.cursor + 1) % s.we.anchor.reportCount)), false⟩] }
      regs := { s.regs with events := s.regs.events ||| evReport } } := by
  unfold State.writeReport
  rw [State.triggerReport_eq]
  cases rest with
  | nil => simp [State.reportReads, State.push, State.raise, State.reportAddr, ownFilled]
  | cons q rest => simp [State.reportReads, State.push, State.raise, State.reportAddr, ownFilled, working]

end

/-- Settles O41: the entry part by part; a read that returns by what the engine is about, the byte it finds, and whether
another read was asked for. -/
theorem theReportReadWritesAReport : Obligations.TheReportReadWritesAReport := by
  refine ⟨fun p kinds count c ms => ?_, fun owner a s hs => ⟨fun other => ?_, fun head => ?_, fun head => ?_⟩⟩
  · intro e
    obtain ⟨length, time, far, reserved⟩ := reportEntry_tail p kinds count c ms
    obtain ⟨lanes, present, role, clear⟩ := reportFlags_bits c.laneSet c.present c.role
    obtain ⟨chassis, port⟩ := farBytes_fields c.far
    have room := farBytes_length c.far
    have portByte : (BitVec.ofNat 8 p.val).toNat = p.val := by
      rw [BitVec.toNat_ofNat]; exact Nat.mod_eq_of_lt (by omega)
    refine ⟨length, portByte, rfl, BitVec.toNat_ofNat _ _, rfl, rfl, rfl, gradeByte_toNat c.agreed, lanes, present,
      role, clear, rfl, BitVec.toNat_ofNat _ _, rfl, time, ?_, ?_, fun k low => ?_⟩
    · exact (far.leField_add (k := 0) (n := 2) (by omega)).trans chassis
    · exact (congrArg _ (far.byteAt_add (k := 2) (by omega))).trans port
    · by_cases high : k < 32
      · exact reserved.reserved low high
      · exact List.getD_eq_default _ _ (length ▸ not_lt.1 high)
  · exact act_idle (f := fun s => s.reportDone owner) hs (State.reportDone_idle other)
  · exact act_eq_next (eff := fun s => s.reportDone owner) hs (State.reportDone_abandoned head) rfl
  · have returned : State.reportDone { s with out := [] } owner = (Popped s).reportReturned owner :=
      State.reportDone_returns (s := { s with out := [] }) head
    have blocked (working : s.we.st.working = true) (other : owner ≠ 1) :
        State.reportDone { s with out := [] } owner = (Popped s).reportBlocked :=
      returned.trans (State.reportReturned_other (s := Popped s) working other)
    simp only [exec_reportReadDone]
    refine ⟨fun rests => ?_, fun p rest working empty queue => ?_, fun working other again => ?_,
      fun working other once stalled => ?_, fun working other once flows => ?_⟩
    · exact act_eq_next hs (returned.trans (State.reportReturned_idle (s := Popped s) rests)) rfl
    · have effect := returned.trans ((State.reportReturned_empty (s := Popped s) working empty queue).trans
        (State.writeReport_eq p rest working))
      refine act_message hs (by rw [effect]; rfl) fun o message => ?_
      rw [effect] at message ⊢
      exact ⟨rfl, rfl, rfl, rfl, rfl, rfl, ⟨rfl, rfl, rfl, rfl⟩, ⟨rfl, rfl⟩, message⟩
    · exact act_eq_next hs ((blocked working other).trans (State.reportBlocked_again again)) rfl
    · exact act_eq_next hs ((blocked working other).trans (State.reportBlocked_stalled once stalled)) rfl
    · have effect := (blocked working other).trans (State.reportBlocked_stalls once flows)
      refine act_message hs (by rw [effect]; rfl) fun o message => ?_
      rw [effect] at message ⊢
      exact ⟨rfl, rfl, rfl, rfl, rfl, rfl, ⟨rfl, rfl, rfl, rfl⟩, ⟨rfl, rfl⟩, message⟩

end Sys2Proof.Machine


/-!
# The step by the queue of commands (log 1)

What a step does with each form of the queue.
-/

namespace Sys2Proof.Machine

/-- An empty queue idles. -/
theorem step_of_pending_nil {s : State} (empty : s.pending = []) : step s = .next s := by
  simp only [step, empty]

/-- The front command is carried out on the state that holds the queue's rest. -/
theorem step_of_pending_cons {c : Instr} {rest : List Instr} {s : State} (queue : s.pending = c :: rest) :
    step s = exec c { s with pending := rest } := by
  simp only [step, queue]

/-- Settles O1, by the two forms of the queue. A queue put in place of the state's own is replaced whole by its rest. -/
theorem stepRunsTheFrontCommand : Obligations.StepRunsTheFrontCommand :=
  ⟨fun c rest s => step_of_pending_cons (s := { s with pending := c :: rest }) rfl,
    fun _ empty => step_of_pending_nil empty⟩

end Sys2Proof.Machine
